-- ==== Sys2Proof/Word.lean ====
section
/-! DEFINITION. The words of the links: a byte, and 16-bit sets (the alert causes). Everything else the manual counts is a
natural number or an integer (00_scope.md 0.7: all arithmetic is on integers, formed wide enough not to overflow). -/

namespace Sys2Proof

/-- One character of a frame (R157, R171). -/
abbrev Byte := BitVec 8

/-- Two bytes of a frame, high byte first on the line (R170); also a set of alert causes, cause n at bit n - 1. -/
abbrev Word16 := BitVec 16

end Sys2Proof
end

