-- ==== Sys2Proof/Ident.lean ====
section
/-! DEFINITION. The identifiers of 00_scope.md 0.5 and 0.8, and records that hold one value for each of them. -/

namespace Sys2Proof

/-- The pumps P1 .. P8 (ids 1 .. 8). -/
inductive PumpId where | p1 | p2 | p3 | p4 | p5 | p6 | p7 | p8
  deriving DecidableEq, Repr

/-- The portals PE (id 9) and PW (id 10); also the key switches 1 (east) and 2 (west), one at each portal. -/
inductive PortalId where | pe | pw
  deriving DecidableEq, Repr

/-- The lamp zones Z1 .. Z6 (ids 11 .. 16). -/
inductive ZoneId where | z1 | z2 | z3 | z4 | z5 | z6
  deriving DecidableEq, Repr

/-- The seventeen units (0.5); the outfall OF is unit 17. -/
inductive UnitId where
  | pump (i : PumpId)
  | portal (i : PortalId)
  | zone (z : ZoneId)
  | outfall
  deriving DecidableEq, Repr

/-- The sumps C, E and W. -/
inductive SumpId where | c | e | w
  deriving DecidableEq, Repr

/-- The two links. -/
inductive Link where | field | panel
  deriving DecidableEq, Repr

/-- The two portal luminance sensors, and the side setting of a zone. -/
inductive Side where | east | west
  deriving DecidableEq, Repr

/-- The two float switches of a sump. -/
inductive FloatId where | high | extreme
  deriving DecidableEq, Repr

/-- The four limit switches of a portal. -/
inductive LimitId where | gateOpen | gateClosed | barrierRaised | barrierLowered
  deriving DecidableEq, Repr

/-- The four occupancy loops. -/
inductive LoopId where | l1 | l2 | l3 | l4
  deriving DecidableEq, Repr

/-! ### One value for each identifier -/

/-- One value for each pump. -/
structure PerPump (α : Type) where
  (p1 p2 p3 p4 p5 p6 p7 p8 : α)
  deriving DecidableEq, Repr

/-- One value for each portal. -/
structure PerPortal (α : Type) where
  (pe pw : α)
  deriving DecidableEq, Repr

/-- One value for each lamp zone. -/
structure PerZone (α : Type) where
  (z1 z2 z3 z4 z5 z6 : α)
  deriving DecidableEq, Repr

/-- One value for each sump. -/
structure PerSump (α : Type) where
  (c e w : α)
  deriving DecidableEq, Repr

/-- One value for each link. -/
structure PerLink (α : Type) where
  (field panel : α)
  deriving DecidableEq, Repr

/-- One value for each luminance side. -/
structure PerSide (α : Type) where
  (east west : α)
  deriving DecidableEq, Repr

/-- One value for each of the seventeen units. -/
structure PerUnit (α : Type) where
  pumps : PerPump α
  portals : PerPortal α
  zones : PerZone α
  outfall : α
  deriving DecidableEq, Repr

variable {α β : Type}

/-- The value of one pump. -/
def PerPump.get (t : PerPump α) : PumpId → α
  | .p1 => t.p1 | .p2 => t.p2 | .p3 => t.p3 | .p4 => t.p4
  | .p5 => t.p5 | .p6 => t.p6 | .p7 => t.p7 | .p8 => t.p8

/-- The record with one pump's value replaced. -/
def PerPump.set (t : PerPump α) (i : PumpId) (v : α) : PerPump α :=
  match i with
  | .p1 => { t with p1 := v } | .p2 => { t with p2 := v } | .p3 => { t with p3 := v } | .p4 => { t with p4 := v }
  | .p5 => { t with p5 := v } | .p6 => { t with p6 := v } | .p7 => { t with p7 := v } | .p8 => { t with p8 := v }

/-- The same value for every pump. -/
def PerPump.all (v : α) : PerPump α := ⟨v, v, v, v, v, v, v, v⟩

/-- The value of one portal. -/
def PerPortal.get (t : PerPortal α) : PortalId → α
  | .pe => t.pe | .pw => t.pw

/-- The record with one portal's value replaced. -/
def PerPortal.set (t : PerPortal α) (i : PortalId) (v : α) : PerPortal α :=
  match i with
  | .pe => { t with pe := v } | .pw => { t with pw := v }

/-- The same value for both portals. -/
def PerPortal.all (v : α) : PerPortal α := ⟨v, v⟩

/-- The value of one zone. -/
def PerZone.get (t : PerZone α) : ZoneId → α
  | .z1 => t.z1 | .z2 => t.z2 | .z3 => t.z3 | .z4 => t.z4 | .z5 => t.z5 | .z6 => t.z6

/-- The record with one zone's value replaced. -/
def PerZone.set (t : PerZone α) (z : ZoneId) (v : α) : PerZone α :=
  match z with
  | .z1 => { t with z1 := v } | .z2 => { t with z2 := v } | .z3 => { t with z3 := v }
  | .z4 => { t with z4 := v } | .z5 => { t with z5 := v } | .z6 => { t with z6 := v }

/-- The same value for every zone. -/
def PerZone.all (v : α) : PerZone α := ⟨v, v, v, v, v, v⟩

/-- The record whose value for each zone is computed from the zone and its present value. -/
def PerZone.mapZ (f : ZoneId → α → β) (t : PerZone α) : PerZone β :=
  ⟨f .z1 t.z1, f .z2 t.z2, f .z3 t.z3, f .z4 t.z4, f .z5 t.z5, f .z6 t.z6⟩

/-- The value of one sump. -/
def PerSump.get (t : PerSump α) : SumpId → α
  | .c => t.c | .e => t.e | .w => t.w

/-- The record with one sump's value replaced. -/
def PerSump.set (t : PerSump α) (i : SumpId) (v : α) : PerSump α :=
  match i with
  | .c => { t with c := v } | .e => { t with e := v } | .w => { t with w := v }

/-- The same value for every sump. -/
def PerSump.all (v : α) : PerSump α := ⟨v, v, v⟩

/-- The value of one link. -/
def PerLink.get (t : PerLink α) : Link → α
  | .field => t.field | .panel => t.panel

/-- The record with one link's value replaced. -/
def PerLink.set (t : PerLink α) (l : Link) (v : α) : PerLink α :=
  match l with
  | .field => { t with field := v } | .panel => { t with panel := v }

/-- The same value for both links. -/
def PerLink.all (v : α) : PerLink α := ⟨v, v⟩

/-- The value of one side. -/
def PerSide.get (t : PerSide α) : Side → α
  | .east => t.east | .west => t.west

/-- The record with one side's value replaced. -/
def PerSide.set (t : PerSide α) (d : Side) (v : α) : PerSide α :=
  match d with
  | .east => { t with east := v } | .west => { t with west := v }

/-- The same value for both sides. -/
def PerSide.all (v : α) : PerSide α := ⟨v, v⟩

/-- The value of one unit. -/
def PerUnit.get (t : PerUnit α) : UnitId → α
  | .pump i => t.pumps.get i
  | .portal i => t.portals.get i
  | .zone z => t.zones.get z
  | .outfall => t.outfall

/-- The record with one unit's value replaced. -/
def PerUnit.set (t : PerUnit α) (u : UnitId) (v : α) : PerUnit α :=
  match u with
  | .pump i => { t with pumps := t.pumps.set i v }
  | .portal i => { t with portals := t.portals.set i v }
  | .zone z => { t with zones := t.zones.set z v }
  | .outfall => { t with outfall := v }

/-- The pumps in the order of their ids. -/
def PumpId.every : List PumpId := [.p1, .p2, .p3, .p4, .p5, .p6, .p7, .p8]

/-- The portals in the order of their ids. -/
def PortalId.every : List PortalId := [.pe, .pw]

/-- The zones in the order of their ids. -/
def ZoneId.every : List ZoneId := [.z1, .z2, .z3, .z4, .z5, .z6]

/-- The sumps in the order C, E, W (R83). -/
def SumpId.every : List SumpId := [.c, .e, .w]

/-- The units in the order of their ids (0.5). -/
def UnitId.every : List UnitId :=
  PumpId.every.map .pump ++ (PortalId.every.map .portal ++ (ZoneId.every.map .zone ++ [.outfall]))

/-- The id of a unit (0.5). -/
def UnitId.number : UnitId → Nat
  | .pump .p1 => 1 | .pump .p2 => 2 | .pump .p3 => 3 | .pump .p4 => 4
  | .pump .p5 => 5 | .pump .p6 => 6 | .pump .p7 => 7 | .pump .p8 => 8
  | .portal .pe => 9 | .portal .pw => 10
  | .zone .z1 => 11 | .zone .z2 => 12 | .zone .z3 => 13 | .zone .z4 => 14 | .zone .z5 => 15 | .zone .z6 => 16
  | .outfall => 17

/-- The unit of an id, if the id is 1 .. 17. -/
def UnitId.ofNumber (n : Nat) : Option UnitId := UnitId.every.find? (fun u => u.number == n)

end Sys2Proof
end

