-- ==== Sys2Proof/Syntax.lean ====
section
/-! DEFINITION. The commands: one constructor for each row of spec/opcode_table.json.

A request of a station is a sound frame that has just completed on a link (R160, R161), given by its link, its tag and its
body; its kind is the constructor, its station byte the link's. An event of the plant carries the pin and its new level
(log 14), a sample the analog counts read (log 15). A timer's expiry is a command of its own (log 1). -/

namespace Sys2Proof

/-- How a store write ends (R184): the store took it and reads back equal; the store did not take it; the read-back differs. -/
inductive WriteEnd where | succeeded | notTaken | readBackDiffers
  deriving DecidableEq, Repr

/-- The two float contacts of one sump: true while the contact is CLOSED (R60). -/
structure FloatPins where
  high : Bool
  extreme : Bool
  deriving DecidableEq, Repr

/-- The limit switches and the safety edge of one portal: true while active (0.8). -/
structure PortalPins where
  gateOpen : Bool
  gateClosed : Bool
  barrierRaised : Bool
  barrierLowered : Bool
  edge : Bool
  deriving DecidableEq, Repr

/-- The occupancy loops: true while occupied. -/
structure LoopPins where
  (l1 l2 l3 l4 : Bool)
  deriving DecidableEq, Repr

/-- The digital input pins (0.8) as they stand. -/
structure Inputs where
  /-- running feedback of each pump, true while active (R87) -/
  feedback : PerPump Bool
  /-- thermal trip of each pump, true while active (R88) -/
  thermal : PerPump Bool
  /-- dry-run of each pump, true while active (R81, R89) -/
  dryRun : PerPump Bool
  /-- float contacts of each sump (R60) -/
  floats : PerSump FloatPins
  /-- limits and safety edge of each portal (R119, R127) -/
  portals : PerPortal PortalPins
  /-- occupancy loops (R124) -/
  loops : LoopPins
  /-- key switches, true while turned on (R25) -/
  keys : PerPortal Bool
  /-- GRID_OK (R98) -/
  gridOk : Bool
  /-- STANDBY_OK (R98) -/
  standbyOk : Bool
  deriving DecidableEq, Repr

/-- What a start-up meets outside the part (log 16): the straps it reads (R158) and how the clearing of a failed
lockout area would end (R190 step 4). -/
structure BootIn where
  straps : Byte
  clearing : WriteEnd
  deriving DecidableEq, Repr

/-- What is wrong with a faulty byte (R159). -/
inductive ByteFault where | framing | parity | lengthOver200
  deriving DecidableEq, Repr

/-- The commands of the block: the rows of spec/opcode_table.json in the table's order. -/
inductive Instr where
  | place (l : Link) (tag : Byte) (body : List Byte)
  | amend (l : Link) (tag : Byte) (body : List Byte)
  | withdraw (l : Link) (tag : Byte) (body : List Byte)
  | lookupOrder (l : Link) (tag : Byte) (body : List Byte)
  | listOrders (l : Link) (tag : Byte) (body : List Byte)
  | setAuthority (l : Link) (tag : Byte) (body : List Byte)
  | readUnit (l : Link) (tag : Byte) (body : List Byte)
  | setService (l : Link) (tag : Byte) (body : List Byte)
  | handDrive (l : Link) (tag : Byte) (body : List Byte)
  | setUnitConfig (l : Link) (tag : Byte) (body : List Byte)
  | resetFault (l : Link) (tag : Byte) (body : List Byte)
  | readSump (l : Link) (tag : Byte) (body : List Byte)
  | setSumpConfig (l : Link) (tag : Byte) (body : List Byte)
  | restartSection (l : Link) (tag : Byte) (body : List Byte)
  | setRingOrder (l : Link) (tag : Byte) (body : List Byte)
  | readPlant (l : Link) (tag : Byte) (body : List Byte)
  | setSupplyConfig (l : Link) (tag : Byte) (body : List Byte)
  | setLuminanceConfig (l : Link) (tag : Byte) (body : List Byte)
  | setLinkConfig (l : Link) (tag : Byte) (body : List Byte)
  | readAlerts (l : Link) (tag : Byte) (body : List Byte)
  | ackAlerts (l : Link) (tag : Byte) (body : List Byte)
  | setAlertMasks (l : Link) (tag : Byte) (body : List Byte)
  | readChanges (l : Link) (tag : Byte) (body : List Byte)
  | clearChanges (l : Link) (tag : Byte) (body : List Byte)
  | setReporting (l : Link) (tag : Byte) (body : List Byte)
  | saveConfig (l : Link) (tag : Byte) (body : List Byte)
  | restartController (l : Link) (tag : Byte) (body : List Byte)
  /-- a sound request of a kind that R171 does not list -/
  | unknownKind (l : Link) (kind tag : Byte) (body : List Byte)
  /-- a complete frame, lead byte to second check byte, that fails a check of R160 -/
  | frameDiscarded (l : Link) (frame : List Byte)
  /-- a sound byte arrives more than 10 ms after the byte before it in a frame (R159) -/
  | frameAbandoned (l : Link) (late : Byte)
  | replyStart (l : Link)
  /-- the last byte of a reply has been sent; `boot` is met only by the start-up that a restart reply begins (R189) -/
  | replyEnd (l : Link) (boot : BootIn)
  | lockoutWriteEnd (how : WriteEnd)
  | saveEnd (how : WriteEnd)
  /-- power returns: the pins as found, and whether a write in progress had changed its first byte when it was cut off (R184) -/
  | startUp (pins : Inputs) (cutInside : Bool) (boot : BootIn)
  | orderExpiry (number : Nat)
  | keySwitchChange (k : PortalId) (on : Bool)
  | keyDebounceExpiry (k : PortalId)
  | sumpSample (u : SumpId) (countA countB : Nat)
  | floatInputChange (u : SumpId) (f : FloatId) (closed : Bool)
  | floatDebounceExpiry (u : SumpId) (f : FloatId)
  | stageHoldExpiry (u : SumpId)
  | dryRunInputChange (i : PumpId) (active : Bool)
  | dryRunStop (i : PumpId)
  | runningFeedbackChange (i : PumpId) (active : Bool)
  | noStart (i : PumpId)
  | lostRun (i : PumpId)
  | thermalTrip (i : PumpId) (active : Bool)
  | surgeEnd (i : PumpId)
  | minRunExpiry (i : PumpId)
  | restEnd (i : PumpId)
  | startListEntryExpiry (i : PumpId)
  | supplyInputChange (gridOk standbyOk : Bool)
  | transferTimeout
  | spacingExpiry
  | waitLimitReached (u : UnitId)
  | warningExpiry (i : PortalId)
  | limitSwitchChange (i : PortalId) (sw : LimitId) (active : Bool)
  | travelTimerExpiry (i : PortalId)
  | handTravelExpiry (i : PortalId)
  | occupancyLoopChange (lp : LoopId) (occupied : Bool)
  | clearConfirmExpiry (i : PortalId)
  | clearLimitExpiry (i : PortalId)
  | safetyEdgeChange (i : PortalId) (active : Bool)
  | retryDelayExpiry (i : PortalId)
  | luminanceSample (d : Side) (count : Nat)
  | luminanceLoss (d : Side)
  | deficitMeasurement (z : ZoneId) (count : Nat)
  | rampStep (z : ZoneId)
  | moderationExpiry (l : Link)
  | faultyFrameByte (l : Link) (why : ByteFault)
  deriving DecidableEq, Repr

end Sys2Proof
end

