-- ==== Sys2Proof/Config.lean ====
section
/-! DEFINITION. The fixed numbers of the part. The spec gives every one of them; none is a choice of an implementation, and no
result of a command is left undefined by the spec, so this model has no free value. Times are in milliseconds. -/

namespace Sys2Proof.Config

/-- FIELD and PANEL orders together number at most 30 (R5). -/
def linkOrderLimit : Nat := 30
/-- A changed set holds at most 64 entries (R179). -/
def changedSetLimit : Nat := 64
/-- READ CHANGES returns at most 20 entries (R182). -/
def changesPerRead : Nat := 20
/-- LIST ORDERS returns at most 8 records (R20). -/
def ordersPerList : Nat := 8
/-- A start list holds at most 12 entries (R94). -/
def startListLimit : Nat := 12
/-- An entry leaves a start list 3600 s after it joined (R94). -/
def startEntryLife : Nat := 3600000
/-- A luminance window holds at most 8 samples (R142). -/
def windowLimit : Nat := 8
/-- A side is lost after 60 s without a valid sample (R143). -/
def luminanceLossTime : Nat := 60000
/-- Stability time of a key switch (R25). -/
def keyStableTime : Nat := 1000
/-- Stability time of a float (R60). -/
def floatStableTime : Nat := 2000
/-- Time without running feedback that makes a LOST_RUN (R87). -/
def lostRunTime : Nat := 1000
/-- Time of an active dry-run input that stops a RUNNING pump (R89). -/
def dryRunTime : Nat := 5000
/-- The output must have been steady for 5 s before a deficit comparison (R149). -/
def deficitSteadyTime : Nat := 5000
/-- The eighth consecutive invalid sample enters FLOAT (R56). -/
def floatAfterInvalid : Nat := 8
/-- The fortieth level-producing sample after a rate instant is the next one (R58): the count before it. -/
def rateCountLast : Nat := 39
/-- The longest quiet inside a frame, in ms (R159). -/
def frameGap : Nat := 10
/-- The lead byte of a frame (R171). -/
def leadByte : Byte := 0x5A
/-- The longest body of a frame (R159, R171). -/
def bodyLimit : Nat := 200
/-- The address used when the straps give none (R158). -/
def defaultAddress : Byte := 247

end Sys2Proof.Config
end

