-- ==== Sys2Proof/Machine/Types.lean ====
section
/-! DEFINITION. The records that State is made of, block by block (00_scope.md 0.4). -/

namespace Sys2Proof.Machine

/-! ### Time -/

/-- A timer: stopped; held at an elapsed time in ms without counting (paused, or waiting to be driven); or counting since an
instant of the clock (log 32). -/
inductive Timer where
  | stopped
  | held (ms : Nat)
  | since (start : Nat)
  deriving DecidableEq, Repr

/-! ### Working configuration (R184) -/

/-- The field bit rates of R168, codes 1, 2 and 3. -/
inductive BitRate where | b9600 | b19200 | b38400
  deriving DecidableEq, Repr

/-- Service states (R31). -/
inductive Service where | inService | inHand | outOfService
  deriving DecidableEq, Repr

/-- Pump settings (R97), in the table's order. -/
structure PumpCfg where
  sump : SumpId
  load : Nat
  surge : Nat
  surgeTime : Nat
  minRun : Nat
  minRest : Nat
  startsPerHour : Nat
  confirmLimit : Nat
  deriving DecidableEq, Repr

/-- Portal settings (6.10), in the table's order. -/
structure PortalCfg where
  closureStage : Nat
  warningTime : Nat
  barrierTravel : Nat
  gateTravel : Nat
  clearConfirm : Nat
  clearLimit : Nat
  retryDelay : Nat
  retryCount : Nat
  motorKw : Nat
  deriving DecidableEq, Repr

/-- Zone roles (7.8). -/
inductive Role where | threshold | transition | interior | egress
  deriving DecidableEq, Repr

/-- Zone settings (7.8), in the table's order. -/
structure ZoneCfg where
  role : Role
  side : Side
  installed : Nat
  lmax : Nat
  floor : Nat
  alertFloor : Nat
  shed : Nat
  k : Nat
  f : Nat
  rampUp : Nat
  rampDown : Nat
  tolerance : Nat
  fullScale : Nat
  deriving DecidableEq, Repr

/-- CALIBRATION group (3.11). -/
structure Calibration where
  (za zb ka kb d reload : Nat)
  deriving DecidableEq, Repr

/-- STAGING group (3.11). -/
structure Staging where
  (t1 t2 t3 t4 h hold rateThreshold lead w : Nat)
  deriving DecidableEq, Repr

/-- Float polarity (R60). -/
inductive Polarity where | normallyOpen | normallyClosed
  deriving DecidableEq, Repr

/-- FLOATS group (3.11). -/
structure FloatCfg where
  high : Polarity
  extreme : Polarity
  deriving DecidableEq, Repr

/-- Start level S_k and stop level P_k of one ring position (R78). -/
structure PosLevel where
  start : Nat
  stop : Nat
  deriving DecidableEq, Repr

/-- The settings of one sump section (3.11) with its duty ring (R74); positions holds four pairs (R78). -/
structure SumpCfg where
  calibration : Calibration
  staging : Staging
  floats : FloatCfg
  positions : List PosLevel
  ring : List PumpId
  deriving DecidableEq, Repr

/-- A set of ranks (R7). -/
structure RankSet where
  lockout : Bool
  overriding : Bool
  standing : Bool
  deriving DecidableEq, Repr

/-- An authority map (R7). -/
structure AuthorityMap where
  ranks : PerUnit RankSet
  dormantAccept : Bool
  defaultYield : Nat
  deriving DecidableEq, Repr

/-- Reporting settings of one link (R183). -/
structure Reporting where
  threshold : Nat
  moderation : Nat
  clearOnRead : Bool
  deriving DecidableEq, Repr

/-- The supply group (5.4). -/
structure SupplyCfg where
  (grid standby transferLimit spacing waitLimit : Nat)
  deriving DecidableEq, Repr

/-- The working configuration (R184). The outfall has no service state of its own: it is IN_SERVICE at all times (R32). -/
structure WorkConfig where
  fieldRate : BitRate
  pumpService : PerPump Service
  portalService : PerPortal Service
  zoneService : PerZone Service
  pumps : PerPump PumpCfg
  portals : PerPortal PortalCfg
  zones : PerZone ZoneCfg
  sumps : PerSump SumpCfg
  /-- authority map of each link's issuer: FIELD's and PANEL's -/
  authority : PerLink AuthorityMap
  masks : Word16
  reporting : PerLink Reporting
  luminanceScale : PerSide Nat
  supply : SupplyCfg
  deriving DecidableEq, Repr

/-! ### Order Table (chapter 1) -/

inductive Issuer where | field | panel | key
  deriving DecidableEq, Repr

inductive Rank where | lockout | overriding | standing
  deriving DecidableEq, Repr

inductive Verb where | run | stop | open | close | hold | level | limit | lock
  deriving DecidableEq, Repr

inductive Governance where | governing | outranked | dormant
  deriving DecidableEq, Repr

/-- An order record (R1). `expiresAt` is the instant at which the remaining expiry reaches 0; the remaining seconds of R3 are
counted from it (`Order.remaining`). -/
structure Order where
  number : Nat
  issuer : Issuer
  holder : Nat
  unit : UnitId
  rank : Rank
  verb : Verb
  arg : Option Nat
  yieldStage : Option Nat
  expiresAt : Option Nat
  revision : Byte
  governance : Governance
  deriving DecidableEq, Repr

/-- One key switch: its debounced state and its stability timer (R25). -/
structure KeySwitch where
  on : Bool
  stable : Timer
  deriving DecidableEq, Repr

/-- Why an order left the table (1.8). -/
inductive Reason where | withdrawn | expired | replaced | stoodDown
  deriving DecidableEq, Repr

/-! ### Sump Measurement (chapter 3) -/

inductive Mode where | none | dual | corrected | single | float | barred
  deriving DecidableEq, Repr

/-- The latest sample of the two transducers (R52): an invalid count has no level. -/
structure Sample where
  countA : Nat
  countB : Nat
  levelA : Option Nat
  levelB : Option Nat
  deriving DecidableEq, Repr

/-- A debounced float: true while ACTIVE, with its stability timer (R60). -/
structure FloatState where
  active : Bool
  stable : Timer
  deriving DecidableEq, Repr

/-- A measurement section (R50). -/
structure Section where
  /-- filtered level F; none while unprimed -/
  level : Option Nat
  /-- rate R -/
  rate : Option Int
  /-- F10 -/
  level10 : Option Nat
  rateCount : Nat
  /-- forecast M -/
  forecast : Option Nat
  mode : Mode
  allowance : Nat
  invalidCount : Nat
  last : Option Sample
  high : FloatState
  extreme : FloatState
  stage : Nat
  hold : Timer
  candidate : Option Nat
  conflict : Bool
  deriving DecidableEq, Repr

/-! ### Lighting windows (R141) -/

/-- A luminance window (R141); A is the mean of the samples (`Window.mean`). -/
structure Window where
  samples : List Nat
  loss : Timer
  lost : Bool
  deriving DecidableEq, Repr

/-! ### What the plant blocks read -/

/-- The clock, the pins, the configuration, the order table, the measurement and the luminance: the part of the state that the
plant's blocks read and never write. -/
structure Env where
  clock : Nat
  pins : Inputs
  cfg : WorkConfig
  table : List Order
  /-- the order-number counter (R6) -/
  counter : Nat
  keys : PerPortal KeySwitch
  sumps : PerSump Section
  underpass : Nat
  windows : PerSide Window
  deriving DecidableEq, Repr

/-! ### Unit Table (chapter 2) -/

inductive Source where | lock | hand | order | automatic | off
  deriving DecidableEq, Repr

/-- The derived fields of a unit's common part (R31). -/
structure UnitRec where
  locked : Bool
  governing : Option Nat
  source : Source
  deriving DecidableEq, Repr

/-! ### Pump Duty (chapter 4) -/

inductive RunState where | stopped | queued | starting | running | resting | faulted
  deriving DecidableEq, Repr

inductive FaultKind where | thermal | noStart | lostRun
  deriving DecidableEq, Repr

/-- A pump's record (4.4) with its hand setting (R40): true is ON. `starts` holds the instants of its grants (R94); `restLength` is the
min rest in s that the latest rest was given when it began (R92, R97). -/
structure Pump where
  run : RunState
  fault : Option FaultKind
  dry : Bool
  starved : Bool
  hand : Bool
  starts : List Nat
  confirm : Timer
  surge : Timer
  minRun : Timer
  minRest : Timer
  restLength : Nat
  dryTimer : Timer
  lostTimer : Timer
  deriving DecidableEq, Repr

/-- The lead and the position latches of a sump (R75, R79). -/
structure Duty where
  lead : Nat
  latches : List Bool
  deriving DecidableEq, Repr

/-! ### Portal Sequencers (chapter 6) -/

inductive Seq where
  | open | warning | barring | clearing | sealing | sealed | unsealing | lifting | held | jammed | unsettled | out | hand
  deriving DecidableEq, Repr

inductive JamCause where | edge | travel
  deriving DecidableEq, Repr

inductive Aspect where | dark | amberFlash | red
  deriving DecidableEq, Repr

/-- The hand motion of a portal (R41). -/
inductive HandMotion where | none | gateOpening | gateClosing | barrierRising | barrierLowering
  deriving DecidableEq, Repr

/-- The last hand result (R41). -/
inductive HandResult where | limit | travel | edge | guarding | stop
  deriving DecidableEq, Repr

/-- A portal's record (R115) with its hand motion and last hand result (R41). -/
structure Portal where
  seq : Seq
  resume : Option Seq
  jam : Option JamCause
  retries : Nat
  overdue : Bool
  permit : Bool
  starved : Bool
  warn : Timer
  travel : Timer
  confirm : Timer
  limit : Timer
  retry : Timer
  signal : Aspect
  motion : HandMotion
  result : Option HandResult
  deriving DecidableEq, Repr

/-! ### Lighting Controller (chapter 7) -/

inductive Ramp where | none | up | down
  deriving DecidableEq, Repr

/-- A zone's record (R141). `steadySince` is the instant of the latest change of output; `steps` counts the steps of the ramp since its
step timer `step` started (R152). -/
structure Zone where
  graded : Nat
  target : Nat
  comp : Nat
  allowance : Nat
  output : Nat
  ramp : Ramp
  step : Timer
  steps : Nat
  steadySince : Nat
  deficit : Nat
  flag : Bool
  hand : Nat
  deriving DecidableEq, Repr

/-! ### Start Arbiter (chapter 5) -/

inductive Supply where | grid | standby | transfer | dark
  deriving DecidableEq, Repr

/-- A waiting request (R106): a PUMP request when the unit is a pump, a MOTION request when it is a portal. -/
structure Request where
  unit : UnitId
  joined : Nat
  wait : Timer
  deriving DecidableEq, Repr

/-- The arbiter's record (R98, R106, R109). `grantOrder` names each unit once, in the order of latest grant (log 31). -/
structure Arbiter where
  supply : Supply
  transfer : Timer
  queue : List Request
  spacing : Timer
  grantOrder : List UnitId
  deriving DecidableEq, Repr

/-! ### Attention Unit (chapter 9) -/

/-- The alert causes (R174), number 1 first. -/
inductive Cause where
  | stageSevere | stageFlood | gateJammed | clearOverdue | pumpFault | supplyNotGrid | startStarved | sensorBarred
  | sensorConflict | sensorSingle | lampDeficit | luminanceLost | storeFault | configLost | locksLost | lockoutPresent
  deriving DecidableEq, Repr

/-- The record that an entry of a changed set names (R179). -/
inductive RecordKey where
  | unit (u : UnitId)
  | sump (u : SumpId)
  | plant
  | order (number : Nat)
  deriving DecidableEq, Repr

/-- An entry of a changed set; only an ORDER entry carries a removal reason (R179). -/
structure Entry where
  key : RecordKey
  reason : Option Reason
  deriving DecidableEq, Repr

/-- A moderation timer (R181). -/
inductive ModTimer where
  | stopped
  | since (start : Nat)
  | ranOut
  deriving DecidableEq, Repr

/-- A link's changed set (R179 to R181). -/
structure ChangedSet where
  entries : List Entry
  overfull : Bool
  timer : ModTimer
  deriving DecidableEq, Repr

/-- One number for each alert cause, cause 1 first. -/
abbrev Counts := Vector Nat 16

/-- The Attention Unit's record: present set (cause n at bit n - 1), raise counts, relay, changed sets. -/
structure Attention where
  present : Word16
  counts : Counts
  relayOn : Bool
  sets : PerLink ChangedSet
  deriving DecidableEq, Repr

/-! ### The plant blocks -/

/-- What the Unit Table, Pump Duty, the Portal Sequencers, the Lighting Controller, the Start Arbiter and the Attention Unit hold. -/
structure Plant where
  units : PerUnit UnitRec
  duty : PerSump Duty
  pumps : PerPump Pump
  portals : PerPortal Portal
  zones : PerZone Zone
  arb : Arbiter
  attn : Attention
  deriving DecidableEq, Repr

/-! ### Links (chapter 8) -/

/-- Outcome codes (0.5, R171). -/
inductive Code where
  | done | accepted | unknownKind | badLength | badField | noSuchUnit | noSuchOrder | verbMismatch | noAuthority | notOwner
  | stale | stageHigh | unitDormant | tableFull | unitLocked | wrongState | busy | storeFault
  deriving DecidableEq, Repr

/-- A reply that a port owes (R163): the request's kind and tag, the outcome and the payload. -/
structure Reply where
  kind : Byte
  tag : Byte
  code : Code
  payload : List Byte
  deriving DecidableEq, Repr

/-- A port's reply slot (R161). DEFERRED holds the reply and the numbers that it carries if the lockout write fails (R28); SENDING
holds the frame that is on the line. -/
inductive Slot where
  | empty
  | waiting (r : Reply)
  | deferred (r : Reply) (numbers : List Byte)
  | sending (frame : List Byte)
  deriving DecidableEq, Repr

/-- A port's receiver (R159): HUNTING; ASSEMBLING with the bytes collected and the ms of quiet line since the end of the latest; off
while the port sends (R157). -/
inductive Receiver where
  | hunting
  | assembling (bytes : List Byte) (quiet : Nat)
  | off
  deriving DecidableEq, Repr

structure Port where
  rx : Receiver
  slot : Slot
  overrun : Bool
  deriving DecidableEq, Repr

/-- A character that a station has put on a line and that has not ended yet (log 17): the ms of quiet line before its start bit, the ms
that it lasts from then on, and the level of the line in each of its bit times, true for a mark (R157). -/
structure LineChar where
  idle : Nat
  lasts : Nat
  bits : List Bool
  deriving DecidableEq, Repr

/-- The two ports, the station address (R158), the bit rate in use on the field link (R168), and what is on its way to the part on each
line, earliest first (log 17). -/
structure Links where
  ports : PerLink Port
  address : Byte
  rateInUse : BitRate
  lines : PerLink (List LineChar)
  deriving DecidableEq, Repr

/-! ### Configuration Store (chapter 10) -/

/-- A lockout as the lockout area keeps it (R188). -/
structure StoredLock where
  number : Nat
  holder : Nat
  unit : UnitId
  deriving DecidableEq, Repr

/-- A store write in progress or waiting (R185). -/
inductive Write where
  | image (c : WorkConfig)
  | locks (l : List StoredLock)
  deriving DecidableEq, Repr

/-- The store: each area holds a content under a good check, or none while its check fails (R184). -/
structure Store where
  image : Option WorkConfig
  lockArea : Option (List StoredLock)
  inProgress : Option Write
  waiting : Option Write
  restarting : Bool
  deriving DecidableEq, Repr

end Sys2Proof.Machine
end

