-- ==== Sys2Proof/Machine/Defaults.lean ====
section
/-! DEFINITION. Factory defaults (R184) and the values that records take at start-up, each from the table of its chapter. -/

namespace Sys2Proof.Machine

/-- Pump defaults (R97). -/
def defaultPumpCfg (u : SumpId) : PumpCfg :=
  { sump := u, load := 90, surge := 180, surgeTime := 8, minRun := 120, minRest := 60, startsPerHour := 6, confirmLimit := 10 }

/-- Portal defaults (6.10). -/
def defaultPortalCfg : PortalCfg :=
  { closureStage := 3, warningTime := 30, barrierTravel := 10, gateTravel := 120, clearConfirm := 15, clearLimit := 300,
    retryDelay := 5, retryCount := 3, motorKw := 15 }

/-- Zone defaults (7.8), with the ones that depend on the zone as arguments. -/
def defaultZoneCfg (role : Role) (side : Side) (installed floor shed : Nat) : ZoneCfg :=
  { role := role, side := side, installed := installed, lmax := 380, floor := floor, alertFloor := 30, shed := shed, k := 60, f := 30,
    rampUp := 5, rampDown := 2, tolerance := 10, fullScale := 3000 }

/-- CALIBRATION defaults (3.11). -/
def defaultCalibration : Calibration := { za := 819, zb := 819, ka := 1563, kb := 1563, d := 50, reload := 32 }

/-- STAGING defaults (3.11). -/
def defaultStaging : Staging :=
  { t1 := 600, t2 := 1200, t3 := 1800, t4 := 2400, h := 50, hold := 60, rateThreshold := 120, lead := 5, w := 4 }

/-- POSITIONS defaults (R78). -/
def defaultPositions : List PosLevel := [⟨500, 300⟩, ⟨800, 500⟩, ⟨1100, 700⟩, ⟨1400, 900⟩]

/-- Sump group defaults (3.11, R78) with a ring (R74). -/
def defaultSumpCfg (ring : List PumpId) : SumpCfg :=
  { calibration := defaultCalibration, staging := defaultStaging,
    floats := { high := .normallyClosed, extreme := .normallyClosed }, positions := defaultPositions, ring := ring }

/-- Every rank (PANEL's default set on units 1 .. 16, R7). -/
def everyRank : RankSet := { lockout := true, overriding := true, standing := true }

/-- OVERRIDE and STANDING (FIELD's default set, and both issuers' on the outfall, R7). -/
def linkRanks : RankSet := { lockout := false, overriding := true, standing := true }

/-- An authority map with one rank set on units 1 .. 16 and OVERRIDE and STANDING on the outfall (R7). -/
def defaultAuthority (r : RankSet) : AuthorityMap :=
  { ranks := { pumps := .all r, portals := .all r, zones := .all r, outfall := linkRanks }, dormantAccept := true, defaultYield := 3 }

/-- Reporting defaults (R183). -/
def defaultReporting : Reporting := { threshold := 8, moderation := 5, clearOnRead := true }

/-- Factory defaults (R184): pumps and portals OUT_OF_SERVICE, zones IN_SERVICE, cause 16 masked (R176). -/
def factoryDefaults : WorkConfig :=
  { fieldRate := .b19200
    pumpService := .all .outOfService
    portalService := .all .outOfService
    zoneService := .all .inService
    pumps := ⟨defaultPumpCfg .c, defaultPumpCfg .c, defaultPumpCfg .c, defaultPumpCfg .c,
      defaultPumpCfg .e, defaultPumpCfg .e, defaultPumpCfg .w, defaultPumpCfg .w⟩
    portals := .all defaultPortalCfg
    zones := ⟨defaultZoneCfg .threshold .east 60 10 25, defaultZoneCfg .transition .east 30 10 20,
      defaultZoneCfg .interior .east 40 50 25, defaultZoneCfg .transition .west 30 10 20,
      defaultZoneCfg .threshold .west 60 10 25, defaultZoneCfg .egress .west 10 10 0⟩
    sumps := ⟨defaultSumpCfg [.p1, .p2, .p3, .p4], defaultSumpCfg [.p5, .p6], defaultSumpCfg [.p7, .p8]⟩
    authority := ⟨defaultAuthority linkRanks, defaultAuthority everyRank⟩
    masks := 0x8000
    reporting := .all defaultReporting
    luminanceScale := .all 8000
    supply := { grid := 800, standby := 400, transferLimit := 60, spacing := 10, waitLimit := 120 } }

/-- The pins before the first event (log 4): everything inactive but GRID_OK; float contacts closed. -/
def idlePins : Inputs :=
  { feedback := .all false, thermal := .all false, dryRun := .all false
    floats := .all ⟨true, true⟩
    portals := .all ⟨false, false, false, false, false⟩
    loops := ⟨false, false, false, false⟩
    keys := .all false
    gridOk := true, standbyOk := false }

/-- A section after start-up (R50), with the allowance at its reload value. -/
def freshSection (reload : Nat) : Section :=
  { level := none, rate := none, level10 := none, rateCount := 0, forecast := none, mode := .none, allowance := reload
    invalidCount := 0, last := none, high := ⟨false, .since 0⟩, extreme := ⟨false, .since 0⟩, stage := 0, hold := .stopped
    candidate := none, conflict := false }

/-- A luminance window after start-up (R141). -/
def freshWindow : Window := { samples := [], loss := .since 0, lost := false }

/-- A key switch after start-up (R25). -/
def freshKey : KeySwitch := { on := false, stable := .since 0 }

/-- A unit's derived fields before governance is resolved. -/
def freshUnit (src : Source) : UnitRec := { locked := false, governing := none, source := src }

/-- A pump after start-up (R85). -/
def freshPump : Pump :=
  { run := .stopped, fault := none, dry := false, starved := false, hand := false, starts := [], confirm := .stopped
    surge := .stopped, minRun := .stopped, minRest := .stopped, restLength := 0, dryTimer := .stopped, lostTimer := .stopped }

/-- A sump's lead and latches after start-up (R75, R79). -/
def freshDuty (ringLength : Nat) : Duty := { lead := 1, latches := List.replicate ringLength false }

/-- A portal after start-up (R115) in the given sequence state. -/
def freshPortal (seq : Seq) : Portal :=
  { seq := seq, resume := none, jam := none, retries := 0, overdue := false, permit := false, starved := false, warn := .stopped
    travel := .stopped, confirm := .stopped, limit := .stopped, retry := .stopped, signal := .red, motion := .none, result := none }

/-- A zone before the first grading and allocation of a start-up (R141). Z6's allowance is reported as 100 (R154). -/
def freshZone : Zone :=
  { graded := 0, target := 0, comp := 0, allowance := 0, output := 0, ramp := .none, step := .stopped, steps := 0, steadySince := 0
    deficit := 0, flag := false, hand := 0 }

/-- The Start Arbiter after start-up (R98, R106, R109). -/
def freshArbiter (supply : Supply) (transfer : Timer) : Arbiter :=
  { supply := supply, transfer := transfer, queue := [], spacing := .stopped, grantOrder := [] }

/-- A changed set after start-up (R179 to R181). -/
def freshSet : ChangedSet := { entries := [], overfull := false, timer := .stopped }

/-- No raise counted. -/
def zeroCounts : Counts := #v[0, 0, 0, 0, 0, 0, 0, 0, 0, 0, 0, 0, 0, 0, 0, 0]

/-- A port after start-up (R167). -/
def freshPort : Port := { rx := .hunting, slot := .empty, overrun := false }

/-- A zone at its first allocation after reset: graded `g`, output at the protected level `o` (R114), ramping up when `o` is below `g`. -/
def resetZone (g o : Nat) : Zone :=
  { freshZone with
    graded := g, target := g, comp := g, allowance := g, output := o
    ramp := if o < g then .up else .none, step := if o < g then .since 0 else .stopped }

end Sys2Proof.Machine
end

