-- ==== Sys2Proof/Machine/State.lean ====
section
/-! DEFINITION. The state of the MU-340, the reasons a step could stop, and the state after reset. -/

namespace Sys2Proof.Machine

/-- Everything the spec gives the block, with the queue of waiting commands. Plain data. -/
structure State where
  /-- commands waiting, first in first out (log 1) -/
  pending : List Instr
  /-- clock, pins, configuration, order table, measurement, luminance -/
  env : Env
  /-- units, duty, pumps, portals, zones, arbiter, attention -/
  plant : Plant
  /-- the two ports (chapter 8) -/
  links : Links
  /-- the non-volatile store (chapter 10) -/
  store : Store
  deriving DecidableEq, Repr

/-- The spec describes nothing that stops the part, so no command faults (log 42). -/
inductive Fault : Type
  deriving DecidableEq, Repr

/-- Why a command has no meaning. -/
inductive Refusal where
  /-- raised by `exec` for a row of the opcode table that has no meaning yet; no row is left in this state. Safe: the run stops. -/
  | notModelled (mnemonic : String)
  deriving DecidableEq, Repr

/-- The machine right after a start-up (R190, R191) that found a sound image of the factory defaults and a sound, empty lockout
area (log 3), the pins of log 4 and the straps at 0 (address 247, R158). The zones stand at their first allocation:
A is absent, so the threshold and transition zones are graded at 100 (R143, R145, R146), and the outputs are at their
protected levels (R191 step 9). -/
def State.reset : State :=
  { pending := []
    env :=
      { clock := 0, pins := idlePins, cfg := factoryDefaults, table := [], counter := 1, keys := .all freshKey
        sumps := .all (freshSection 32), underpass := 0, windows := .all freshWindow }
    plant :=
      { units := { pumps := .all (freshUnit .off), portals := .all (freshUnit .off), zones := .all (freshUnit .automatic),
                   outfall := freshUnit .automatic }
        duty := ⟨freshDuty 4, freshDuty 2, freshDuty 2⟩
        pumps := .all freshPump
        portals := .all (freshPortal .out)
        zones := ⟨resetZone 100 25, resetZone 100 20, resetZone 50 25, resetZone 100 20, resetZone 100 25, resetZone 100 100⟩
        arb := freshArbiter .grid .stopped
        attn := { present := 0, counts := zeroCounts, relayOn := true, sets := .all freshSet } }
    links := { ports := .all freshPort, address := Config.defaultAddress, rateInUse := .b19200, lines := .all [] }
    store := { image := some factoryDefaults, lockArea := some [], inProgress := none, waiting := none, restarting := false } }

end Sys2Proof.Machine
end

