-- ==== Sys2Proof/Machine/Flags.lean ====
section
/-! DEFINITION. The flags the part computes: alert causes and the relay (R174 to R177), changed sets and ATTENTION (R179 to
R181), the link status byte (R165), and the running conditions of timers. -/

namespace Sys2Proof.Machine

/-! ### Arithmetic of 00_scope.md 0.7 -/

/-- The least integer not below a / b (0.7, "ceil"); b is never 0 where the manual divides. -/
def ceilDiv (a b : Nat) : Nat := (a + (b - 1)) / b

/-- x clamped to lo .. hi (0.7). -/
def clampTo (lo hi x : Nat) : Nat := max lo (min x hi)

/-! ### Timers -/

/-- Elapsed ms of a timer at the instant `now`; 0 when stopped. -/
def Timer.elapsed (now : Nat) : Timer → Nat
  | .stopped => 0
  | .held ms => ms
  | .since start => now - start

/-- The timer no longer counts and keeps its elapsed time. -/
def Timer.pause (now : Nat) : Timer → Timer
  | .since start => .held (now - start)
  | t => t

/-- The timer counts on from its elapsed time. -/
def Timer.resume (now : Nat) : Timer → Timer
  | .held ms => .since (now - ms)
  | t => t

/-- The timer is counting. -/
def Timer.counting : Timer → Bool
  | .since _ => true
  | _ => false

/-- The timer is counting and its elapsed time has reached `limit` ms. -/
def Timer.ranOut (now limit : Nat) : Timer → Bool
  | .since start => decide (limit ≤ now - start)
  | _ => false

/-! ### Alert causes (R174) -/

/-- The causes in priority order. -/
def Cause.every : List Cause :=
  [.stageSevere, .stageFlood, .gateJammed, .clearOverdue, .pumpFault, .supplyNotGrid, .startStarved, .sensorBarred,
   .sensorConflict, .sensorSingle, .lampDeficit, .luminanceLost, .storeFault, .configLost, .locksLost, .lockoutPresent]

/-- A cause's number less one: its bit in a set of causes (R170). -/
def Cause.index : Cause → Fin 16
  | .stageSevere => 0 | .stageFlood => 1 | .gateJammed => 2 | .clearOverdue => 3 | .pumpFault => 4 | .supplyNotGrid => 5
  | .startStarved => 6 | .sensorBarred => 7 | .sensorConflict => 8 | .sensorSingle => 9 | .lampDeficit => 10
  | .luminanceLost => 11 | .storeFault => 12 | .configLost => 13 | .locksLost => 14 | .lockoutPresent => 15

/-- The type of a cause (R174): true for a latched cause, false for a condition cause. -/
def Cause.latched : Cause → Bool
  | .stageSevere | .stageFlood | .supplyNotGrid | .sensorSingle | .luminanceLost | .lockoutPresent => false
  | .gateJammed | .clearOverdue | .pumpFault | .startStarved | .sensorBarred | .sensorConflict | .lampDeficit
  | .storeFault | .configLost | .locksLost => true

/-- The set that holds one cause. -/
def Cause.bit (c : Cause) : Word16 := 1#16 <<< c.index.val

/-- The cause is in the set. -/
def Cause.isIn (c : Cause) (w : Word16) : Bool := w.getLsbD c.index.val

/-- The set of the causes in a list. -/
def causeSet (l : List Cause) : Word16 := l.foldl (fun w c => w ||| c.bit) 0

/-- The raise count of a cause (R175). -/
def Attention.count (a : Attention) (c : Cause) : Nat := a.counts[c.index.val]

/-- The record with one cause's raise count replaced. -/
def Attention.setCount (a : Attention) (c : Cause) (n : Nat) : Attention :=
  { a with counts := a.counts.set c.index.val n }

/-- R177: the relay is energised while no unmasked cause is present. -/
def relayRule (present masks : Word16) : Bool := (present &&& ~~~masks) == 0

/-- The relay set again from the present set and the masks (R177). -/
def Attention.setRelay (masks : Word16) (a : Attention) : Attention :=
  { a with relayOn := relayRule a.present masks }

/-! ### Changed sets (R179 to R181) -/

/-- A report taken up by one changed set (R179, R180, R181): a present entry keeps its place and takes a removal's reason; a
new entry joins at the end; a 65th empties the set. -/
def ChangedSet.take (now : Nat) (k : RecordKey) (why : Option Reason) (c : ChangedSet) : ChangedSet :=
  if c.entries.any (fun x => x.key == k) then
    { c with entries := c.entries.map (fun x => if x.key == k then { x with reason := why.or x.reason } else x) }
  else if Config.changedSetLimit ≤ c.entries.length then
    { entries := [], overfull := true, timer := .stopped }
  else
    { c with
      entries := c.entries ++ [⟨k, why⟩]
      timer := if c.entries.isEmpty then .since now else c.timer }

/-- The set with its oldest `n` entries removed; the moderation timer stops when the set becomes empty (R181). -/
def ChangedSet.dropOldest (n : Nat) (c : ChangedSet) : ChangedSet :=
  { c with
    entries := c.entries.drop n
    timer := if (c.entries.drop n).isEmpty then .stopped else c.timer }

/-- ATTENTION of a link (R181). -/
def ChangedSet.attention (r : Reporting) (c : ChangedSet) : Bool :=
  decide (r.threshold ≤ c.entries.length) || c.timer == .ranOut || c.overfull

/-- A report reaches both changed sets in the owner's event (R179). -/
def Attention.report (now : Nat) (k : RecordKey) (why : Option Reason) (a : Attention) : Attention :=
  { a with sets := ⟨a.sets.field.take now k why, a.sets.panel.take now k why⟩ }

/-- R175: a latched cause's event: the cause becomes present, its count rises by 1 up to 255, a PLANT entry is made, and the
relay is set again. -/
def Attention.raise (now : Nat) (masks : Word16) (c : Cause) (a : Attention) : Attention :=
  (({ a with present := a.present ||| c.bit }.setCount c (min 255 (a.count c + 1))).report now .plant none).setRelay masks

/-- The latched causes as a set. -/
def latchedMask : Word16 := causeSet (Cause.every.filter Cause.latched)

/-- The condition causes take the values given (R174); a change of the present set makes a PLANT entry and sets the relay. -/
def Attention.conditions (now : Nat) (masks conds : Word16) (a : Attention) : Attention :=
  let present := (a.present &&& latchedMask) ||| (conds &&& ~~~latchedMask)
  if present = a.present then a
  else ({ a with present := present }.report now .plant none).setRelay masks

/-- R178: the named latched causes that are present leave the present set and their counts become 0; if any left, a PLANT
entry is made and the relay is set again. -/
def Attention.acknowledge (now : Nat) (masks named : Word16) (a : Attention) : Attention :=
  let gone := Cause.every.filter (fun c => c.latched && c.isIn named && c.isIn a.present)
  if gone.isEmpty then a
  else
    ((gone.foldl (fun (b : Attention) c => b.setCount c 0) { a with present := a.present &&& ~~~causeSet gone }).report now .plant none).setRelay masks

/-! ### The link status byte (R165, R171) -/

/-- Bit 0 ATTENTION, bit 1 OVERRUN, bit 2 OVERFULL, bits 3 to 7 zero (R171). -/
def statusByte (attention overrun overfull : Bool) : Byte :=
  (if attention then 1 else 0) ||| (if overrun then 2 else 0) ||| (if overfull then 4 else 0)

end Sys2Proof.Machine
end

