-- ==== Sys2Proof/Machine/Ops.lean ====
section
/-! DEFINITION. The operations that the blocks share: looking up units, orders and settings, writing a unit's record with its
report, the start queue, and the loads that the Start Arbiter counts. -/

namespace Sys2Proof.Machine

/-! ### Units and their settings -/

/-- Service state of a unit (R31, R32: the outfall is IN_SERVICE at all times). -/
def serviceOf (c : WorkConfig) : UnitId → Service
  | .pump i => c.pumpService.get i
  | .portal i => c.portalService.get i
  | .zone z => c.zoneService.get z
  | .outfall => .inService

/-- The configuration with one unit's service state replaced; the outfall has none to replace (R32). -/
def WorkConfig.setService (c : WorkConfig) (u : UnitId) (v : Service) : WorkConfig :=
  match u with
  | .pump i => { c with pumpService := c.pumpService.set i v }
  | .portal i => { c with portalService := c.portalService.set i v }
  | .zone z => { c with zoneService := c.zoneService.set z v }
  | .outfall => c

/-- The ring of a sump (R74). -/
def Env.ring (e : Env) (u : SumpId) : List PumpId := (e.cfg.sumps.get u).ring

/-- The sump of a pump (R97). -/
def Env.sumpOf (e : Env) (i : PumpId) : SumpId := (e.cfg.pumps.get i).sump

/-- The stage of a pump's sump. -/
def Env.stageOf (e : Env) (i : PumpId) : Nat := (e.sumps.get (e.sumpOf i)).stage

/-- The relevant stage of orders on a unit (0.6): the pump's sump's stage, or the underpass stage. -/
def Env.relevantStage (e : Env) : UnitId → Nat
  | .pump i => e.stageOf i
  | _ => e.underpass

/-- The pins of a portal. -/
def Env.portalPins (e : Env) (i : PortalId) : PortalPins := e.pins.portals.get i

/-- All four occupancy loops are clear (R124). -/
def Env.loopsClear (e : Env) : Bool :=
  !(e.pins.loops.l1 || e.pins.loops.l2 || e.pins.loops.l3 || e.pins.loops.l4)

/-- The unit's lock flag, as its record holds it. -/
def Plant.locked (p : Plant) (u : UnitId) : Bool := (p.units.get u).locked

/-- The unit's demand source, as its record holds it. -/
def Plant.source (p : Plant) (u : UnitId) : Source := (p.units.get u).source

/-- The order that governs a unit, by the number in the unit's record. -/
def governingOrder (e : Env) (p : Plant) (u : UnitId) : Option Order :=
  match (p.units.get u).governing with
  | none => none
  | some n => e.table.find? (fun o => o.number == n)

/-! ### Reports and alert causes -/

/-- A report to both changed sets (R179). -/
def report (e : Env) (k : RecordKey) (why : Option Reason) (p : Plant) : Plant :=
  { p with attn := p.attn.report e.clock k why }

/-- A raise of a latched cause (R175). -/
def raiseCause (e : Env) (c : Cause) (p : Plant) : Plant :=
  { p with attn := p.attn.raise e.clock e.cfg.masks c }

/-- The conditions of the condition causes (R174) as they stand. -/
def conditionBits (e : Env) (p : Plant) : Word16 :=
  (if e.underpass = 4 then Cause.stageSevere.bit else 0) |||
  (if 3 ≤ e.underpass then Cause.stageFlood.bit else 0) |||
  (if p.arb.supply = .grid then 0 else Cause.supplyNotGrid.bit) |||
  (if SumpId.every.any (fun u => (e.sumps.get u).mode == .single) then Cause.sensorSingle.bit else 0) |||
  (if e.windows.east.lost || e.windows.west.lost then Cause.luminanceLost.bit else 0) |||
  (if e.table.any (fun o => o.rank == .lockout) then Cause.lockoutPresent.bit else 0)

/-- The condition causes join or leave the present set in the owner's event (R174). -/
def refreshConditions (e : Env) (p : Plant) : Plant :=
  { p with attn := p.attn.conditions e.clock e.cfg.masks (conditionBits e p) }

/-! ### Writing a record, with the UNIT entry of R179 -/

/-- The fields of a pump whose change is reported (R179). -/
def Pump.reported (q : Pump) : RunState × Option FaultKind × Bool × Bool := (q.run, q.fault, q.dry, q.starved)

/-- A pump's record is written, and reported if a reported field changed. -/
def putPump (e : Env) (i : PumpId) (q : Pump) (p : Plant) : Plant :=
  let p' := { p with pumps := p.pumps.set i q }
  if (p.pumps.get i).reported = q.reported then p' else report e (.unit (.pump i)) none p'

/-- The fields of a portal whose change is reported (R138, R179). -/
def Portal.reported (q : Portal) : Seq × Option Seq × Option JamCause × Bool := (q.seq, q.resume, q.jam, q.starved)

/-- A portal's record is written, and reported if a reported field changed. -/
def putPortal (e : Env) (i : PortalId) (q : Portal) (p : Plant) : Plant :=
  let p' := { p with portals := p.portals.set i q }
  if (p.portals.get i).reported = q.reported then p' else report e (.unit (.portal i)) none p'

/-- The fields of a zone whose change is reported: the output band and the deficit flag (R155). -/
def Zone.reported (q : Zone) : Nat × Bool := (q.output / 10, q.flag)

/-- A zone's record is written, and reported if a reported field changed. -/
def putZone (e : Env) (z : ZoneId) (q : Zone) (p : Plant) : Plant :=
  let p' := { p with zones := p.zones.set z q }
  if (p.zones.get z).reported = q.reported then p' else report e (.unit (.zone z)) none p'

/-! ### The start queue (R106) -/

/-- A unit has a request in the queue. -/
def Plant.queued (p : Plant) (u : UnitId) : Bool := p.arb.queue.any (fun r => r.unit == u)

/-- A new wait timer: it counts only while the supply state is not TRANSFER (R111). -/
def freshWait (e : Env) (p : Plant) : Timer :=
  if p.arb.supply = .transfer then .held 0 else .since e.clock

/-- A unit's request joins the queue at its end; a unit has at most one (R106). -/
def joinQueue (e : Env) (u : UnitId) (p : Plant) : Plant :=
  if p.queued u then p
  else { p with arb := { p.arb with queue := p.arb.queue ++ [⟨u, e.clock, freshWait e p⟩] } }

/-- A unit's request leaves the queue (R106). -/
def dropRequest (u : UnitId) (p : Plant) : Plant :=
  { p with arb := { p.arb with queue := p.arb.queue.filter (fun r => r.unit != u) } }

/-- A unit becomes the latest to have been granted (log 31). -/
def noteGrant (u : UnitId) (p : Plant) : Plant :=
  { p with arb := { p.arb with grantOrder := p.arb.grantOrder.filter (fun v => v != u) ++ [u] } }

/-- A QUEUED pump's request leaves the queue and the pump becomes STOPPED; STARVED is clear in every state but QUEUED (R83, R85). -/
def unqueuePump (e : Env) (i : PumpId) (p : Plant) : Plant :=
  putPump e i { p.pumps.get i with run := .stopped, starved := false } (dropRequest (.pump i) p)

/-- A portal's request leaves the queue, which clears its STARVED flag (R106). -/
def unqueuePortal (e : Env) (i : PortalId) (p : Plant) : Plant :=
  putPortal e i { p.portals.get i with starved := false } (dropRequest (.portal i) p)

/-! ### Loads (R102, R103) -/

/-- STARTING or RUNNING: the contactor is closed (R85). -/
def Pump.live (q : Pump) : Bool := q.run == .starting || q.run == .running

/-- The load of one pump: its running load, and its surge while its surge window runs (R102, R110). -/
def pumpLoad (e : Env) (p : Plant) (i : PumpId) : Nat :=
  let q := p.pumps.get i
  if q.live then
    (e.cfg.pumps.get i).load + (if q.surge = .stopped then 0 else (e.cfg.pumps.get i).surge)
  else 0

/-- The load of one portal: its motor kW while it holds a permit (R102). -/
def portalLoad (e : Env) (p : Plant) (i : PortalId) : Nat :=
  if (p.portals.get i).permit then (e.cfg.portals.get i).motorKw else 0

/-- The non-lamp committed load (R102). -/
def nonLampLoad (e : Env) (p : Plant) : Nat :=
  (PumpId.every.map (pumpLoad e p)).sum + (PortalId.every.map (portalLoad e p)).sum

/-- The budgeted zones, in the order of their ids. -/
def budgetZones : List ZoneId := [.z1, .z2, .z3, .z4, .z5]

/-- The load of a zone at an output (R102). -/
def zoneLoad (e : Env) (z : ZoneId) (output : Nat) : Nat := ceilDiv ((e.cfg.zones.get z).installed * output) 100

/-- The lamp committed load (R102). -/
def lampLoad (e : Env) (p : Plant) : Nat :=
  (budgetZones.map (fun z => zoneLoad e z (p.zones.get z).output)).sum

/-- A zone's shed load (R103). -/
def shedLoad (c : WorkConfig) (z : ZoneId) : Nat := ceilDiv ((c.zones.get z).installed * (c.zones.get z).shed) 100

/-- The shed reservation: the shed loads of Z1 .. Z5 that are IN_SERVICE or IN_HAND (R103). -/
def shedReservation (c : WorkConfig) : Nat :=
  ((budgetZones.filter (fun z => c.zoneService.get z != .outOfService)).map (shedLoad c)).sum

/-- The shed loads of all five zones, whatever their service states (R44, R105). -/
def shedOfAll (c : WorkConfig) : Nat := (budgetZones.map (shedLoad c)).sum

/-- The budget of a supply state (R99). -/
def budgetOf (c : SupplyCfg) : Supply → Nat
  | .grid => c.grid
  | .standby => c.standby
  | .transfer => 0
  | .dark => 0

/-- The budget in force (R99). -/
def budget (e : Env) (p : Plant) : Nat := budgetOf e.cfg.supply p.arb.supply

/-- GRID or STANDBY: a supply state with a budget setting. -/
def Supply.powered : Supply → Bool
  | .grid | .standby => true
  | .transfer | .dark => false

/-- The number of pumps STARTING or RUNNING, among all eight (R95). -/
def liveCount (p : Plant) : Nat := PumpId.every.countP (fun i => (p.pumps.get i).live)

/-- The limit in force on the outfall: the argument of the order governing OF (R95). -/
def limitInForce (e : Env) (p : Plant) : Option Nat :=
  match governingOrder e p .outfall with
  | some o => o.arg
  | none => none

end Sys2Proof.Machine
end

