-- ==== Sys2Proof/Machine/Lighting.lean ====
section
/-! DEFINITION. The Lighting Controller (chapter 7) with the arbiter's lamp allocation (R113, R114): grading, targets, allowances
and outputs, all set again by `lampPass`; luminance windows; the deficit; the ramp's step. -/

namespace Sys2Proof.Machine

/-! ### Outside luminance (R142, R143) -/

/-- A, the mean of a window; absent while the window is empty (R142). -/
def Window.mean (w : Window) : Option Nat :=
  if w.samples.isEmpty then none else some (w.samples.sum / w.samples.length)

/-- A valid luminance count: 20 .. 4090 (R142). -/
def luminanceValid (count : Nat) : Bool := 20 ≤ count && count ≤ 4090

/-- The luminance of a valid count (R142). -/
def luminanceOf (scale count : Nat) : Nat := count * scale / 4095

/-- A valid sample joins the window, restarts the loss timer and ends a loss (R142, R143). -/
def Window.join (now luminance : Nat) (w : Window) : Window :=
  let l := w.samples ++ [luminance]
  { samples := if Config.windowLimit < l.length then l.drop 1 else l, loss := .since now, lost := false }

/-- The side is lost: the window is emptied and the loss timer stays at 60 s (R143). -/
def Window.lose (w : Window) : Window :=
  { w with samples := [], loss := .held Config.luminanceLossTime, lost := true }

/-! ### Grading (R145, R146) -/

/-- The graded target of a threshold zone for its side's A (R145). -/
def gradeThreshold (c : ZoneCfg) (a : Option Nat) : Nat :=
  match a with
  | none => 100
  | some a => clampTo c.floor 100 (ceilDiv (100 * ceilDiv (a * c.k) 1000) c.lmax)

/-- T, the side's threshold target: the greatest graded target of its threshold zones, 100 if it has none (R146). -/
def thresholdTarget (e : Env) (d : Side) : Nat :=
  let l := budgetZones.filter (fun z => (e.cfg.zones.get z).role == .threshold && (e.cfg.zones.get z).side == d)
  if l.isEmpty then 100
  else (l.map (fun z => gradeThreshold (e.cfg.zones.get z) (e.windows.get d).mean)).foldl max 0

/-- The graded target of a zone (R145, R146). -/
def gradedTarget (e : Env) (z : ZoneId) : Nat :=
  let c := e.cfg.zones.get z
  match c.role with
  | .threshold => gradeThreshold c (e.windows.get c.side).mean
  | .transition =>
    match (e.windows.get c.side).mean with
    | none => 100
    | some _ => clampTo c.floor 100 (ceilDiv (thresholdTarget e c.side * c.f) 100)
  | .interior => c.floor
  | .egress => 100

/-! ### Targets (R147, R148, R151) -/

/-- Modifier 1: either portal is in WARNING, BARRING or CLEARING (R147). -/
def modifierOne (p : Plant) : Bool :=
  PortalId.every.any (fun i =>
    match (p.portals.get i).seq with
    | .warning | .barring | .clearing => true
    | _ => false)

/-- Modifier 2: both portals are SEALED (R147). -/
def modifierTwo (p : Plant) : Bool := PortalId.every.all (fun i => (p.portals.get i).seq == .sealed)

/-- The automatic target of a zone (R147). -/
def automaticTarget (e : Env) (p : Plant) (z : ZoneId) : Nat :=
  let g := gradedTarget e z
  let alert := (e.cfg.zones.get z).alertFloor
  if z = .z6 then 100
  else if modifierOne p then 100
  else if modifierTwo p then alert
  else if 2 ≤ e.underpass then max g alert
  else g

/-- A zone's target by its demand source (R148). -/
def zoneTarget (e : Env) (p : Plant) (z : ZoneId) : Nat :=
  match p.source (.zone z) with
  | .automatic => automaticTarget e p z
  | .order =>
    let a := ((governingOrder e p (.zone z)).bind Order.arg).getD 0
    if z = .z6 then (if a = 0 then 0 else 100) else a
  | .hand => (p.zones.get z).hand
  | .lock => 0
  | .off => 0

/-- The compensated target (R151). -/
def compensated (z : ZoneId) (src : Source) (target deficit : Nat) : Nat :=
  if z = .z6 then target
  else if src = .automatic ∨ src = .order then
    if deficit ≤ 50 then min 100 (ceilDiv (target * 100) (100 - deficit)) else target
  else target

/-! ### Lamp allocation (R113) -/

/-- The largest percentage, not above the argument, whose load on `installed` kW is no more than `room`. -/
def largestPercent (installed room : Nat) : Nat → Nat
  | 0 => 0
  | n + 1 => if ceilDiv (installed * (n + 1)) 100 ≤ room then n + 1 else largestPercent installed room n

/-- One zone of the walk: its allowance and the extra left (R113 step 2). -/
def allotZone (e : Env) (comp : PerZone Nat) (a : PerZone Nat × Nat) (z : ZoneId) : PerZone Nat × Nat :=
  if e.cfg.zoneService.get z = .outOfService then (a.1.set z 0, a.2)
  else
    let shed := shedLoad e.cfg z
    let need := zoneLoad e z (comp.get z) - shed
    let give := min need a.2
    (a.1.set z (largestPercent (e.cfg.zones.get z).installed (shed + give) (comp.get z)), a.2 - give)

/-- The allowances: Z1, Z5, Z2, Z4, Z3 share the extra in that order; Z6's is reported as 100 (R113). -/
def allocation (e : Env) (p : Plant) (comp : PerZone Nat) : PerZone Nat :=
  let none : PerZone Nat := ⟨0, 0, 0, 0, 0, 100⟩
  if p.arb.supply.powered then
    let extra := budget e p - nonLampLoad e p - shedReservation e.cfg
    ([ZoneId.z1, .z5, .z2, .z4, .z3].foldl (allotZone e comp) (none, extra)).1
  else none

/-! ### Outputs (R114, R152 to R154) -/

/-- The zone ramps: Z1 .. Z5 IN_SERVICE and unlocked (R152). -/
def ramps (e : Env) (p : Plant) (z : ZoneId) : Bool :=
  z != .z6 && e.cfg.zoneService.get z == .inService && !p.locked (.zone z)

/-- Modifier 1 stands for an AUTOMATIC zone, whose output follows its allowance at once (R153). -/
def followsAtOnce (p : Plant) (z : ZoneId) : Bool := modifierOne p && p.source (.zone z) == .automatic

/-- The zone's output may fall to its allowance by a ramp: the arbiter gives it its whole compensated target, so that only the
target has fallen (R148, R152, R156; log 44). -/
def mayRampDown (e : Env) (p : Plant) (z : ZoneId) (allowance : Nat) (q : Zone) : Bool :=
  ramps e p z && allowance == q.comp && !followsAtOnce p z

/-- The highest output that the zone would have until the next allocation if falling zones were let ramp (log 44). -/
def reach (e : Env) (p : Plant) (z : ZoneId) (allowance : Nat) (q : Zone) : Nat :=
  if mayRampDown e p z allowance q then max q.output allowance else allowance

/-- There is room to let falling zones ramp: even then the committed load stays within the budget (R102, log 44). -/
def roomToRamp (e : Env) (p : Plant) (allow : PerZone Nat) (zs : PerZone Zone) : Bool :=
  decide (nonLampLoad e p + (budgetZones.map (fun z => zoneLoad e z (reach e p z (allow.get z) (zs.get z)))).sum ≤ budget e p)

/-- A ramping zone's output in the event of an allocation: down to the allowance at once unless it may ramp down to it, and up to the
protected level in GRID and STANDBY (R114, R153). R114 and R108 step 3 as written drop it in both cases; the ramp of a zone whose target
alone has fallen is that of 7.9 and of chapter 11 at t = 500 and t = 962 (DEDUCED, log 44). -/
def rampingOutput (e : Env) (p : Plant) (z : ZoneId) (room : Bool) (allowance : Nat) (q : Zone) : Nat :=
  if followsAtOnce p z then min 100 allowance
  else
    let o := if room && mayRampDown e p z allowance q then q.output else min allowance q.output
    if p.arb.supply.powered then max o (min (e.cfg.zones.get z).shed q.comp) else o

/-- A zone's output in the event of an allocation. -/
def zoneOutput (e : Env) (p : Plant) (z : ZoneId) (room : Bool) (allowance : Nat) (q : Zone) : Nat :=
  let sv := e.cfg.zoneService.get z
  if p.locked (.zone z) ∨ sv = .outOfService then 0
  else if z = .z6 then (if q.comp = 100 then 100 else 0)
  else if sv = .inHand then min q.hand allowance
  else rampingOutput e p z room allowance q

/-- The direction from an output to a goal (R152). -/
def rampToward (goal output : Nat) : Ramp :=
  if output < goal then .up else if goal < output then .down else .none

/-- The ramp set again for a goal: the step timer, with its count of steps, runs on while the direction stays, and starts afresh when
it changes (R152). A step that is due when a change turns the ramp, the change taken first, is not made: the timer starts afresh (DESIGN
CHOICE, log 55). -/
def Zone.rerun (now goal : Nat) (q : Zone) : Zone :=
  let r := rampToward goal q.output
  { q with
    ramp := r
    step := if r = .none then .stopped else if r = q.ramp then q.step else .since now
    steps := if r = q.ramp ∧ r ≠ .none then q.steps else 0 }

/-- A zone's output is set; the steady timer restarts when it changes (R149). -/
def Zone.setOutput (now o : Nat) (q : Zone) : Zone :=
  { q with output := o, steadySince := if o = q.output then q.steadySince else now }

/-- The zone's record with its targets set again (R145 to R148, R151). -/
def retarget (e : Env) (p : Plant) (z : ZoneId) (q : Zone) : Zone :=
  let t := zoneTarget e p z
  { q with graded := gradedTarget e z, target := t, comp := compensated z (p.source (.zone z)) t q.deficit }

/-- The zone's record with an allowance taken up (R114, R152, R153). -/
def takeAllowance (e : Env) (p : Plant) (z : ZoneId) (room : Bool) (allowance : Nat) (q : Zone) : Zone :=
  let q1 := { q with allowance := allowance }.setOutput e.clock (zoneOutput e p z room allowance q)
  if ramps e p z then q1.rerun e.clock (min q1.comp allowance)
  else { q1 with ramp := .none, step := .stopped, steps := 0 }

/-- Targets, allocation and outputs of every zone (R113, R114, R148). -/
def lampPass (e : Env) (p : Plant) : Plant :=
  let zs := p.zones.mapZ (retarget e p)
  let allow := allocation e p (zs.mapZ (fun _ q => q.comp))
  let room := roomToRamp e p allow zs
  ZoneId.every.foldl (fun a z => putZone e z (takeAllowance e a z room (allow.get z) (zs.get z)) a) p

/-! ### Deficit (R149, R150) -/

/-- A comparison is made only at an output of 20 % or more that has been steady for 5 s (R149). -/
def deficitDue (now : Nat) (q : Zone) : Bool :=
  decide (20 ≤ q.output) && decide (Config.deficitSteadyTime ≤ now - q.steadySince)

/-- The deficit of a measured current m at output o with full-scale current fs (R149). -/
def deficitOf (o fs m : Nat) : Nat :=
  if o * fs ≤ 100 * m then 0 else (o * fs - 100 * m) * 100 / (o * fs)

/-- A measurement of one zone: deficit, flag and LAMP_DEFICIT (R149, R150). -/
def measureDeficit (e : Env) (z : ZoneId) (count : Nat) (p : Plant) : Plant :=
  let q := p.zones.get z
  if deficitDue e.clock q then
    let d := deficitOf q.output (e.cfg.zones.get z).fullScale count
    let flag := decide ((e.cfg.zones.get z).tolerance < d)
    let p1 := putZone e z { q with deficit := d, flag := flag } p
    lampPass e (if flag && !q.flag then raiseCause e .lampDeficit p1 else p1)
  else p

/-! ### The ramp's step (R152) -/

/-- One step of 1 % toward the goal at an expiry of the step timer; the interval of the next step runs from the end of this one's. -/
def stepRamp (e : Env) (z : ZoneId) (p : Plant) : Plant :=
  let q := p.zones.get z
  let goal := min q.comp q.allowance
  let moved : Option Nat :=
    match q.ramp with
    | .up => if q.output < goal then some (q.output + 1) else none
    | .down => if goal < q.output then some (q.output - 1) else none
    | .none => none
  match moved with
  | some o => putZone e z ({ q.setOutput e.clock o with steps := q.steps + 1 }.rerun e.clock goal) p
  | none => p

end Sys2Proof.Machine
end

