-- ==== Sys2Proof/Machine/Portals.lean ====
section
/-! DEFINITION. The Portal Sequencers (chapter 6) and a portal's hand motions (R41, R42): entries to states, motion steps, the
demand, HELD, jams, settling, and what a permit's grant does. -/

namespace Sys2Proof.Machine

/-! ### Signals and motors (R116) -/

/-- The aspect of a sequence state; HELD and HAND keep the aspect they find (R116). -/
def Seq.aspect : Seq → Option Aspect
  | .open => some .dark
  | .warning | .lifting => some .amberFlash
  | .barring | .clearing | .sealing | .sealed | .unsealing | .jammed | .unsettled | .out => some .red
  | .held | .hand => none

/-- BARRING, SEALING, UNSEALING and LIFTING (6.3). -/
def Seq.motionStep : Seq → Bool
  | .barring | .sealing | .unsealing | .lifting => true
  | _ => false

/-- The motors of a portal by direction (0.8). -/
inductive Motor where | gateOpen | gateClose | barrierUp | barrierDown
  deriving DecidableEq, Repr

/-- The motor that a sequence state names (R116), or that a hand motion does (R41). -/
def Portal.wantsMotor (q : Portal) : Option Motor :=
  match q.seq with
  | .barring => some .barrierDown
  | .sealing => some .gateClose
  | .unsealing => some .gateOpen
  | .lifting => some .barrierUp
  | .hand =>
    match q.motion with
    | .none => none
    | .gateOpening => some .gateOpen
    | .gateClosing => some .gateClose
    | .barrierRising => some .barrierUp
    | .barrierLowering => some .barrierDown
  | _ => none

/-- The motor driven: the one wanted, while the permit is held (R116, R41). -/
def Portal.motor (q : Portal) : Option Motor := if q.permit then q.wantsMotor else none

/-- The travel limit of a portal's motion in ms (6.3, R41). -/
def travelLimit (c : PortalCfg) (q : Portal) : Nat :=
  match q.wantsMotor with
  | some .gateOpen | some .gateClose => 1000 * c.gateTravel
  | _ => 1000 * c.barrierTravel

/-! ### Entering states (R116, R119, R125) -/

/-- Entry to a state other than HELD: the signal takes its aspect, the overdue flag clears (R125), and no timer of another
state runs on. -/
def Portal.enter (st : Seq) (q : Portal) : Portal :=
  { q with
    seq := st
    overdue := false
    warn := .stopped
    travel := .stopped
    confirm := .stopped
    limit := .stopped
    retry := .stopped
    signal := st.aspect.getD q.signal }

/-- The portal's permit is released and its request leaves the queue (R112, R119). -/
def letGo (e : Env) (i : PortalId) (p : Plant) : Plant :=
  let p1 := unqueuePortal e i p
  putPortal e i { p1.portals.get i with permit := false } p1

/-- A motion step goes on: with a permit the motor is driven and the travel timer counts; without, the portal joins the start
queue or keeps its place there (R119). -/
def driveOrQueue (e : Env) (i : PortalId) (p : Plant) : Plant :=
  let q := p.portals.get i
  if q.permit then putPortal e i { q with travel := q.travel.resume e.clock } p
  else joinQueue e (.portal i) p

/-- Entry to a state that drives no motor: any permit is released and any request withdrawn. -/
def enterIdle (e : Env) (i : PortalId) (st : Seq) (p : Plant) : Plant :=
  let p1 := letGo e i p
  putPortal e i ((p1.portals.get i).enter st) p1

/-- OPEN is reached: the retries used return to 0 (R130). -/
def toOpen (e : Env) (i : PortalId) (p : Plant) : Plant :=
  let p1 := enterIdle e i .open p
  putPortal e i { p1.portals.get i with retries := 0 } p1

/-- SEALED is reached: the retries used return to 0 (R126). -/
def toSealed (e : Env) (i : PortalId) (p : Plant) : Plant :=
  let p1 := enterIdle e i .sealed p
  putPortal e i { p1.portals.get i with retries := 0 } p1

/-- WARNING is entered with its timer from zero (R122). -/
def toWarning (e : Env) (i : PortalId) (p : Plant) : Plant :=
  let p1 := enterIdle e i .warning p
  putPortal e i { p1.portals.get i with warn := .since e.clock } p1

/-- CLEARING is entered: the clear-limit timer starts, and the clear-confirm timer if all four loops are clear (R124). -/
def toClearing (e : Env) (i : PortalId) (p : Plant) : Plant :=
  let p1 := enterIdle e i .clearing p
  putPortal e i
    { p1.portals.get i with
      limit := .since e.clock
      confirm := if e.loopsClear then .since e.clock else .stopped } p1

/-- A motion step is entered with the given travel timer; permit and queued request stay (R119, R131). -/
def enterStep (e : Env) (i : PortalId) (st : Seq) (travel : Timer) (p : Plant) : Plant :=
  putPortal e i { (p.portals.get i).enter st with travel := travel } p

/-- BARRING (R123): an active lowered limit ends it at once (R119). -/
def toBarring (e : Env) (i : PortalId) (travel : Timer) (p : Plant) : Plant :=
  let p1 := enterStep e i .barring travel p
  if (e.portalPins i).barrierLowered then toClearing e i p1 else driveOrQueue e i p1

/-- UNSEALING while the gate is away from its open limit (R129). -/
def toUnsealingAway (e : Env) (i : PortalId) (travel : Timer) (p : Plant) : Plant :=
  driveOrQueue e i (enterStep e i .unsealing travel p)

/-- LIFTING (R130): with the gate away from its open limit the portal enters UNSEALING instead; an active raised limit ends
the step at once. -/
def toLifting (e : Env) (i : PortalId) (travel : Timer) (p : Plant) : Plant :=
  if (e.portalPins i).gateOpen then
    let p1 := enterStep e i .lifting travel p
    if (e.portalPins i).barrierRaised then toOpen e i p1 else driveOrQueue e i p1
  else toUnsealingAway e i (.held 0) p

/-- UNSEALING (R129): an active open limit ends it at once, and LIFTING follows. A step so ended has let go of its permit (R119) and,
by the model's choice, of its queued request too, also where a reversal has just kept that request (R131): LIFTING queues afresh
(DESIGN CHOICE, log 53). -/
def toUnsealing (e : Env) (i : PortalId) (travel : Timer) (p : Plant) : Plant :=
  if (e.portalPins i).gateOpen then toLifting e i (.held 0) (letGo e i (enterStep e i .unsealing travel p))
  else toUnsealingAway e i travel p

/-- JAMMED (R135): motor off, permit released, the step becomes the resume state, all timers stop, GATE_JAMMED is raised. -/
def toJammed (e : Env) (i : PortalId) (why : JamCause) (p : Plant) : Plant :=
  let step := (p.portals.get i).seq
  let p1 := enterIdle e i .jammed p
  raiseCause e .gateJammed (putPortal e i { p1.portals.get i with resume := some step, jam := some why } p1)

/-- The safety edge stops the gate: a retry delay while retries are left, else JAMMED (R127). -/
def obstruct (e : Env) (i : PortalId) (p : Plant) : Plant :=
  let q := p.portals.get i
  if q.retries < (e.cfg.portals.get i).retryCount then
    let p1 := letGo e i p
    putPortal e i
      { p1.portals.get i with
        travel := q.travel.pause e.clock
        retries := q.retries + 1
        retry := .since e.clock } p1
  else toJammed e i .edge p

/-- The guard of R42 fails in SEALING: the permit is released, the request withdrawn, and BARRING entered afresh (R126). -/
def guardLost (e : Env) (i : PortalId) (p : Plant) : Plant := toBarring e i (.held 0) (letGo e i p)

/-- SEALING goes on under the guard: without a permit it queues; with one, an active edge stops the gate (R126, R127, log 27). -/
def sealOrQueue (e : Env) (i : PortalId) (p : Plant) : Plant :=
  if (p.portals.get i).permit && (e.portalPins i).edge then obstruct e i p else driveOrQueue e i p

/-- SEALING (R126): the barrier's lowered limit is tested first (log 26), then the closed limit (R119), then the edge where a permit is
held (R127; DESIGN CHOICE, log 50). -/
def toSealing (e : Env) (i : PortalId) (travel : Timer) (p : Plant) : Plant :=
  let p1 := enterStep e i .sealing travel p
  if (e.portalPins i).barrierLowered then
    if (e.portalPins i).gateClosed then toSealed e i p1 else sealOrQueue e i p1
  else guardLost e i p1

/-- UNSETTLED (R137). -/
def toUnsettled (e : Env) (i : PortalId) (p : Plant) : Plant := enterIdle e i .unsettled p

/-! ### HELD (R132 to R134) -/

/-- HELD is entered: motor and permit off, request withdrawn, retry delay discarded, timers paused, signal kept (R132). -/
def toHeld (e : Env) (i : PortalId) (p : Plant) : Plant :=
  let p1 := letGo e i p
  let q := p1.portals.get i
  putPortal e i
    { q with
      seq := .held
      resume := some q.seq
      retry := .stopped
      warn := q.warn.pause e.clock
      travel := q.travel.pause e.clock
      confirm := q.confirm.pause e.clock
      limit := q.limit.pause e.clock } p1

/-- A motion step is entered by name (R119). -/
def toStep (e : Env) (i : PortalId) (st : Seq) (travel : Timer) (p : Plant) : Plant :=
  match st with
  | .barring => toBarring e i travel p
  | .sealing => toSealing e i travel p
  | .unsealing => toUnsealing e i travel p
  | .lifting => toLifting e i travel p
  | _ => p

/-- A travel timer entered again keeps its elapsed time (R134); a stopped one starts from zero. -/
def Timer.orZero : Timer → Timer
  | .stopped => .held 0
  | t => t

/-- The clear-confirm timer taken up again in CLEARING: it counts only while all four loops are clear (R124, R132, log 29). -/
def resumeConfirm (e : Env) (t : Timer) : Timer :=
  if e.loopsClear then
    match t with
    | .stopped => .since e.clock
    | t => t.resume e.clock
  else .stopped

/-- The portal leaves HELD for its resume state (R134). A motion step makes its entry tests even where a HOLD still governs after a lock,
so that what is then HELD may be the state they give (DESIGN CHOICE, log 56). -/
def leaveHeld (e : Env) (i : PortalId) (p : Plant) : Plant :=
  let q := p.portals.get i
  let q0 := { q with resume := none }
  match q.resume with
  | some .warning => putPortal e i { q0 with seq := .warning, signal := .amberFlash, warn := q.warn.resume e.clock } p
  | some .clearing =>
    putPortal e i
      { q0 with
        seq := .clearing
        signal := .red
        confirm := resumeConfirm e q.confirm
        limit := if q.overdue then q.limit else q.limit.resume e.clock } p
  | some .unsettled => putPortal e i (q0.enter .unsettled) p
  | some st => toStep e i st q.travel.orZero (putPortal e i q0 p)
  | none => p

/-! ### Demand (R117, R118, R125) -/

/-- The portal's demand (R117): OPEN, CLOSE, HOLD, or none. -/
def portalDemand (e : Env) (p : Plant) (i : PortalId) : Option Verb :=
  match p.source (.portal i) with
  | .order => (governingOrder e p (.portal i)).map Order.verb
  | .automatic => if (e.cfg.portals.get i).closureStage ≤ e.underpass then some .close else none
  | _ => none

/-- An overdue CLEARING may be forced: stage 4, or an OVERRIDE CLOSE governs (R125). -/
def forcedSealing (e : Env) (p : Plant) (i : PortalId) : Bool :=
  decide (e.underpass = 4) ||
    match governingOrder e p (.portal i) with
    | some o => p.source (.portal i) == .order && o.verb == .close && o.rank == .overriding
    | none => false

/-- The table of R118 applied once, with the forced sealing of R125, before which an OPEN or HOLD demand comes (DESIGN CHOICE, log 58). -/
def applyDemand (e : Env) (i : PortalId) (p : Plant) : Plant :=
  if e.cfg.portalService.get i = .inService ∧ p.locked (.portal i) = false then
    match (p.portals.get i).seq, portalDemand e p i with
    | .open, some .close => toWarning e i p
    | .warning, some .open => toOpen e i p
    | .warning, some .hold => toHeld e i p
    | .barring, some .open => toLifting e i (.held 0) p
    | .barring, some .hold => toHeld e i p
    | .clearing, some .open => toLifting e i (.held 0) p
    | .clearing, some .hold => toHeld e i p
    | .clearing, _ => if (p.portals.get i).overdue && forcedSealing e p i then toSealing e i (.held 0) p else p
    | .sealing, some .open => toUnsealing e i (.held 0) p
    | .sealing, some .hold => toHeld e i p
    | .sealed, some .open => toUnsealing e i (.held 0) p
    | .unsealing, some .close => toSealing e i (.held 0) p
    | .unsealing, some .hold => toHeld e i p
    | .lifting, some .close => toBarring e i (.held 0) p
    | .lifting, some .hold => toHeld e i p
    | .unsettled, some .close => toBarring e i (.held 0) p
    | .unsettled, some .open => toUnsealing e i (.held 0) p
    | .unsettled, some .hold => toHeld e i p
    | .held, some .hold => p
    | .held, _ => leaveHeld e i p
    | _, _ => p
  else p

/-- The demand is applied at each entry to a state too (R118), after the steps that end at once have been followed to the state in which
the portal stands (DESIGN CHOICE, log 57): at most five entries follow each other in one event. -/
def portalDemands (e : Env) (i : PortalId) (p : Plant) : Plant :=
  applyDemand e i (applyDemand e i (applyDemand e i (applyDemand e i (applyDemand e i p))))

/-- Both sequencers apply their demands. -/
def sequencers (e : Env) (p : Plant) : Plant := portalDemands e .pw (portalDemands e .pe p)

/-! ### Settling (R136) -/

/-- The fields that settling by the limit switches leaves (R136, rows 3 to 5). -/
def Portal.settled (st : Seq) (q : Portal) : Portal :=
  { q.enter st with resume := none, retries := 0, motion := .none }

/-- The state of rows 3 to 5 of R136. -/
def settledState (pins : PortalPins) : Seq :=
  if pins.gateClosed && pins.barrierLowered then .sealed
  else if pins.gateOpen && pins.barrierRaised then .open
  else .unsettled

/-- The table of R136. -/
def settlePortal (e : Env) (i : PortalId) (p : Plant) : Plant :=
  let q := p.portals.get i
  if q.jam.isSome then
    putPortal e i { q with seq := .jammed, signal := .red, motion := .none } p
  else if q.seq = .held ∧ q.resume.isSome then leaveHeld e i p
  else putPortal e i (q.settled (settledState (e.portalPins i))) p

/-! ### Hand motions (R41, R42) -/

/-- The hand motion ends: motor off, permit released, request withdrawn, result recorded (R41). -/
def endHand (e : Env) (i : PortalId) (why : HandResult) (p : Plant) : Plant :=
  let p1 := letGo e i p
  putPortal e i { p1.portals.get i with motion := .none, result := some why, travel := .stopped } p1

/-- The hand motion ends if there is one. -/
def stopHand (e : Env) (i : PortalId) (p : Plant) : Plant :=
  if (p.portals.get i).motion = .none then p else endHand e i .stop p

/-- The limit that a hand motion runs to (R41). -/
def motionTarget (pins : PortalPins) : HandMotion → Bool
  | .none => false
  | .gateOpening => pins.gateOpen
  | .gateClosing => pins.gateClosed
  | .barrierRising => pins.barrierRaised
  | .barrierLowering => pins.barrierLowered

/-- A gate motion or a barrier motion. -/
def HandMotion.ofGate : HandMotion → Bool
  | .gateOpening | .gateClosing => true
  | _ => false

def HandMotion.ofBarrier : HandMotion → Bool
  | .barrierRising | .barrierLowering => true
  | _ => false

/-- A hand motion is set (R41): a motion under way or waiting ends with STOP and leaves its permit or its place in the queue
to the new one (log 24), and so does a drive that repeats the motion under way (log 47); an active target limit ends the new one at
once with LIMIT. -/
def setHand (e : Env) (i : PortalId) (m : HandMotion) (p : Plant) : Plant :=
  let q := p.portals.get i
  if motionTarget (e.portalPins i) m then endHand e i .limit p
  else
    driveOrQueue e i
      (putPortal e i
        { q with
          motion := m
          travel := .held 0
          result := if q.motion = .none then q.result else some .stop } p)

/-! ### Grant and withdrawal of a permit (R112, R119, R121, R126, R127, R130, R41) -/

/-- The portal has just taken a permit. In SEALING the guard comes first (R126): with the lowered limit inactive and the safety edge
active at once the portal enters BARRING and uses no retry (R127; DESIGN CHOICE, log 50). -/
def onPermit (e : Env) (i : PortalId) (p : Plant) : Plant :=
  let q := p.portals.get i
  match q.seq with
  | .barring | .unsealing => driveOrQueue e i p
  | .sealing => if (e.portalPins i).barrierLowered then sealOrQueue e i p else guardLost e i p
  | .lifting => if (e.portalPins i).gateOpen then driveOrQueue e i p else toUnsealingAway e i (.held 0) p
  | .hand =>
    if q.motion = .gateClosing ∧ (e.portalPins i).barrierLowered = false then endHand e i .guarding p
    else if q.motion = .none then letGo e i p
    else driveOrQueue e i p
  | _ => letGo e i p

/-- The arbiter withdraws a permit: the motor stops, the travel time is kept, and the portal joins the queue's end (R121, R41). -/
def withdrawPermit (e : Env) (i : PortalId) (p : Plant) : Plant :=
  let q := p.portals.get i
  if q.permit then
    joinQueue e (.portal i) (putPortal e i { q with permit := false, travel := q.travel.pause e.clock } p)
  else p

/-- A motion step ends at its target limit and the next state is entered (6.3). -/
def completeStep (e : Env) (i : PortalId) (p : Plant) : Plant :=
  match (p.portals.get i).seq with
  | .barring => toClearing e i p
  | .sealing => toSealed e i p
  | .unsealing => toLifting e i (.held 0) (letGo e i p)
  | .lifting => toOpen e i p
  | _ => p

/-- A motion step drives its motor or waits for its permit, and is in no retry delay (R119, R127). -/
def stepOpen (p : Plant) (i : PortalId) : Bool :=
  let q := p.portals.get i
  q.seq.motionStep && (q.permit || p.queued (.portal i))

/-- The target limit of a motion step (6.3). -/
def stepTarget (pins : PortalPins) : Seq → Bool
  | .barring => pins.barrierLowered
  | .sealing => pins.gateClosed
  | .unsealing => pins.gateOpen
  | .lifting => pins.barrierRaised
  | _ => false

/-- A limit input of the portal has changed; `e` holds the pins after the change (R119, R126, R130, R41, R42). -/
def onLimit (e : Env) (i : PortalId) (p : Plant) : Plant :=
  let q := p.portals.get i
  let pins := e.portalPins i
  if q.seq = .hand then
    if motionTarget pins q.motion then endHand e i .limit p
    else if q.motion = .gateClosing ∧ pins.barrierLowered = false then endHand e i .guarding p
    else p
  else if stepOpen p i && stepTarget pins q.seq then completeStep e i p
  else if q.seq = .sealing ∧ q.permit ∧ pins.barrierLowered = false then guardLost e i p
  else if q.seq = .lifting ∧ q.permit ∧ pins.gateOpen = false then toUnsealingAway e i (.held 0) p
  else p

end Sys2Proof.Machine
end

