-- ==== Sys2Proof/Machine/Pumps.lean ====
section
/-! DEFINITION. Pump Duty (chapter 4): stops, availability, wanted pumps, what a grant and the running feedback do to a pump.
The arbiter's grants are in Arbiter.lean; the meanings of the pump events in PumpEvents.lean. -/

namespace Sys2Proof.Machine

/-! ### The ring and its lead (R74, R75) -/

/-- The ring's pumps in walk order: from the lead round to the position before it (R82). -/
def walk (e : Env) (p : Plant) (u : SumpId) : List PumpId :=
  (e.ring u).drop ((p.duty.get u).lead - 1) ++ (e.ring u).take ((p.duty.get u).lead - 1)

/-- How many of a ring's pumps are STARTING or RUNNING (R75). -/
def ringLive (e : Env) (p : Plant) (u : SumpId) : Nat := (e.ring u).countP (fun i => (p.pumps.get i).live)

/-- The lead advances by one position, from the last back to position 1 (R75). -/
def advanceLead (e : Env) (u : SumpId) (p : Plant) : Plant :=
  let d := p.duty.get u
  { p with duty := p.duty.set u { d with lead := if (e.ring u).length ≤ d.lead then 1 else d.lead + 1 } }

/-- The lead is set to position 1 (R75). -/
def resetLead (u : SumpId) (p : Plant) : Plant :=
  { p with duty := p.duty.set u { p.duty.get u with lead := 1 } }

/-! ### Stops (R90 to R93) -/

/-- Where a stop takes a pump: to its rest; to its rest with the dry flag; straight to STOPPED; or to FAULTED. -/
inductive Stop where
  | rest
  | dry
  | off
  | fault (k : FaultKind)
  deriving DecidableEq, Repr

/-- The pump's timers that every stop ends (R91, R93, R110). -/
def Pump.endTimers (q : Pump) : Pump :=
  { q with confirm := .stopped, surge := .stopped, minRun := .stopped, dryTimer := .stopped, lostTimer := .stopped }

/-- Entry to RESTING for the min rest as it stands now (R97); a min rest of 0 takes the pump to STOPPED at once (R92). -/
def Pump.toRest (now minRest : Nat) (q : Pump) : Pump :=
  if minRest = 0 then { q with run := .stopped, minRest := .stopped, restLength := 0 }
  else { q with run := .resting, minRest := .since now, restLength := minRest }

/-- The pump's record after a stop. A stop by the pump's own protections sets the hand setting of a pump IN_HAND to OFF (R40). -/
def Pump.afterStop (now minRest : Nat) (inHand : Bool) (k : Stop) (q : Pump) : Pump :=
  match k with
  | .rest => q.endTimers.toRest now minRest
  | .dry => { q.endTimers.toRest now minRest with dry := true, hand := q.hand && !inHand }
  | .off => { q.endTimers with run := .stopped }
  | .fault f => { q.endTimers with run := .faulted, fault := some f, hand := q.hand && !inHand }

/-- The pump's record is written for a stop; the lead advances when the ring's count of STARTING and RUNNING pumps falls from
one or more to none (R75); a fault raises PUMP_FAULT (R88). -/
def haltPump (e : Env) (i : PumpId) (k : Stop) (p : Plant) : Plant :=
  let q := p.pumps.get i
  let u := e.sumpOf i
  let p1 := putPump e i (q.afterStop e.clock (e.cfg.pumps.get i).minRest (e.cfg.pumpService.get i == .inHand) k) p
  let p2 := if 0 < ringLive e p u ∧ ringLive e p1 u = 0 then advanceLead e u p1 else p1
  match k with
  | .fault _ => raiseCause e .pumpFault p2
  | _ => p2

/-! ### Wanted count, availability and the walk (R80 to R82) -/

/-- The wanted count N of a sump (R80). -/
def wantedCount (e : Env) (p : Plant) (u : SumpId) : Nat :=
  let m := e.sumps.get u
  if 3 ≤ m.stage then (e.ring u).length
  else if m.mode = .float ∨ m.mode = .barred then 1
  else (p.duty.get u).latches.count true

/-- The pump's start list closes its availability: the limit is reached and the sump is below stage 4 (R81, R94). -/
def listClosed (e : Env) (p : Plant) (i : PumpId) : Bool :=
  decide ((e.cfg.pumps.get i).startsPerHour ≤ (p.pumps.get i).starts.length) && decide (e.stageOf i < 4)

/-- An order of this verb governs the pump. -/
def governedBy (e : Env) (p : Plant) (u : UnitId) (v : Verb) : Bool :=
  match governingOrder e p u with
  | some o => o.verb == v
  | none => false

/-- Availability (R81). -/
def available (e : Env) (p : Plant) (i : PumpId) : Bool :=
  let q := p.pumps.get i
  e.cfg.pumpService.get i == .inService && !p.locked (.pump i) && q.run != .faulted && !governedBy e p (.pump i) .stop &&
    (q.live || (q.run != .resting && !e.pins.dryRun.get i && !listClosed e p i))

/-- The ordered pumps of a sump (R82). -/
def orderedPumps (e : Env) (p : Plant) (u : SumpId) : List PumpId :=
  (e.ring u).filter (fun i => available e p i && governedBy e p (.pump i) .run)

/-- The automatic pumps of a sump: the first N available pumps of the walk whose demand source is AUTOMATIC (R82). -/
def automaticPumps (e : Env) (p : Plant) (u : SumpId) : List PumpId :=
  ((walk e p u).filter (fun i => available e p i && p.source (.pump i) == .automatic)).take (wantedCount e p u)

/-- The wanted pumps of a sump (R82). -/
def wantedPumps (e : Env) (p : Plant) (u : SumpId) : List PumpId := orderedPumps e p u ++ automaticPumps e p u

/-! ### Acting on the wanted pumps (R83, R40, R90) -/

/-- A RUNNING pump whose min run has elapsed and that is no longer wanted, or whose hand setting is OFF (R90). -/
def standingStopDue (e : Env) (p : Plant) (u : SumpId) (i : PumpId) : Bool :=
  let q := p.pumps.get i
  q.run == .running && q.minRun == .stopped &&
    match e.cfg.pumpService.get i with
    | .inService => !(wantedPumps e p u).contains i
    | .inHand => !q.hand
    | .outOfService => false

/-- Standing stops of one sump, the wanted pumps worked out again after each round (R75, R90). -/
def standingStops (e : Env) (u : SumpId) : Nat → Plant → Plant
  | 0, p => p
  | n + 1, p =>
    match (walk e p u).filter (standingStopDue e p u) with
    | [] => p
    | l => standingStops e u n (l.foldl (fun a i => haltPump e i .rest a) p)

/-- A pump joins the start queue and becomes QUEUED (R83). -/
def queuePump (e : Env) (i : PumpId) (p : Plant) : Plant :=
  joinQueue e (.pump i) (putPump e i { p.pumps.get i with run := .queued } p)

/-- The pump is to be in the start queue: wanted in service (R83), or ON in hand and not held STOPPED by its start list (R40,
R94); a STOPPED hand pump also waits for its dry-run input, a QUEUED one does not (log 23). -/
def wantsStart (e : Env) (p : Plant) (wanted : List PumpId) (i : PumpId) : Bool :=
  let q := p.pumps.get i
  match e.cfg.pumpService.get i with
  | .inService => wanted.contains i
  | .inHand => !p.locked (.pump i) && q.hand && !listClosed e p i && (q.run == .queued || !e.pins.dryRun.get i)
  | .outOfService => false

/-- One pump joins or leaves the start queue (R83, R40). -/
def queueOrLeave (e : Env) (wanted : List PumpId) (i : PumpId) (p : Plant) : Plant :=
  match (p.pumps.get i).run, wantsStart e p wanted i with
  | .stopped, true => queuePump e i p
  | .queued, false => unqueuePump e i p
  | _, _ => p

/-- One sump's wanted pumps are worked out and acted on (R82, R83). -/
def dutySump (e : Env) (u : SumpId) (p : Plant) : Plant :=
  let p1 := standingStops e u 5 p
  let wanted := wantedPumps e p1 u
  (walk e p1 u).foldl (fun a i => queueOrLeave e wanted i a) p1

/-- The sumps in the order C, E, W (R83). -/
def dutyAll (e : Env) (p : Plant) : Plant := SumpId.every.foldl (fun a u => dutySump e u a) p

/-! ### Immediate stops by locks, orders and the outfall limit (R91, R95) -/

/-- A lock, or a governing OVERRIDE STOP on a pump in service, calls for an immediate stop (R84, R91). -/
def immediateStopDue (e : Env) (p : Plant) (i : PumpId) : Bool :=
  p.locked (.pump i) ||
    (e.cfg.pumpService.get i == .inService &&
      match governingOrder e p (.pump i) with
      | some o => o.verb == .stop && o.rank == .overriding
      | none => false)

/-- The first two rows of R91. -/
def immediateStop (e : Env) (i : PumpId) (p : Plant) : Plant :=
  if immediateStopDue e p i then
    match (p.pumps.get i).run with
    | .starting | .running => haltPump e i .rest p
    | .queued => unqueuePump e i p
    | .stopped | .resting | .faulted => p
  else p

/-- Every pump that a lock or an OVERRIDE STOP stops is stopped. -/
def immediateStops (e : Env) (p : Plant) : Plant := PumpId.every.foldl (fun a i => immediateStop e i a) p

/-- The pump among the STARTING and RUNNING ones whose latest grant is the most recent (R95, R104). -/
def latestLivePump (p : Plant) : Option PumpId :=
  p.arb.grantOrder.reverse.findSome? (fun u =>
    match u with
    | .pump i => if (p.pumps.get i).live then some i else none
    | _ => none)

/-- R95: while the limit in force is below the count, the most recently granted pump is stopped at once. -/
def outfallStops (e : Env) : Nat → Plant → Plant
  | 0, p => p
  | n + 1, p =>
    match limitInForce e p, latestLivePump p with
    | some m, some i => if m < liveCount p then outfallStops e n (haltPump e i .rest p) else p
    | _, _ => p

/-! ### A grant and the running feedback (R86, R87) -/

/-- The start list with a grant's entry at its end; a 13th entry drops the oldest first (R94). -/
def addStart (now : Nat) (l : List Nat) : List Nat :=
  (if Config.startListLimit ≤ l.length then l.drop 1 else l) ++ [now]

/-- A timer that runs for a setting; a setting of 0 has run out from the start (R86). -/
def timerFor (now setting : Nat) : Timer := if setting = 0 then .stopped else .since now

/-- R86 steps 1 to 4: the pump's record at its grant. -/
def Pump.granted (now : Nat) (c : PumpCfg) (q : Pump) : Pump :=
  { q with
    run := .starting
    starts := addStart now q.starts
    confirm := .since now
    surge := .since now
    minRun := timerFor now c.minRun
    dry := false
    starved := false }

/-- A STARTING pump becomes RUNNING (R87); an active dry-run input is timed from this event (R89). -/
def becomeRunning (e : Env) (i : PumpId) (p : Plant) : Plant :=
  putPump e i
    { p.pumps.get i with
      run := .running
      confirm := .stopped
      lostTimer := .stopped
      dryTimer := if e.pins.dryRun.get i then .since e.clock else .stopped } p

/-- A thermal trip present at the grant: the contactor is not closed, so the ring's count does not rise and the lead does not
advance (R86, log 21). -/
def faultAtGrant (e : Env) (i : PumpId) (p : Plant) : Plant :=
  raiseCause e .pumpFault
    (putPump e i
      ((p.pumps.get i).afterStop e.clock (e.cfg.pumps.get i).minRest (e.cfg.pumpService.get i == .inHand) (.fault .thermal)) p)

/-! ### Position latches (R79) -/

/-- One latch against a level: set at the start level, cleared below the stop level, else kept (R79). -/
def latchAt (level : Nat) (pos : PosLevel) (set : Bool) : Bool :=
  if pos.start ≤ level then true else if level < pos.stop then false else set

/-- Every latch of a sump evaluated against F (R79). -/
def evaluateLatches (e : Env) (u : SumpId) (level : Nat) (p : Plant) : Plant :=
  let d := p.duty.get u
  { p with duty := p.duty.set u { d with latches := List.zipWith (latchAt level) (e.cfg.sumps.get u).positions d.latches } }

end Sys2Proof.Machine
end

