-- ==== Sys2Proof/Machine/Arbiter.lean ====
section
/-! DEFINITION. The Start Arbiter (chapter 5): the order of grant choice, the fit tests, a grant, the grant pass, a change of
supply state, room-making; and `settlePlant`, which lets every block act on what an event has changed (log 19). -/

namespace Sys2Proof.Machine

/-! ### Supply state (R98) -/

/-- The table of R98. -/
def nextSupply (gridOk standbyOk : Bool) (now : Supply) : Supply :=
  if gridOk then .grid
  else if standbyOk then .standby
  else
    match now with
    | .grid | .standby | .transfer => .transfer
    | .dark => .dark

/-! ### Choice and fit (R107) -/

/-- The request of a unit is a MOTION request. -/
def Request.motion (r : Request) : Bool :=
  match r.unit with
  | .portal _ => true
  | _ => false

/-- The stage by which a request is ordered: that of a pump's sump (R107). -/
def Request.stage (e : Env) (r : Request) : Nat :=
  match r.unit with
  | .pump i => e.stageOf i
  | _ => 0

/-- The PUMP requests by stage, highest first, in joining order among equals (R107). -/
def pumpRequestsByStage (e : Env) (q : List Request) : List Request :=
  let l := q.filter (fun r => !r.motion)
  [4, 3, 2, 1, 0].flatMap (fun st => l.filter (fun r => min 4 (r.stage e) == st))

/-- The queue in the order in which the arbiter would now choose (R106, R107). -/
def grantOrderNow (e : Env) (q : List Request) : List Request :=
  q.filter Request.motion ++ pumpRequestsByStage e q

/-- The fit test of a request (R107). -/
def fits (e : Env) (p : Plant) (r : Request) : Bool :=
  let room := nonLampLoad e p + shedReservation e.cfg
  match r.unit with
  | .portal i => decide (room + (e.cfg.portals.get i).motorKw ≤ budget e p)
  | .pump i =>
    decide (room + (e.cfg.pumps.get i).load + (e.cfg.pumps.get i).surge ≤ budget e p) && p.arb.spacing == .stopped &&
      match limitInForce e p with
      | some n => decide (liveCount p < n)
      | none => true
  | _ => false

/-! ### A grant (R108, R86, R112) -/

/-- Every owner acts on the plant as it stands, short of the arbiter's own pass. -/
def ownersAct (e : Env) (p : Plant) : Plant := lampPass e (sequencers e (dutyAll e p))

/-- A pump's grant (R108): its load joins and the zones are trimmed, then Pump Duty acts as R86 states, then spacing starts. -/
def grantPump (e : Env) (i : PumpId) (p : Plant) : Plant :=
  let p1 := noteGrant (.pump i) (dropRequest (.pump i) p)
  let p2 := lampPass e (putPump e i ((p1.pumps.get i).granted e.clock (e.cfg.pumps.get i)) p1)
  let p3 :=
    if e.pins.thermal.get i then faultAtGrant e i p2
    else if e.pins.feedback.get i then becomeRunning e i p2
    else p2
  { p3 with arb := { p3.arb with spacing := timerFor e.clock e.cfg.supply.spacing } }

/-- A portal's grant (R108, R112): it takes the permit, its load joins and the zones are trimmed, then it drives as its state says. -/
def grantPortal (e : Env) (i : PortalId) (p : Plant) : Plant :=
  let p1 := noteGrant (.portal i) (unqueuePortal e i p)
  onPermit e i (lampPass e (putPortal e i { p1.portals.get i with permit := true } p1))

/-- A granted request goes to its owner. -/
def grantRequest (e : Env) (r : Request) (p : Plant) : Plant :=
  match r.unit with
  | .pump i => grantPump e i p
  | .portal i => grantPortal e i p
  | _ => dropRequest r.unit p

/-- A grant pass (R108): requests are granted one at a time until the queue is empty or the head does not fit. The count bounds
the grants of one event: at most ten requests wait, and those that join during the pass are few (log 19). -/
def grantPass (e : Env) : Nat → Plant → Plant
  | 0, p => p
  | n + 1, p =>
    match grantOrderNow e p.arb.queue with
    | [] => p
    | r :: _ => if fits e p r then grantPass e n (ownersAct e (grantRequest e r p)) else p

/-! ### Every block acts on what an event has changed (log 19) -/

/-- Immediate stops and the outfall limit (R91, R95), the wanted pumps (R83), the sequencers' demands (R118), targets and lamp
allocation (R113), the grant pass (R108), and the condition causes (R174). -/
def settlePlant (e : Env) (p : Plant) : Plant :=
  refreshConditions e (grantPass e 40 (ownersAct e (outfallStops e 8 (immediateStops e p))))

/-! ### A change of supply state (R100, R101) -/

/-- R100 step 1, R93: every STARTING or RUNNING pump becomes STOPPED, with no rest. -/
def dropPumps (e : Env) (p : Plant) : Plant :=
  PumpId.every.foldl (fun a i => if (a.pumps.get i).live then haltPump e i .off a else a) p

/-- The portals that hold permits, the earlier granted first (R100 step 2). -/
def permitHolders (p : Plant) : List PortalId :=
  p.arb.grantOrder.filterMap (fun u =>
    match u with
    | .portal i => if (p.portals.get i).permit then some i else none
    | _ => none)

/-- The permits of the portals listed are withdrawn; the portals join the queue's end in the order of the list (R121). -/
def withdrawPermits (e : Env) (l : List PortalId) (p : Plant) : Plant := l.foldl (fun a i => withdrawPermit e i a) p

/-- R100 step 2: every permit is withdrawn and the portals join the queue in the order of their grants. -/
def dropPermits (e : Env) (p : Plant) : Plant := withdrawPermits e (permitHolders p) p

/-- R100 step 3: the outputs of Z1 .. Z5 are set to 0. -/
def dropZones (e : Env) (p : Plant) : Plant :=
  budgetZones.foldl (fun a z => putZone e z ((a.zones.get z).setOutput e.clock 0) a) p

/-- The wait timers pause in TRANSFER and count in the other states (R99, R111). -/
def retimeWaits (now : Nat) (s : Supply) (q : List Request) : List Request :=
  q.map (fun r => { r with wait := if s = .transfer then r.wait.pause now else r.wait.resume now })

/-- The supply state is recorded (R98), with its timer, its PLANT entry and the condition cause (R99). -/
def setSupply (e : Env) (s : Supply) (p : Plant) : Plant :=
  refreshConditions e
    (report e .plant none
      { p with
        arb :=
          { p.arb with
            supply := s
            transfer := if s = .transfer then .since e.clock else .stopped
            queue := retimeWaits e.clock s p.arb.queue } })

/-- A change of supply state drops every budgeted load (R100); the owners and the arbiter then act under the new budget (R101). -/
def changeSupply (e : Env) (s : Supply) (p : Plant) : Plant :=
  settlePlant e (dropZones e (dropPermits e (dropPumps e (setSupply e s p))))

/-! ### Room-making (R104) -/

/-- The non-lamp load and the shed reservation together exceed the budget, in GRID or STANDBY (R104). -/
def overfull (e : Env) (p : Plant) : Bool :=
  p.arb.supply.powered && decide (budget e p < nonLampLoad e p + shedReservation e.cfg)

/-- Of permit holders, the earlier granted first, those whose permits room-making takes: the most recently granted, no more of them
than make room (R104). -/
def permitsForRoom (e : Env) (p : Plant) : List PortalId → List PortalId
  | [] => []
  | i :: later =>
    if overfull e (withdrawPermits e later p) then i :: later else permitsForRoom e p later

/-- R104: while the non-lamp load and the reservation exceed the budget, the most recently granted pump is stopped into its
rest; with no pump left, permits are withdrawn, the most recently granted first, and where both are, the portals join the queue in the
order of their grants, the earlier first (R100 step 2). -/
def makeRoom (e : Env) : Nat → Plant → Plant
  | 0, p => p
  | n + 1, p =>
    if overfull e p then
      match latestLivePump p with
      | some i => makeRoom e n (haltPump e i .rest p)
      | none => withdrawPermits e (permitsForRoom e p (permitHolders p)) p
    else p

/-! ### Waiting (R111) -/

/-- The STARVED flag of a waiting unit is set and START_STARVED raised. -/
def starve (e : Env) (u : UnitId) (p : Plant) : Plant :=
  match u with
  | .pump i => raiseCause e .startStarved (putPump e i { p.pumps.get i with starved := true } p)
  | .portal i => raiseCause e .startStarved (putPortal e i { p.portals.get i with starved := true } p)
  | _ => p

/-- The STARVED flag of a unit. -/
def starvedFlag (p : Plant) : UnitId → Bool
  | .pump i => (p.pumps.get i).starved
  | .portal i => (p.portals.get i).starved
  | _ => false

end Sys2Proof.Machine
end

