-- ==== Sys2Proof/Machine/Orders.lean ====
section
/-! DEFINITION. The Order Table (chapter 1) and the Unit Table's derived fields (R33): governance and locks, joining and leaving the
table, stand-down, and the lockouts that the store keeps. The meanings of the order requests are in OrderRequests.lean. -/

namespace Sys2Proof.Machine

/-! ### Small views of an order -/

/-- The remaining expiry in seconds (R3): it counts down by one once a second and is at least 1 while the order stands (log 13). -/
def Order.remaining (now : Nat) (o : Order) : Option Nat :=
  o.expiresAt.map (fun t => max 1 (ceilDiv (t - now) 1000))

/-- An expiry of `n` seconds that starts counting now. -/
def expiryFrom (now : Nat) (n : Option Nat) : Option Nat := n.map (fun s => now + 1000 * s)

/-- The default yield stage of an issuer's map (R7). KEY orders are never STANDING (R26). -/
def defaultYieldOf (c : WorkConfig) : Issuer → Nat
  | .field => c.authority.field.defaultYield
  | .panel | .key => c.authority.panel.defaultYield

/-- The effective yield stage (R1). -/
def effectiveYield (c : WorkConfig) (issuer : Issuer) (y : Option Nat) : Nat := y.getD (defaultYieldOf c issuer)

/-- Height of a rank: LOCKOUT above OVERRIDE above STANDING (R9). -/
def Rank.height : Rank → Nat
  | .lockout => 2
  | .overriding => 1
  | .standing => 0

/-- FIELD or PANEL: the orders that count against 30 (R5). -/
def Order.fromLink (o : Order) : Bool := o.issuer != .key

/-! ### Governance (R9, R10, R11, R33) -/

/-- Of the orders on a unit, the one of highest rank, the latest in table order among equals (R9). -/
def governorOf (table : List Order) (u : UnitId) : Option Order :=
  (table.filter (fun o => o.unit == u)).foldl
    (fun best o =>
      match best with
      | none => some o
      | some b => if b.rank.height ≤ o.rank.height then some o else some b)
    none

/-- The governing order's number, if the unit is IN_SERVICE and an order stands on it (R9). -/
def governorNumber (c : WorkConfig) (table : List Order) (u : UnitId) : Option Nat :=
  if serviceOf c u = .inService then (governorOf table u).map Order.number else none

/-- An order's governance (R9). -/
def governanceOf (c : WorkConfig) (table : List Order) (o : Order) : Governance :=
  if serviceOf c o.unit ≠ .inService then .dormant
  else if governorNumber c table o.unit = some o.number then .governing
  else .outranked

/-- The lock flag (R11). -/
def lockFlag (table : List Order) (u : UnitId) : Bool := table.any (fun o => o.unit == u && o.rank == .lockout)

/-- The demand source (R33). -/
def sourceOf (locked : Bool) (sv : Service) (governing : Option Nat) : Source :=
  if locked then .lock
  else
    match sv with
    | .inHand => .hand
    | .outOfService => .off
    | .inService => if governing.isSome then .order else .automatic

/-- The derived fields of a unit as the table and the service state give them. -/
def unitRecOf (c : WorkConfig) (table : List Order) (u : UnitId) : UnitRec :=
  let g := governorNumber c table u
  let l := lockFlag table u
  { locked := l, governing := g, source := sourceOf l (serviceOf c u) g }

/-- What the setting of a lock flag does beside the stops of R91 and the lamp outputs of R153: a unit IN_HAND takes its off
settings (R38), and a portal in service is HELD (R132, R133). -/
def onLock (e : Env) (u : UnitId) (p : Plant) : Plant :=
  match u with
  | .pump i =>
    if e.cfg.pumpService.get i = .inHand then putPump e i { p.pumps.get i with hand := false } p else p
  | .portal i =>
    match e.cfg.portalService.get i with
    | .inHand =>
      let p1 := stopHand e i p
      putPortal e i { p1.portals.get i with signal := .red } p1
    | .inService =>
      match (p.portals.get i).seq with
      | .sealed | .open | .jammed | .out | .held | .hand => p
      | _ => toHeld e i p
    | .outOfService => p
  | .zone z =>
    if e.cfg.zoneService.get z = .inHand then putZone e z { p.zones.get z with hand := 0 } p else p
  | .outfall => p

/-- What the clearing of a lock flag does: a portal in service settles (R38, R136). -/
def onUnlock (e : Env) (u : UnitId) (p : Plant) : Plant :=
  match u with
  | .portal i => if e.cfg.portalService.get i = .inService then settlePortal e i p else p
  | _ => p

/-- A unit's record takes its derived fields; a change is reported (R10, R33), and a change of lock flag acts (R11, R38). -/
def syncUnit (e : Env) (u : UnitId) (p : Plant) : Plant :=
  let old := p.units.get u
  let new := unitRecOf e.cfg e.table u
  if old = new then p
  else
    let p1 := report e (.unit u) none { p with units := p.units.set u new }
    if !old.locked && new.locked then onLock e u p1
    else if old.locked && !new.locked then onUnlock e u p1
    else p1

/-- The table with the governance of the orders on the given units resolved again (R9). -/
def resolveTable (c : WorkConfig) (us : List UnitId) (table : List Order) : List Order :=
  table.map (fun o => if us.contains o.unit then { o with governance := governanceOf c table o } else o)

/-- The numbers of the orders whose governance a resolution changes, in table order (R10). -/
def changedGovernance (c : WorkConfig) (us : List UnitId) (table : List Order) : List Nat :=
  (table.filter (fun o => us.contains o.unit && governanceOf c table o != o.governance)).map Order.number

/-- Governance on the given units is resolved again, with its reports (R10); a new order's first resolution is one of them (log 62). -/
def resolve (us : List UnitId) (s : State) : State :=
  let e := { s.env with table := resolveTable s.env.cfg us s.env.table }
  let p := (changedGovernance s.env.cfg us s.env.table).foldl (fun a n => report e (.order n) none a) s.plant
  { s with env := e, plant := us.foldl (fun a u => syncUnit e u a) p }

/-- Every block of the plant acts on what the event has changed (log 19). -/
def settle (s : State) : State := { s with plant := settlePlant s.env s.plant }

/-! ### Joining and leaving the table (R5, R6, R21) -/

/-- The order-number counter's next value, wrapping from 65535 to 1 (R6). -/
def nextNumber (n : Nat) : Nat := if 65535 ≤ n then 1 else n + 1

/-- The search of R6: the first number from `n` on that no order of the table has. -/
def freeNumber (table : List Order) : Nat → Nat → Nat
  | 0, n => n
  | k + 1, n => if table.any (fun o => o.number == n) then freeNumber table k (nextNumber n) else n

/-- The number that a new order would take: the search ends within 33 values (R6). -/
def drawNumber (s : State) : Nat := freeNumber s.env.table 33 s.env.counter

/-- The orders that satisfy `gone` leave the table; each removal is reported with its reason, in table order (R21). -/
def removeOrders (gone : Order → Bool) (why : Reason) (s : State) : State :=
  { s with
    env := { s.env with table := s.env.table.filter (fun o => !gone o) }
    plant := (s.env.table.filter gone).foldl (fun a o => report s.env (.order o.number) (some why) a) s.plant }

/-- A new order takes a number from the counter, joins the end of the table with revision 0, and is reported (R6, R13). Its governance
is OUTRANKED until `resolve` works it out in the same event, which reports the order again, as a change of governance, where it comes out
GOVERNING or DORMANT: a second ORDER report, which a changed set that the first has just overflowed keeps (R180; DESIGN CHOICE,
log 62). -/
def joinTable (issuer : Issuer) (holder : Nat) (u : UnitId) (rank : Rank) (verb : Verb) (arg yieldStage expiry : Option Nat)
    (s : State) : State :=
  let n := drawNumber s
  let o : Order :=
    { number := n, issuer := issuer, holder := holder, unit := u, rank := rank, verb := verb, arg := arg, yieldStage := yieldStage
      expiresAt := expiryFrom s.env.clock expiry, revision := 0, governance := .outranked }
  { s with
    env := { s.env with table := s.env.table ++ [o], counter := nextNumber n }
    plant := report s.env (.order n) none s.plant }

/-! ### Stand-down (R23, R24) -/

/-- A STANDING order whose effective yield stage is at or below its relevant stage (R23). -/
def outrun (e : Env) (o : Order) : Bool :=
  o.rank == .standing && decide (effectiveYield e.cfg o.issuer o.yieldStage ≤ e.relevantStage o.unit)

/-- The STANDING orders that their relevant stage has outrun leave as STOOD_DOWN (R23). -/
def standDown (s : State) : State :=
  let us := ((s.env.table.filter (outrun s.env)).map Order.unit).eraseDups
  resolve us (removeOrders (outrun s.env) .stoodDown s)

/-! ### Lockouts and the store (R27, R185, R188) -/

/-- The lockouts of the table, in table order, as the lockout area keeps them (R27). -/
def lockouts (table : List Order) : List StoredLock :=
  (table.filter (fun o => o.rank == .lockout)).map (fun o => ⟨o.number, o.holder, o.unit⟩)

/-- Store states (R185). -/
inductive StoreState where | idle | saving | writingLocks
  deriving DecidableEq, Repr

/-- An image write is in progress or waiting. -/
def Write.isImage : Write → Bool
  | .image _ => true
  | .locks _ => false

/-- The store state, from the writes that are held (R185). -/
def Store.state (t : Store) : StoreState :=
  if t.inProgress.any Write.isImage || t.waiting.any Write.isImage then .saving
  else if t.inProgress.isSome || t.waiting.isSome then .writingLocks
  else .idle

/-- The store's record is written; a change of store state makes a PLANT entry (R185). -/
def putStore (t : Store) (s : State) : State :=
  let s1 := { s with store := t }
  if t.state = s.store.state then s1 else { s1 with plant := report s.env .plant none s.plant }

/-- A write is asked for: it starts at once if no write is held, and waits otherwise (R185). -/
def Store.ask (w : Write) (t : Store) : Store :=
  match t.inProgress with
  | none => { t with inProgress := some w }
  | some _ => { t with waiting := some w }

/-- The Order Table asks for the lockout area to be written with the lockouts now in the table (R27). -/
def askLockoutWrite (s : State) : State := putStore (s.store.ask (.locks (lockouts s.env.table))) s

end Sys2Proof.Machine
end

