-- ==== Sys2Proof/Machine/Sumps.lean ====
section
/-! DEFINITION. Sump Measurement (chapter 3): scaling, vote, filter, rate, forecast, the stage evaluation, the section restart, and the
hand-on of a section's change to the other blocks. -/

namespace Sys2Proof.Machine

/-! ### Scaling (R52) -/

/-- A valid transducer count. -/
def countValid (count : Nat) : Bool := decide (205 ≤ count) && decide (count ≤ 4060)

/-- The level of a valid count with zero z and gain k. -/
def scaleCount (z k count : Nat) : Nat := min 9999 ((count - z) * k / 1024)

/-- The level of a count, absent when the count is invalid. -/
def levelOfCount (z k count : Nat) : Option Nat := if countValid count then some (scaleCount z k count) else none

/-- The sample record of two counts. -/
def sampleOf (c : Calibration) (countA countB : Nat) : Sample :=
  { countA := countA, countB := countB, levelA := levelOfCount c.za c.ka countA, levelB := levelOfCount c.zb c.kb countB }

/-! ### The vote (R53 to R56) -/

/-- The distance of two levels. -/
def distance (a b : Nat) : Nat := max a b - min a b

/-- Of two disagreeing levels, the one nearer F; A on a tie, and while F is unprimed (R53). -/
def nearer (level : Option Nat) (a b : Nat) : Nat :=
  match level with
  | none => a
  | some f => if distance a f ≤ distance b f then a else b

/-- Both counts valid (R53, R54): agreement within d, or a disagreement that uses the allowance. -/
def votePair (d a b : Nat) (m : Section) : Section × Option Nat :=
  if distance a b ≤ d then ({ m with mode := .dual, invalidCount := 0 }, some ((a + b) / 2))
  else if m.allowance ≤ 1 then
    ({ m with mode := .barred, allowance := 0, invalidCount := 0, rate := none, forecast := none }, none)
  else
    ({ m with mode := .corrected, allowance := m.allowance - 1, invalidCount := 0 }, some (nearer m.level a b))

/-- Neither count valid (R56): the eighth in a row enters FLOAT. -/
def voteNeither (m : Section) : Section :=
  if Config.floatAfterInvalid ≤ m.invalidCount + 1 then
    { m with mode := .float, invalidCount := Config.floatAfterInvalid, rate := none, forecast := none }
  else { m with invalidCount := m.invalidCount + 1 }

/-- The vote of a sample: the section's new mode, and the sample's level if it yields one. -/
def vote (d : Nat) (x : Sample) (m : Section) : Section × Option Nat :=
  if m.mode = .barred then (m, none)
  else
    match x.levelA, x.levelB with
    | some a, some b => votePair d a b m
    | some a, none => ({ m with mode := .single, invalidCount := 0 }, some a)
    | none, some b => ({ m with mode := .single, invalidCount := 0 }, some b)
    | none, none => (voteNeither m, none)

/-! ### Filter, rate and forecast (R57 to R59) -/

/-- The rounded quotient that the filter adds (R57 steps 1 to 3). -/
def filterStep (w level f : Nat) : Int :=
  let d : Int := ((level : Int) - f) * w
  if 0 < d then (d + 8).tdiv 16 else if d < 0 then (d - 8).tdiv 16 else 0

/-- The filtered level (R57). -/
def filterLevel (w level f : Nat) : Nat := min 9999 ((f : Int) + filterStep w level f).toNat

/-- The rate of a third-kind rate instant (R58). -/
def rateBetween (f f10 : Nat) : Int := max (-9999) (min 9999 (((f : Int) - f10) * 6))

/-- The forecast to T3 (R59). -/
def forecastTo (t3 : Nat) (r : Option Int) (f : Nat) : Option Nat :=
  match r with
  | none => none
  | some r => if 0 < r ∧ f < t3 then some (clampTo 1 9999 (ceilDiv (t3 - f) r.toNat)) else none

/-- A level after the seed: filter, then the rate instant or the count (R57, R58). -/
def followLevel (w level f : Nat) (endsFloat : Bool) (m : Section) : Section :=
  let f' := filterLevel w level f
  match m.level10 with
  | none => { m with level := some f', level10 := some f', rateCount := 0 }
  | some f10 =>
    if endsFloat then { m with level := some f', level10 := some f', rateCount := 0 }
    else if Config.rateCountLast ≤ m.rateCount then
      { m with level := some f', rate := some (rateBetween f' f10), level10 := some f', rateCount := 0 }
    else { m with level := some f', rateCount := m.rateCount + 1 }

/-- A level-producing sample (R57 to R59); the first level seeds F and is no rate instant. -/
def takeLevel (st : Staging) (level : Nat) (endsFloat : Bool) (m : Section) : Section :=
  let m1 :=
    match m.level with
    | none => { m with level := some level }
    | some f => followLevel st.w level f endsFloat m
  { m1 with forecast := m1.level.bind (forecastTo st.t3 m1.rate) }

/-! ### Stage evaluation (R61 to R64, R67) -/

/-- The table of R61 for a level, rate and forecast. -/
def stageBy (st : Staging) (high extreme : Bool) (f : Nat) (r : Option Int) (m : Option Nat) : Nat :=
  if st.t4 ≤ f || extreme then 4
  else if st.t3 ≤ f || high then 3
  else if st.t2 ≤ f || (st.t1 ≤ f && st.rateThreshold != 0 && r.any (fun r => (st.rateThreshold : Int) ≤ r)) ||
      m.any (fun m => m ≤ st.lead) then 2
  else if st.t1 ≤ f then 1
  else 0

/-- The stage that the floats give, or `least` when none is active (R62). -/
def stageByFloats (least : Nat) (m : Section) : Nat :=
  if m.extreme.active then 4 else if m.high.active then 3 else least

/-- s_raw (R61, R62). -/
def stageRaw (st : Staging) (m : Section) : Nat :=
  match m.mode, m.level with
  | .none, _ => stageByFloats 0 m
  | .float, _ | .barred, _ => stageByFloats 2 m
  | _, some f => stageBy st m.high.active m.extreme.active f m.rate m.forecast
  | _, none => stageByFloats 0 m

/-- s_down (R61, R62); not worked out in mode NONE. Its forecast takes the T3 that stands, also before the next level takes a new T3
into M, so that s_down may then lie below s_raw (DESIGN CHOICE, log 60). -/
def stageDown (st : Staging) (m : Section) : Option Nat :=
  match m.mode, m.level with
  | .none, _ => none
  | .float, _ | .barred, _ => some (stageByFloats 2 m)
  | _, some f =>
    some (stageBy st m.high.active m.extreme.active (f + st.h) m.rate (forecastTo st.t3 m.rate (f + st.h)))
  | _, none => none

/-- The conflict condition (R67). -/
def conflictHolds (st : Staging) (m : Section) : Bool :=
  m.high.active && (m.mode == .dual || m.mode == .single) && m.level.any (fun f => f < st.t2)

/-- An evaluation of the stage (R63, R64) and of the conflict condition (R67). -/
def evaluate (now : Nat) (st : Staging) (m : Section) : Section :=
  let m1 := { m with conflict := conflictHolds st m }
  if m.stage < stageRaw st m then { m1 with stage := stageRaw st m, hold := .stopped, candidate := none }
  else
    match stageDown st m with
    | none => { m1 with hold := .stopped, candidate := none }
    | some d =>
      if d < m.stage then { m1 with hold := if m.hold = .stopped then .since now else m.hold, candidate := some d }
      else { m1 with hold := .stopped, candidate := none }

/-- The hold time has run out: the stage becomes the candidate (R64). -/
def stepDown (m : Section) : Section :=
  match m.hold, m.candidate with
  | .since _, some c => { m with stage := c, hold := .stopped, candidate := none }
  | _, _ => m

/-! ### The sample event and the restart (R51, R72) -/

/-- One sample event of a section: the section after it, and whether the sample yielded a level. -/
def sampleSection (now : Nat) (c : SumpCfg) (countA countB : Nat) (m : Section) : Section × Bool :=
  let x := sampleOf c.calibration countA countB
  let v := vote c.calibration.d x { m with last := some x }
  let m1 :=
    match v.2 with
    | some level => takeLevel c.staging level (m.mode == .float) v.1
    | none => v.1
  (evaluate now c.staging m1, v.2.isSome)

/-- Steps 1 to 4 of R72. -/
def restarted (reload : Nat) (m : Section) : Section :=
  { m with
    level := none, rate := none, forecast := none, level10 := none, rateCount := 0, mode := .none, invalidCount := 0
    hold := .stopped, candidate := none, conflict := false, allowance := reload }

/-! ### The hand-on (R65, R66, R68) -/

/-- The underpass stage (R66). -/
def underpassOf (m : PerSump Section) : Nat := max m.c.stage (max m.e.stage m.w.stage)

/-- What a section's change reports: its SUMP entry, the PLANT entry of a new underpass stage, and its latched causes (R66 to R68). -/
def reportSection (e : Env) (u : SumpId) (old new : Section) (underpassChanged : Bool) (p : Plant) : Plant :=
  let p1 := if old.mode = new.mode ∧ old.stage = new.stage then p else report e (.sump u) none p
  let p2 := if underpassChanged then report e .plant none p1 else p1
  let p3 := if new.mode = .barred ∧ old.mode ≠ .barred then raiseCause e .sensorBarred p2 else p2
  if new.conflict ∧ old.conflict = false then raiseCause e .sensorConflict p3 else p3

/-- A section's record is written and its change handed on; a rise stands orders down (R65, R66, R23). -/
def takeSection (u : SumpId) (m : Section) (s : State) : State :=
  let old := s.env.sumps.get u
  let sumps := s.env.sumps.set u m
  let e := { s.env with sumps := sumps, underpass := underpassOf sumps }
  let s1 := { s with env := e, plant := reportSection e u old m (s.env.underpass != e.underpass) s.plant }
  if old.stage < m.stage then standDown s1 else s1

/-- The latches of a sump follow F, if it is primed (R79). -/
def latchSump (u : SumpId) (s : State) : State :=
  match (s.env.sumps.get u).level with
  | some f => { s with plant := evaluateLatches s.env u f s.plant }
  | none => s

/-- A section restart (R72): the section, the lead of the ring, and the evaluation in mode NONE. -/
def restartSump (u : SumpId) (s : State) : State :=
  let c := s.env.cfg.sumps.get u
  let m := restarted c.calibration.reload (s.env.sumps.get u)
  takeSection u (evaluate s.env.clock c.staging m) { s with plant := resetLead u s.plant }

/-- The contact of a float (R60). -/
def contactOf (e : Env) (u : SumpId) : FloatId → Bool
  | .high => (e.pins.floats.get u).high
  | .extreme => (e.pins.floats.get u).extreme

/-- The polarity of a float (R60). -/
def polarityFor (e : Env) (u : SumpId) : FloatId → Polarity
  | .high => (e.cfg.sumps.get u).floats.high
  | .extreme => (e.cfg.sumps.get u).floats.extreme

/-- The float is active as its contact stands (R60). -/
def floatNow (e : Env) (u : SumpId) (f : FloatId) : Bool :=
  match polarityFor e u f with
  | .normallyOpen => contactOf e u f
  | .normallyClosed => !contactOf e u f

/-- A float's record in a section. -/
def Section.float (m : Section) : FloatId → FloatState
  | .high => m.high
  | .extreme => m.extreme

/-- A section with one float's record replaced. -/
def Section.setFloat (m : Section) (f : FloatId) (v : FloatState) : Section :=
  match f with
  | .high => { m with high := v }
  | .extreme => { m with extreme := v }

/-- A float contact's pin set. -/
def setContact (v : FloatPins) (f : FloatId) (closed : Bool) : FloatPins :=
  match f with
  | .high => { v with high := closed }
  | .extreme => { v with extreme := closed }

end Sys2Proof.Machine
end

