-- ==== Sys2Proof/Machine/Due.lean ====
section
/-! DEFINITION. When the timers of the part have run out: for each expiry of the table the condition under which it happens. The
meanings of the expiries and the passing of time (Time.lean) read the same conditions (log 1, log 2). -/

namespace Sys2Proof.Machine

/-! ### Orders and key switches -/

/-- An order's remaining expiry has reached 0 (R3, R22). -/
def orderDue (e : Env) (o : Order) : Bool := o.expiresAt.any (fun t => t ≤ e.clock)

/-- A key switch has been stable for 1 s at the value opposite to its debounced state (R25). -/
def keyDue (e : Env) (k : PortalId) : Bool :=
  (e.keys.get k).stable.ranOut e.clock Config.keyStableTime && e.pins.keys.get k != (e.keys.get k).on

/-! ### Sumps -/

/-- A float has been stable for 2 s at the value opposite to its debounced state (R60). -/
def floatDue (e : Env) (u : SumpId) (f : FloatId) : Bool :=
  ((e.sumps.get u).float f).stable.ranOut e.clock Config.floatStableTime && floatNow e u f != ((e.sumps.get u).float f).active

/-- The hold timer has run for the hold time (R64). -/
def holdDue (e : Env) (u : SumpId) : Bool := (e.sumps.get u).hold.ranOut e.clock (1000 * (e.cfg.sumps.get u).staging.hold)

/-! ### Pumps -/

section Pumps
variable (e : Env) (p : Plant) (i : PumpId)

/-- The confirm timer of a STARTING pump has run out (R87). -/
def confirmDue : Bool :=
  (p.pumps.get i).run == .starting && (p.pumps.get i).confirm.ranOut e.clock (1000 * (e.cfg.pumps.get i).confirmLimit)

/-- A RUNNING pump's feedback has been inactive for 1 s (R87). -/
def lostRunDue : Bool := (p.pumps.get i).run == .running && (p.pumps.get i).lostTimer.ranOut e.clock Config.lostRunTime

/-- A RUNNING pump's dry-run input has been active for 5 s (R89). -/
def dryRunDue : Bool := (p.pumps.get i).run == .running && (p.pumps.get i).dryTimer.ranOut e.clock Config.dryRunTime

/-- The surge window has run out (R86, R110). -/
def surgeDue : Bool := (p.pumps.get i).surge.ranOut e.clock (1000 * (e.cfg.pumps.get i).surgeTime)

/-- The min run has elapsed (R90). -/
def minRunDue : Bool := (p.pumps.get i).minRun.ranOut e.clock (1000 * (e.cfg.pumps.get i).minRun)

/-- A RESTING pump has rested for the time its rest was given (R92, R97). -/
def restDue : Bool := (p.pumps.get i).run == .resting && (p.pumps.get i).minRest.ranOut e.clock (1000 * (p.pumps.get i).restLength)

/-- The oldest entry of the start list is 3600 s old (R94). -/
def startEntryDue : Bool := (p.pumps.get i).starts.head?.any (fun t => Config.startEntryLife ≤ e.clock - t)

end Pumps

/-! ### The Start Arbiter -/

section Arbiter
variable (e : Env) (p : Plant)

/-- The transfer timer has run out in TRANSFER (R98). -/
def transferDue : Bool := p.arb.supply == .transfer && p.arb.transfer.ranOut e.clock (1000 * e.cfg.supply.transferLimit)

/-- The spacing timer has run out (R109). -/
def spacingDue : Bool := p.arb.spacing.ranOut e.clock (1000 * e.cfg.supply.spacing)

/-- A unit waits in the queue outside TRANSFER and is not STARVED yet (R111): one that is STARVED already is not starved again when its
wait reaches a limit raised since (DESIGN CHOICE, log 54). -/
def awaitsStarving (u : UnitId) : Bool := p.queued u && p.arb.supply != .transfer && !starvedFlag p u

/-- A waiting unit's wait timer has reached the wait limit (R111). -/
def waitDue (u : UnitId) : Bool :=
  awaitsStarving p u && p.arb.queue.any (fun r => r.unit == u && r.wait.ranOut e.clock (1000 * e.cfg.supply.waitLimit))

end Arbiter

/-! ### Portals -/

section Portals
variable (e : Env) (p : Plant) (i : PortalId)

/-- The warning time has run in WARNING (R122). -/
def warningDue : Bool :=
  (p.portals.get i).seq == .warning && (p.portals.get i).warn.ranOut e.clock (1000 * (e.cfg.portals.get i).warningTime)

/-- The travel timer of the motor driven has reached its limit. -/
def travelled : Bool :=
  (p.portals.get i).permit && (p.portals.get i).travel.ranOut e.clock (travelLimit (e.cfg.portals.get i) (p.portals.get i))

/-- A driven motion step has reached its travel limit (R120). -/
def travelDue : Bool := (p.portals.get i).seq.motionStep && travelled e p i

/-- A driven hand motion has reached its travel limit (R41). -/
def handTravelDue : Bool := (p.portals.get i).seq == .hand && (p.portals.get i).motion != .none && travelled e p i

/-- The loops have been clear for the clear-confirm time in CLEARING (R124). -/
def clearConfirmDue : Bool :=
  (p.portals.get i).seq == .clearing && (p.portals.get i).confirm.ranOut e.clock (1000 * (e.cfg.portals.get i).clearConfirm)

/-- The clear limit has run in CLEARING, and the portal is not overdue yet (R125). -/
def clearLimitDue : Bool :=
  (p.portals.get i).seq == .clearing && !(p.portals.get i).overdue &&
    (p.portals.get i).limit.ranOut e.clock (1000 * (e.cfg.portals.get i).clearLimit)

/-- The retry delay has run out in SEALING (R127). -/
def retryDue : Bool :=
  (p.portals.get i).seq == .sealing && (p.portals.get i).retry.ranOut e.clock (1000 * (e.cfg.portals.get i).retryDelay)

end Portals

/-! ### Lighting and reporting -/

/-- 60 s without a valid sample on a side that is not lost yet (R143). -/
def lossDue (e : Env) (d : Side) : Bool := !(e.windows.get d).lost && (e.windows.get d).loss.ranOut e.clock Config.luminanceLossTime

/-- The ramp rate of a zone in its present direction (R152). -/
def rampRate (e : Env) (z : ZoneId) (q : Zone) : Nat :=
  if q.ramp = .up then (e.cfg.zones.get z).rampUp else (e.cfg.zones.get z).rampDown

/-- The next step's interval has run out: n + 1 intervals of 1 / rate seconds have passed since the step timer started, n steps ago
(R152). The instant of each step is so counted from the start, and no fraction of a millisecond is lost from step to step. -/
def rampDue (e : Env) (p : Plant) (z : ZoneId) : Bool :=
  let q := p.zones.get z
  q.ramp != .none && q.step.counting && decide (1000 * (q.steps + 1) ≤ q.step.elapsed e.clock * rampRate e z q)

/-- A link's moderation timer has reached the moderation time (R181). -/
def moderationDue (e : Env) (p : Plant) (l : Link) : Bool :=
  match (p.attn.sets.get l).timer with
  | .since start => decide (1000 * (e.cfg.reporting.get l).moderation ≤ e.clock - start)
  | _ => false

end Sys2Proof.Machine
end

