-- ==== Sys2Proof/Machine/Operands.lean ====
section
/-! DEFINITION. The fields of request bodies and reply payloads as bytes (R170 to R173), and the frame with its CRC (R160, R171). -/

namespace Sys2Proof.Machine

/-! ### Reading fields -/

/-- Two bytes, high byte first, as a quantity (R170). -/
def word (hi lo : Byte) : Nat := hi.toNat * 256 + lo.toNat

/-- Two bytes, high byte first, as a set (R170). -/
def word16 (hi lo : Byte) : Word16 := hi ++ lo

/-- A quantity that 00h marks absent (R170: the range starts at 1). -/
def absentZero (n : Nat) : Option Nat := if n = 0 then none else some n

/-- A one-byte quantity that FFh marks absent (R170: the range starts at 0). -/
def absentOnes (b : Byte) : Option Nat := if b = 0xFF then none else some b.toNat

def unitOf (b : Byte) : Option UnitId := UnitId.ofNumber b.toNat

/-- C 1, E 2, W 3 (R170). -/
def sumpOf (b : Byte) : Option SumpId :=
  match b.toNat with
  | 1 => some .c
  | 2 => some .e
  | 3 => some .w
  | _ => none

/-- FIELD 1, PANEL 2, KEY 3 (R172). -/
def issuerOf (b : Byte) : Option Issuer :=
  match b.toNat with
  | 1 => some .field
  | 2 => some .panel
  | 3 => some .key
  | _ => none

/-- LOCKOUT 1, OVERRIDE 2, STANDING 3 (R172). -/
def rankOf (b : Byte) : Option Rank :=
  match b.toNat with
  | 1 => some .lockout
  | 2 => some .overriding
  | 3 => some .standing
  | _ => none

/-- RUN 1 .. LOCK 8 (R172). -/
def verbOf (b : Byte) : Option Verb :=
  match b.toNat with
  | 1 => some .run
  | 2 => some .stop
  | 3 => some .open
  | 4 => some .close
  | 5 => some .hold
  | 6 => some .level
  | 7 => some .limit
  | 8 => some .lock
  | _ => none

/-- IN_SERVICE 1, IN_HAND 2, OUT_OF_SERVICE 3 (R172). -/
def serviceCode (b : Byte) : Option Service :=
  match b.toNat with
  | 1 => some .inService
  | 2 => some .inHand
  | 3 => some .outOfService
  | _ => none

/-- A set of ranks: LOCKOUT bit 0, OVERRIDE bit 1, STANDING bit 2, other bits zero (R173). -/
def rankSetOf (b : Byte) : Option RankSet :=
  if b.toNat < 8 then some ⟨b.getLsbD 0, b.getLsbD 1, b.getLsbD 2⟩ else none

/-- THRESHOLD 1, TRANSITION 2, INTERIOR 3, EGRESS 4 (R170, 7.8). -/
def roleOf (b : Byte) : Option Role :=
  match b.toNat with
  | 1 => some .threshold
  | 2 => some .transition
  | 3 => some .interior
  | 4 => some .egress
  | _ => none

/-- EAST 1, WEST 2 (R170, 7.8). -/
def sideOf (b : Byte) : Option Side :=
  match b.toNat with
  | 1 => some .east
  | 2 => some .west
  | _ => none

/-- NORMALLY_OPEN 1, NORMALLY_CLOSED 2 (R170, 3.11). -/
def polarityOf (b : Byte) : Option Polarity :=
  match b.toNat with
  | 1 => some .normallyOpen
  | 2 => some .normallyClosed
  | _ => none

/-- DARK 1, AMBER_FLASH 2, RED 3 (R173). -/
def aspectOf (b : Byte) : Option Aspect :=
  match b.toNat with
  | 1 => some .dark
  | 2 => some .amberFlash
  | 3 => some .red
  | _ => none

/-- The field bit rate code (R168). -/
def rateOf (b : Byte) : Option BitRate :=
  match b.toNat with
  | 1 => some .b9600
  | 2 => some .b19200
  | 3 => some .b38400
  | _ => none

/-- A pump id. -/
def pumpOf (b : Byte) : Option PumpId :=
  match unitOf b with
  | some (.pump i) => some i
  | _ => none

/-! ### Writing fields -/

/-- One byte (R170). -/
def byte1 (n : Nat) : List Byte := [BitVec.ofNat 8 n]

/-- Two bytes, high byte first (R170). -/
def byte2 (n : Nat) : List Byte := [BitVec.ofNat 8 (n / 256), BitVec.ofNat 8 n]

/-- A set of causes, two bytes, high byte first (R170). -/
def bytesOfWord (w : Word16) : List Byte := [w.extractLsb' 8 8, w.extractLsb' 0 8]

/-- A flag: 00h clear or no, 01h set or yes (R170). -/
def byteFlag (b : Bool) : List Byte := [if b then 1 else 0]

/-- A one-byte quantity whose range starts at 0, FFh when absent (R170). -/
def byteOnes (n : Option Nat) : List Byte := byte1 (n.getD 255)

/-- A two-byte quantity whose range starts at 0, FFFFh when absent (R170). -/
def byte2Ones (n : Option Nat) : List Byte := byte2 (n.getD 65535)

/-- A two-byte quantity whose range starts at 1, 0000h when absent (R170). -/
def byte2Zero (n : Option Nat) : List Byte := byte2 (n.getD 0)

/-- A rate: two's complement, high byte first, 8000h when absent (R170). -/
def byteRate (r : Option Int) : List Byte :=
  bytesOfWord
    (match r with
     | none => 0x8000
     | some r => BitVec.ofInt 16 r)

/-- A list: its count, then the items (R170). -/
def byteList (l : List (List Byte)) : List Byte := byte1 l.length ++ l.flatten

/-- A named value that may be none: 00h for none (R170, log 11). -/
def byteName {α : Type} (code : α → Nat) (v : Option α) : List Byte := byte1 ((v.map code).getD 0)

def Issuer.code : Issuer → Nat
  | .field => 1 | .panel => 2 | .key => 3

def Rank.code : Rank → Nat
  | .lockout => 1 | .overriding => 2 | .standing => 3

def Verb.code : Verb → Nat
  | .run => 1 | .stop => 2 | .open => 3 | .close => 4 | .hold => 5 | .level => 6 | .limit => 7 | .lock => 8

def Governance.code : Governance → Nat
  | .governing => 1 | .outranked => 2 | .dormant => 3

def Service.code : Service → Nat
  | .inService => 1 | .inHand => 2 | .outOfService => 3

def Source.code : Source → Nat
  | .lock => 1 | .hand => 2 | .order => 3 | .automatic => 4 | .off => 5

def sumpCode : SumpId → Nat
  | .c => 1 | .e => 2 | .w => 3

/-- PUMP 1, PORTAL 2, ZONE 3, OUTFALL 4 (R172). -/
def kindCode : UnitId → Nat
  | .pump _ => 1 | .portal _ => 2 | .zone _ => 3 | .outfall => 4

/-- In the order of R85's table. -/
def RunState.code : RunState → Nat
  | .stopped => 1 | .queued => 2 | .starting => 3 | .running => 4 | .resting => 5 | .faulted => 6

/-- In the order of R46. -/
def FaultKind.code : FaultKind → Nat
  | .thermal => 1 | .noStart => 2 | .lostRun => 3

/-- In the order of R115's list. -/
def Seq.code : Seq → Nat
  | .open => 1 | .warning => 2 | .barring => 3 | .clearing => 4 | .sealing => 5 | .sealed => 6 | .unsealing => 7
  | .lifting => 8 | .held => 9 | .jammed => 10 | .unsettled => 11 | .out => 12 | .hand => 13

def JamCause.code : JamCause → Nat
  | .edge => 1 | .travel => 2

def Aspect.code : Aspect → Nat
  | .dark => 1 | .amberFlash => 2 | .red => 3

/-- In the order of R41; none is 00h (log 11). -/
def HandMotion.code : HandMotion → Nat
  | .none => 0 | .gateOpening => 1 | .gateClosing => 2 | .barrierRising => 3 | .barrierLowering => 4

/-- In the order of R41. -/
def HandResult.code : HandResult → Nat
  | .limit => 1 | .travel => 2 | .edge => 3 | .guarding => 4 | .stop => 5

/-- UP 1, DOWN 2; none is 00h (R141, log 11). -/
def Ramp.code : Ramp → Nat
  | .none => 0 | .up => 1 | .down => 2

/-- In the order of R50. -/
def Mode.code : Mode → Nat
  | .none => 1 | .dual => 2 | .corrected => 3 | .single => 4 | .float => 5 | .barred => 6

/-- In the order of R98. -/
def Supply.code : Supply → Nat
  | .grid => 1 | .standby => 2 | .transfer => 3 | .dark => 4

/-- In the order of R21's reasons; none is 00h (log 11). -/
def Reason.code : Reason → Nat
  | .withdrawn => 1 | .expired => 2 | .replaced => 3 | .stoodDown => 4

/-- bit/s (R168). -/
def BitRate.bitsPerSecond : BitRate → Nat
  | .b9600 => 9600 | .b19200 => 19200 | .b38400 => 38400

/-- Outcome codes (R171). -/
def Code.byte : Code → Byte
  | .done => 0x00 | .accepted => 0x01 | .unknownKind => 0x10 | .badLength => 0x11 | .badField => 0x12
  | .noSuchUnit => 0x20 | .noSuchOrder => 0x21 | .verbMismatch => 0x22 | .noAuthority => 0x30 | .notOwner => 0x31
  | .stale => 0x32 | .stageHigh => 0x40 | .unitDormant => 0x41 | .tableFull => 0x42 | .unitLocked => 0x50
  | .wrongState => 0x51 | .busy => 0x52 | .storeFault => 0x60

/-! ### The CRC and the frame (R160, R171) -/

/-- One bit shifted into the CRC register: polynomial 1021h, most significant bit first (R160). -/
def crcBit (crc : Word16) (b : Bool) : Word16 :=
  if crc.msb != b then (crc <<< 1) ^^^ 0x1021#16 else crc <<< 1

/-- One byte shifted in, most significant bit first (R160). -/
def crcByte (crc : Word16) (b : Byte) : Word16 :=
  [7, 6, 5, 4, 3, 2, 1, 0].foldl (fun c k => crcBit c (b.getLsbD k)) crc

/-- The CRC-16 of a run of bytes, starting value FFFFh (R160). -/
def crc16 (l : List Byte) : Word16 := l.foldl crcByte 0xFFFF

/-- The bytes that the check covers: station, kind, tag, length and body (R160). -/
def checkedBytes (station kind tag : Byte) (body : List Byte) : List Byte :=
  station :: kind :: tag :: BitVec.ofNat 8 body.length :: body

/-- A frame (R171). -/
def frameOf (station kind tag : Byte) (body : List Byte) : List Byte :=
  Config.leadByte :: (checkedBytes station kind tag body ++ bytesOfWord (crc16 (checkedBytes station kind tag body)))

/-- The three checks of R160 on a complete frame: check bytes, station, direction. Worked over the station byte to the second
check byte of a sound frame, the CRC gives 0000h. -/
def frameSound (station : Byte) (frame : List Byte) : Bool :=
  match frame with
  | lead :: st :: kind :: rest =>
    lead == Config.leadByte && crc16 (st :: kind :: rest) == 0 && st == station && decide (kind < 0x80)
  | _ => false

/-! ### Ordered checks (0.7: the first check that fails decides the outcome) -/

/-- The outcome of the first check that fails, if one does. -/
def firstFailure : List (Bool × Code) → Option Code
  | [] => none
  | (ok, c) :: rest => if ok then firstFailure rest else some c

end Sys2Proof.Machine
end

