-- ==== Sys2Proof/Machine/Links.lean ====
section
/-! DEFINITION. The two link ports (chapter 8): taking a request, the reply slot, OVERRUN, the field bit rate in use. -/

namespace Sys2Proof.Machine

/-- The station byte that addresses the part on a link (R158). -/
def stationByte (s : State) : Link → Byte
  | .field => s.links.address
  | .panel => 0

/-- The issuer of orders placed through a link (R12, R162). -/
def issuerOfLink : Link → Issuer
  | .field => .field
  | .panel => .panel

/-- A port's record replaced. -/
def putPort (l : Link) (q : Port) (s : State) : State :=
  { s with links := { s.links with ports := s.links.ports.set l q } }

/-- A port. -/
def State.port (s : State) (l : Link) : Port := s.links.ports.get l

/-- The field port takes up the rate of the configuration when its receiver is HUNTING and its slot EMPTY (R168). -/
def takeUpRate (s : State) : State :=
  let q := s.port .field
  if q.rx = .hunting ∧ q.slot = .empty then { s with links := { s.links with rateInUse := s.env.cfg.fieldRate } } else s

/-- What the owner of a request answers: the outcome, the payload, and, where the reply waits for a lockout write, the numbers that it
carries if the write fails (R28, R163, R166). -/
structure Answer where
  code : Code
  payload : List Byte
  deferred : Option (List Byte)
  deriving DecidableEq, Repr

/-- A reply that waits for nothing. -/
def Answer.now (c : Code) (payload : List Byte) : Answer := ⟨c, payload, none⟩

/-- DONE with a payload. -/
def Answer.done (payload : List Byte) : Answer := .now .done payload

/-- A refusal: an empty payload (R163). -/
def Answer.refuse (c : Code) : Answer := .now c []

/-- The slot after a request has been answered (R161, R166). -/
def slotFor (kind tag : Byte) (a : Answer) : Slot :=
  match a.deferred with
  | some numbers => .deferred ⟨kind, tag, a.code, a.payload⟩ numbers
  | none => .waiting ⟨kind, tag, a.code, a.payload⟩

/-- A sound request completes on a link (R161): an EMPTY slot takes it, and its owner handles it in the same event; a pending
reply discards it and sets OVERRUN; a port that is sending does not see it. The receiver returns to HUNTING (R159). -/
def takeRequest (l : Link) (kind tag : Byte) (handle : State → State × Answer) (s : State) : State :=
  match (s.port l).slot with
  | .empty =>
    let r := handle s
    putPort l { r.1.port l with rx := .hunting, slot := slotFor kind tag r.2 } r.1
  | .waiting _ | .deferred _ _ => putPort l { s.port l with rx := .hunting, overrun := true } s
  | .sending _ => s

/-- A request whose checks come first, in order (0.7); a refused request changes nothing. -/
def guarded (checks : List (Bool × Code)) (act : State → State × Answer) (s : State) : State × Answer :=
  match firstFailure checks with
  | some c => (s, .refuse c)
  | none => act s

/-- The Configuration Store is not SAVING (R187). -/
def notSaving (s : State) : Bool := s.store.state != .saving

/-- The link status byte as it stands (R165, R171). -/
def linkStatus (s : State) (l : Link) : Byte :=
  let c := s.plant.attn.sets.get l
  statusByte (c.attention (s.env.cfg.reporting.get l)) (s.port l).overrun c.overfull

/-- The frame of a reply (R163, R171). -/
def replyFrame (s : State) (l : Link) (r : Reply) : List Byte :=
  frameOf (stationByte s l) (r.kind + 0x80) r.tag (r.code.byte :: linkStatus s l :: r.payload)

end Sys2Proof.Machine
end

