-- ==== Sys2Proof/Machine/Alerts.lean ====
section
/-! DEFINITION. The alert requests (R176 to R178), the requests on changed sets (R182, R183) and the moderation timer (R181). -/

namespace Sys2Proof.Machine

/-! ### Alerts (R176 to R178) -/

/-- The number of a cause (R174). -/
def Cause.number (c : Cause) : Nat := c.index.val + 1

/-- Condition 1, latched 2 (the order of R174, log 11). -/
def Cause.typeCode (c : Cause) : Nat := if c.latched then 2 else 1

/-- An item of READ ALERTS: number, type, mask flag, raise count. -/
def causeBytes (masks : Word16) (a : Attention) (c : Cause) : List Byte :=
  byte1 c.number ++ byte1 c.typeCode ++ byteFlag (c.isIn masks) ++ byte1 (a.count c)

/-- The READ ALERTS payload (R178): the relay's state, then the list of present causes in priority order. -/
def alertBytes (masks : Word16) (a : Attention) : List Byte :=
  byteFlag a.relayOn ++ byteList ((Cause.every.filter (fun c => c.isIn a.present)).map (causeBytes masks a))

/-- READ ALERTS: no body. -/
def handleReadAlerts (body : List Byte) (s : State) : State × Answer :=
  match body with
  | [] => (s, .done (alertBytes s.env.cfg.masks s.plant.attn))
  | _ => (s, .refuse .badLength)

/-- READ ALERTS (R178). -/
def execReadAlerts (l : Link) (tag : Byte) (body : List Byte) (s : State) : Host.Outcome State Fault Refusal :=
  .next (takeRequest l 0x28 tag (handleReadAlerts body) s)

/-- The latched causes that an acknowledgement clears: named and present (R178). -/
def acknowledged (named : Word16) (a : Attention) : List Cause :=
  Cause.every.filter (fun c => c.latched && c.isIn named && c.isIn a.present)

/-- The ACK ALERTS payload: the causes acknowledged, their counts in priority order, the present set afterwards. -/
def ackBytes (named : Word16) (before after : Attention) : List Byte :=
  bytesOfWord (causeSet (acknowledged named before)) ++ ((acknowledged named before).map (fun c => byte1 (before.count c))).flatten ++
    bytesOfWord after.present

/-- ACK ALERTS: a set of causes (R178). -/
def handleAckAlerts (body : List Byte) (s : State) : State × Answer :=
  match body with
  | [hi, lo] =>
    let a := s.plant.attn.acknowledge s.env.clock s.env.cfg.masks (word16 hi lo)
    ({ s with plant := { s.plant with attn := a } }, .done (ackBytes (word16 hi lo) s.plant.attn a))
  | _ => (s, .refuse .badLength)

/-- ACK ALERTS (R178). -/
def execAckAlerts (l : Link) (tag : Byte) (body : List Byte) (s : State) : Host.Outcome State Fault Refusal :=
  .next (takeRequest l 0x29 tag (handleAckAlerts body) s)

/-- New masks; the relay is set again (R176, R177). -/
def takeMasks (m : Word16) (s : State) : State :=
  { s with
    env := { s.env with cfg := { s.env.cfg with masks := m } }
    plant := { s.plant with attn := s.plant.attn.setRelay m } }

/-- SET ALERT MASKS: a set of causes (R176). -/
def handleSetAlertMasks (body : List Byte) (s : State) : State × Answer :=
  match body with
  | [hi, lo] => guarded [(notSaving s, .busy)] (fun s => (takeMasks (word16 hi lo) s, .done [])) s
  | _ => (s, .refuse .badLength)

/-- SET ALERT MASKS (R176). -/
def execSetAlertMasks (l : Link) (tag : Byte) (body : List Byte) (s : State) : Host.Outcome State Fault Refusal :=
  .next (takeRequest l 0x2A tag (handleSetAlertMasks body) s)

/-! ### Changed sets (R182, R183) -/

/-- What an entry names: UNIT 1, SUMP 2, PLANT 3, ORDER 4, with the name; an ORDER entry carries its removal reason. -/
def entryBytes (x : Entry) : List Byte :=
  match x.key with
  | .unit u => byte1 1 ++ byte1 u.number
  | .sump u => byte1 2 ++ byte1 (sumpCode u)
  | .plant => byte1 3
  | .order n => byte1 4 ++ byte2 n ++ byteName Reason.code x.reason

/-- A link's changed set replaced. -/
def putSet (l : Link) (c : ChangedSet) (s : State) : State :=
  { s with plant := { s.plant with attn := { s.plant.attn with sets := s.plant.attn.sets.set l c } } }

/-- A link's changed set. -/
def State.changes (s : State) (l : Link) : ChangedSet := s.plant.attn.sets.get l

/-- The READ CHANGES payload: OVERFULL, count, number returned, entries (R182). -/
def changesBytes (c : ChangedSet) : List Byte :=
  let taken := c.entries.take Config.changesPerRead
  byteFlag c.overfull ++ byte1 c.entries.length ++ byte1 taken.length ++ (taken.map entryBytes).flatten

/-- The set after READ CHANGES: OVERFULL clear; in CLEAR_ON_READ mode the returned entries removed (R182). -/
def ChangedSet.afterRead (clearOnRead : Bool) (c : ChangedSet) : ChangedSet :=
  let c1 := { c with overfull := false }
  if clearOnRead then c1.dropOldest Config.changesPerRead else c1

/-- READ CHANGES: no body (R182). -/
def handleReadChanges (l : Link) (body : List Byte) (s : State) : State × Answer :=
  match body with
  | [] =>
    (putSet l ((s.changes l).afterRead (s.env.cfg.reporting.get l).clearOnRead) s, .done (changesBytes (s.changes l)))
  | _ => (s, .refuse .badLength)

/-- READ CHANGES (R182). -/
def execReadChanges (l : Link) (tag : Byte) (body : List Byte) (s : State) : Host.Outcome State Fault Refusal :=
  .next (takeRequest l 0x2B tag (handleReadChanges l body) s)

/-- CLEAR CHANGES: count (R183). -/
def handleClearChanges (l : Link) (body : List Byte) (s : State) : State × Answer :=
  match body with
  | [n] =>
    if Config.changedSetLimit < n.toNat then (s, .refuse .badField)
    else
      let c := (s.changes l).dropOldest n.toNat
      (putSet l c s, .done (byte1 c.entries.length))
  | _ => (s, .refuse .badLength)

/-- CLEAR CHANGES (R183). -/
def execClearChanges (l : Link) (tag : Byte) (body : List Byte) (s : State) : Host.Outcome State Fault Refusal :=
  .next (takeRequest l 0x2C tag (handleClearChanges l body) s)

/-- Reporting settings of a body: threshold 1 .. 64, moderation time 1 .. 60, CLEAR_ON_READ 1 or KEEP 2. -/
def readReporting (t m mode : Byte) : Option Reporting :=
  if 1 ≤ t.toNat ∧ t.toNat ≤ 64 ∧ 1 ≤ m.toNat ∧ m.toNat ≤ 60 ∧ 1 ≤ mode.toNat ∧ mode.toNat ≤ 2 then
    some { threshold := t.toNat, moderation := m.toNat, clearOnRead := mode.toNat == 1 }
  else none

/-- A running moderation timer keeps its elapsed time and runs out if it has reached the moderation time (R183). -/
def ModTimer.recheck (now limit : Nat) : ModTimer → ModTimer
  | .since start => if limit ≤ now - start then .ranOut else .since start
  | t => t

/-- New reporting settings of a link (R183). -/
def takeReporting (l : Link) (r : Reporting) (s : State) : State :=
  let s1 := { s with env := { s.env with cfg := { s.env.cfg with reporting := s.env.cfg.reporting.set l r } } }
  let c := s.changes l
  putSet l { c with timer := c.timer.recheck s.env.clock (1000 * r.moderation) } s1

/-- SET REPORTING: threshold, moderation time, read mode (R183). -/
def handleSetReporting (l : Link) (body : List Byte) (s : State) : State × Answer :=
  match body with
  | [t, m, mode] =>
    let r := readReporting t m mode
    guarded [(notSaving s, .busy), (r.isSome, .badField)]
      (fun s =>
        match r with
        | some r => (takeReporting l r s, .done [])
        | none => (s, .refuse .badField)) s
  | _ => (s, .refuse .badLength)

/-- SET REPORTING (R183). -/
def execSetReporting (l : Link) (tag : Byte) (body : List Byte) (s : State) : Host.Outcome State Fault Refusal :=
  .next (takeRequest l 0x2D tag (handleSetReporting l body) s)

/-- MODERATION_EXPIRY: the moderation time has passed (R181). -/
def execModerationExpiry (l : Link) (s : State) : Host.Outcome State Fault Refusal :=
  .next (if moderationDue s.env s.plant l then putSet l { s.changes l with timer := .ranOut } s else s)

end Sys2Proof.Machine
end

