-- ==== Sys2Proof/Machine/LightingEvents.lean ====
section
/-! DEFINITION. The meanings of the lighting events (R142, R143, R149, R150, R152). -/

namespace Sys2Proof.Machine

/-- One side's window replaced. -/
def putWindow (d : Side) (w : Window) (s : State) : State :=
  { s with env := { s.env with windows := s.env.windows.set d w } }

/-- LUMINANCE_SAMPLE: a valid count joins the window and the side is graded again; an invalid one changes nothing (R142). -/
def execLuminanceSample (d : Side) (count : Nat) (s : State) : Host.Outcome State Fault Refusal :=
  if luminanceValid count then
    .next (settle (putWindow d
      ((s.env.windows.get d).join s.env.clock (luminanceOf (s.env.cfg.luminanceScale.get d) count)) s))
  else .next s

/-- LUMINANCE_LOSS: 60 s have passed without a valid sample (R143). -/
def execLuminanceLoss (d : Side) (s : State) : Host.Outcome State Fault Refusal :=
  if lossDue s.env d then .next (settle (putWindow d (s.env.windows.get d).lose s)) else .next s

/-- DEFICIT_MEASUREMENT (R149 to R151). -/
def execDeficitMeasurement (z : ZoneId) (count : Nat) (s : State) : Host.Outcome State Fault Refusal :=
  .next { s with plant := measureDeficit s.env z count s.plant }

/-- RAMP_STEP: the step timer has run out (R152). -/
def execRampStep (z : ZoneId) (s : State) : Host.Outcome State Fault Refusal :=
  .next (if rampDue s.env s.plant z then { s with plant := stepRamp s.env z s.plant } else s)

end Sys2Proof.Machine
end

