-- ==== Sys2Proof/WellFormed.lean ====
section
/-! DEFINITION. Which terms of `Instr` stand for something that can happen outside the part. `exec` answers a next state
for every term; an ill-formed one is no event of the plant or of a station. -/

namespace Sys2Proof

/-- The request kinds that R171 lists. -/
def listedKinds : List Byte :=
  [0x01, 0x02, 0x03, 0x04, 0x05, 0x06, 0x10, 0x11, 0x12, 0x13, 0x14, 0x18, 0x19, 0x1A, 0x1B,
   0x20, 0x21, 0x22, 0x23, 0x28, 0x29, 0x2A, 0x2B, 0x2C, 0x2D, 0x30, 0x31]

/-- A body fits a frame: at most 200 bytes (R171). -/
def bodyFits (body : List Byte) : Bool := body.length ≤ Config.bodyLimit

/-- A kind that reaches R162's check and fails it: below 80h (R160) and not listed (R171). -/
def kindUnlisted (kind : Byte) : Bool := kind < 0x80 && !listedKinds.contains kind

/-- A complete frame has the shape of R171: lead byte, a length byte n of at most 200, and n + 7 bytes in all. -/
def frameComplete (frame : List Byte) : Bool :=
  frame.head? == some Config.leadByte &&
    match frame[4]? with
    | some n => n.toNat ≤ Config.bodyLimit && frame.length == n.toNat + 7
    | none => false

/-- A reading of the 12-bit converter (0.7, 0.8). -/
def countFits (count : Nat) : Bool := count ≤ 4095

/-- The term stands for an event that can reach the part. -/
def Instr.wellFormed : Instr → Bool
  | .place _ _ b | .amend _ _ b | .withdraw _ _ b | .lookupOrder _ _ b | .listOrders _ _ b | .setAuthority _ _ b
  | .readUnit _ _ b | .setService _ _ b | .handDrive _ _ b | .setUnitConfig _ _ b | .resetFault _ _ b
  | .readSump _ _ b | .setSumpConfig _ _ b | .restartSection _ _ b | .setRingOrder _ _ b | .readPlant _ _ b
  | .setSupplyConfig _ _ b | .setLuminanceConfig _ _ b | .setLinkConfig _ _ b | .readAlerts _ _ b | .ackAlerts _ _ b
  | .setAlertMasks _ _ b | .readChanges _ _ b | .clearChanges _ _ b | .setReporting _ _ b | .saveConfig _ _ b
  | .restartController _ _ b => bodyFits b
  | .unknownKind _ kind _ b => kindUnlisted kind && bodyFits b
  | .frameDiscarded _ frame => frameComplete frame
  | .orderExpiry n => 1 ≤ n && n ≤ 65535
  | .sumpSample _ a b => countFits a && countFits b
  | .luminanceSample _ c => countFits c
  | .deficitMeasurement _ c => countFits c
  | .waitLimitReached u =>
    match u with
    | .pump _ | .portal _ => true
    | .zone _ | .outfall => false
  | .faultyFrameByte l why => !(l == .panel && why == .parity)
  | .frameAbandoned _ _ | .replyStart _ | .replyEnd _ _ | .lockoutWriteEnd _ | .saveEnd _ | .startUp _ _ _
  | .keySwitchChange _ _ | .keyDebounceExpiry _ | .floatInputChange _ _ _ | .floatDebounceExpiry _ _
  | .stageHoldExpiry _ | .dryRunInputChange _ _ | .dryRunStop _ | .runningFeedbackChange _ _ | .noStart _
  | .lostRun _ | .thermalTrip _ _ | .surgeEnd _ | .minRunExpiry _ | .restEnd _ | .startListEntryExpiry _
  | .supplyInputChange _ _ | .transferTimeout | .spacingExpiry | .warningExpiry _ | .limitSwitchChange _ _ _
  | .travelTimerExpiry _ | .handTravelExpiry _ | .occupancyLoopChange _ _ | .clearConfirmExpiry _
  | .clearLimitExpiry _ | .safetyEdgeChange _ _ | .retryDelayExpiry _ | .luminanceLoss _ | .rampStep _
  | .moderationExpiry _ => true

end Sys2Proof
end

