-- ==== Sys2Proof/Machine/Line.lean ====
section
/-! DEFINITION. The lines of the two links: the characters (R157), what the part drives onto its line while it sends, and the receiver,
byte by byte (R159), up to the command that a frame or its end stands for (R160 to R162, R171). -/

namespace Sys2Proof.Machine

/-! ### Characters (R157) -/

/-- The even parity bit of a byte: with it the number of ones is even. -/
def parityOf (data : List Bool) : Bool := data.foldl xor false

/-- The 8 data bits of a byte, least significant first. -/
def dataBits (b : Byte) : List Bool := [0, 1, 2, 3, 4, 5, 6, 7].map b.getLsbD

/-- The byte of 8 data bits, least significant first. -/
def byteOfBits (data : List Bool) : Byte := BitVec.ofNat 8 (data.foldr (fun bit n => bit.toNat + 2 * n) 0)

/-- The bits that follow the data bits: even parity and stop on the field link, stop alone on the panel link. -/
def charTail (l : Link) (data : List Bool) : List Bool :=
  match l with
  | .field => [parityOf data, true]
  | .panel => [true]

/-- A character on a line, in the order sent: start bit, data bits, tail. -/
def charBits (l : Link) (b : Byte) : List Bool := false :: (dataBits b ++ charTail l (dataBits b))

/-- The bit rate in use on a line: the panel link's is fixed. -/
def lineRate (s : State) : Link → BitRate
  | .field => s.links.rateInUse
  | .panel => .b19200

/-- The part drives a line only while it sends a reply. -/
def lineDriven (s : State) (l : Link) : Bool :=
  match (s.port l).slot with
  | .sending _ => true
  | _ => false

/-- What the part drives onto a line, bit by bit, the characters back to back. -/
def lineBits (s : State) (l : Link) : List Bool :=
  match (s.port l).slot with
  | .sending frame => frame.flatMap (charBits l)
  | _ => []

/-- What a receiver makes of a character. -/
inductive CharRead where
  | byte (b : Byte)
  | faulty (why : ByteFault)
  deriving DecidableEq, Repr

/-- A character is read: a start bit, the data bits and the stop bit in their places, or else a framing error; and on the field link the
parity even, or else a parity error. -/
def readChar (l : Link) (bits : List Bool) : CharRead :=
  let data := (bits.drop 1).take 8
  if bits.head? != some false || bits.length != (charBits l 0).length || bits.getLast? != some true then .faulty .framing
  else if bits.drop 9 = charTail l data then .byte (byteOfBits data)
  else .faulty .parity

/-! ### The receiver (R159) -/

/-- The receiver is ASSEMBLING. -/
def Receiver.busy : Receiver → Bool
  | .assembling _ _ => true
  | _ => false

/-- The receiver is ASSEMBLING and more than 10 ms of quiet line have passed since the end of the latest byte. -/
def Receiver.gapRan : Receiver → Bool
  | .assembling _ quiet => decide (Config.frameGap < quiet)
  | _ => false

/-- One ms of quiet line. -/
def Receiver.quieter : Receiver → Receiver
  | .assembling bytes quiet => .assembling bytes (quiet + 1)
  | rx => rx

/-- A byte is taken in HUNTING: a lead byte starts a frame, any other is ignored. -/
def takenInHunting (b : Byte) : Receiver := if b = Config.leadByte then .assembling [b] 0 else .hunting

/-- What a sound byte does to a receiver. -/
inductive Heard where
  /-- the receiver goes on -/
  | on (rx : Receiver)
  /-- the byte is a length byte above 200 -/
  | tooLong
  /-- the byte is the second check byte of this frame -/
  | complete (frame : List Byte)
  deriving DecidableEq, Repr

/-- A byte is received: HUNTING waits for 5Ah; ASSEMBLING collects station, kind, tag, length, body and check bytes. -/
def Receiver.hear (b : Byte) : Receiver → Heard
  | .off => .on .off
  | .hunting => .on (takenInHunting b)
  | .assembling bytes _ =>
    let frame := bytes ++ [b]
    if frame.length = 5 ∧ Config.bodyLimit < b.toNat then .tooLong
    else if frameComplete frame then .complete frame
    else .on (.assembling frame 0)

/-- A run of bytes that follow each other without a fault and without a long gap: the receiver after them, and the last frame completed
by them, if any. A length byte above 200 returns the receiver to HUNTING. -/
def hearAll (rx : Receiver) (bytes : List Byte) : Receiver × Option (List Byte) :=
  bytes.foldl
    (fun a b =>
      match a.1.hear b with
      | .on rx => (rx, a.2)
      | .tooLong => (.hunting, a.2)
      | .complete frame => (.hunting, some frame))
    (rx, none)

/-! ### The command of a complete frame (R160 to R162, R171) -/

/-- The request of a kind; a kind that R171 does not list is an unknown one. -/
def requestCommand (l : Link) (kind tag : Byte) (body : List Byte) : Instr :=
  match kind.toNat with
  | 0x01 => .place l tag body
  | 0x02 => .amend l tag body
  | 0x03 => .withdraw l tag body
  | 0x04 => .lookupOrder l tag body
  | 0x05 => .listOrders l tag body
  | 0x06 => .setAuthority l tag body
  | 0x10 => .readUnit l tag body
  | 0x11 => .setService l tag body
  | 0x12 => .handDrive l tag body
  | 0x13 => .setUnitConfig l tag body
  | 0x14 => .resetFault l tag body
  | 0x18 => .readSump l tag body
  | 0x19 => .setSumpConfig l tag body
  | 0x1A => .restartSection l tag body
  | 0x1B => .setRingOrder l tag body
  | 0x20 => .readPlant l tag body
  | 0x21 => .setSupplyConfig l tag body
  | 0x22 => .setLuminanceConfig l tag body
  | 0x23 => .setLinkConfig l tag body
  | 0x28 => .readAlerts l tag body
  | 0x29 => .ackAlerts l tag body
  | 0x2A => .setAlertMasks l tag body
  | 0x2B => .readChanges l tag body
  | 0x2C => .clearChanges l tag body
  | 0x2D => .setReporting l tag body
  | 0x30 => .saveConfig l tag body
  | 0x31 => .restartController l tag body
  | _ => .unknownKind l kind tag body

/-- A complete frame: a sound one is its request, any other is discarded (R160). -/
def frameCommand (s : State) (l : Link) (frame : List Byte) : Instr :=
  match frame with
  | _ :: _ :: kind :: tag :: n :: rest =>
    if frameSound (stationByte s l) frame then requestCommand l kind tag (rest.take n.toNat) else .frameDiscarded l frame
  | _ => .frameDiscarded l frame

/-! ### What is on its way (log 17) -/

/-- The character that has just ended on a line. -/
def arrivedChar (s : State) (l : Link) : Option LineChar :=
  match s.links.lines.get l with
  | c :: _ => if c.idle = 0 ∧ c.lasts = 0 then some c else none
  | [] => none

/-- The state with the first character of a line taken from it. -/
def dropChar (l : Link) (s : State) : State :=
  { s with links := { s.links with lines := s.links.lines.set l ((s.links.lines.get l).drop 1) } }

/-- The command that a character's end stands for, and else the receiver after it. A faulty character is dropped, and in HUNTING
nothing else comes of it (log 17). -/
def charEvent (s : State) (l : Link) (c : LineChar) : Instr ⊕ Receiver :=
  let rx := (s.port l).rx
  match readChar l c.bits with
  | .faulty why => if rx.busy then .inl (.faultyFrameByte l why) else .inr rx
  | .byte b =>
    if rx.gapRan then .inl (.frameAbandoned l b)
    else
      match rx.hear b with
      | .on rx => .inr rx
      | .tooLong => .inl (.faultyFrameByte l .lengthOver200)
      | .complete frame => .inl (frameCommand s l frame)

/-- One ms passes on a line: quiet before its next character, or a part of that character. -/
def passLine : List LineChar → List LineChar
  | [] => []
  | c :: rest => (if c.idle = 0 then { c with lasts := c.lasts - 1 } else { c with idle := c.idle - 1 }) :: rest

/-- A line is quiet: no character has started on it. -/
def lineQuiet (chars : List LineChar) : Bool :=
  match chars with
  | [] => true
  | c :: _ => c.idle != 0

/-- One ms passes at a port. -/
def passPort (chars : List LineChar) (q : Port) : Port := if lineQuiet chars then { q with rx := q.rx.quieter } else q

/-- One ms passes on both links. -/
def passLinks (k : Links) : Links :=
  { k with
    ports := ⟨passPort k.lines.field k.ports.field, passPort k.lines.panel k.ports.panel⟩
    lines := ⟨passLine k.lines.field, passLine k.lines.panel⟩ }

end Sys2Proof.Machine
end

