-- ==== Sys2Proof/Machine/StoreEvents.lean ====
section
/-! DEFINITION. SAVE CONFIG (R186), RESTART CONTROLLER (R189), and the ends of store writes (R184 to R188, R28). -/

namespace Sys2Proof.Machine

/-! ### Requests -/

/-- SAVE CONFIG: no body. BUSY while SAVING and while a restart is accepted and not begun (R186). -/
def handleSaveConfig (body : List Byte) (s : State) : State × Answer :=
  guarded [(body.isEmpty, .badLength), (notSaving s && !s.store.restarting, .busy)]
    (fun s => (putStore (s.store.ask (.image s.env.cfg)) s, .now .accepted [])) s

/-- SAVE CONFIG (R186). -/
def execSaveConfig (l : Link) (tag : Byte) (body : List Byte) (s : State) : Host.Outcome State Fault Refusal :=
  .next (takeRequest l 0x30 tag (handleSaveConfig body) s)

/-- RESTART CONTROLLER: no body; panel only; BUSY unless the store is IDLE (R189). -/
def handleRestartController (l : Link) (body : List Byte) (s : State) : State × Answer :=
  guarded [(body.isEmpty, .badLength), (l == .panel, .noAuthority), (s.store.state == .idle, .busy)]
    (fun s => ({ s with store := { s.store with restarting := true } }, .done [])) s

/-- RESTART CONTROLLER (R189). -/
def execRestartController (l : Link) (tag : Byte) (body : List Byte) (s : State) : Host.Outcome State Fault Refusal :=
  .next (takeRequest l 0x31 tag (handleRestartController l body) s)

/-! ### Ends of writes -/

/-- What an area holds after a write of `new` that ended in this way (R184): its check fails after a differing read-back. -/
def areaAfter {α : Type} (how : WriteEnd) (new : α) (old : Option α) : Option α :=
  match how with
  | .succeeded => some new
  | .notTaken => old
  | .readBackDiffers => none

/-- The write in progress has ended: the area takes what it left, and a waiting write starts (R184, R185). -/
def Store.endWrite (how : WriteEnd) (t : Store) : Store :=
  match t.inProgress with
  | some (.image c) => { t with image := areaAfter how c t.image, inProgress := t.waiting, waiting := none }
  | some (.locks l) => { t with lockArea := areaAfter how l t.lockArea, inProgress := t.waiting, waiting := none }
  | none => t

/-- A failed write raises STORE_FAULT (R186, R188). -/
def noteFailure (how : WriteEnd) (s : State) : State :=
  if how = .succeeded then s else { s with plant := raiseCause s.env .storeFault s.plant }

/-- SAVE_END: the image write in progress ends (R186). -/
def execSaveEnd (how : WriteEnd) (s : State) : Host.Outcome State Fault Refusal :=
  if s.store.inProgress.any Write.isImage then .next (noteFailure how (putStore (s.store.endWrite how) s)) else .next s

/-- A DEFERRED slot becomes WAITING with the outcome of the lockout write: its reply, or STORE_FAULT with the numbers alone (R28,
R166). -/
def Slot.released (how : WriteEnd) : Slot → Slot
  | .deferred r numbers => .waiting (if how = .succeeded then r else { r with code := .storeFault, payload := numbers })
  | x => x

/-- The panel port's deferred reply is released. -/
def releasePanel (how : WriteEnd) (s : State) : State :=
  putPort .panel { s.port .panel with slot := (s.port .panel).slot.released how } s

/-- LOCKOUT_WRITE_END: the lockout write in progress ends (R28, R166, R188). -/
def execLockoutWriteEnd (how : WriteEnd) (s : State) : Host.Outcome State Fault Refusal :=
  if s.store.inProgress.any (fun w => !w.isImage) then
    .next (releasePanel how (noteFailure how (putStore (s.store.endWrite how) s)))
  else .next s

end Sys2Proof.Machine
end

