-- ==== Sys2Proof/Machine/StartUp.lean ====
section
/-! DEFINITION. Start-up (R190, R191): what the part is after it, whatever it was before. -/

namespace Sys2Proof.Machine

/-- The station address of the straps (R158). -/
def addressOf (straps : Byte) : Byte := if 1 ≤ straps.toNat ∧ straps.toNat ≤ 247 then straps else Config.defaultAddress

/-- Units 1 .. 16 take OUT_OF_SERVICE (R190 step 4). -/
def WorkConfig.allOut (c : WorkConfig) : WorkConfig :=
  { c with pumpService := .all .outOfService, portalService := .all .outOfService, zoneService := .all .outOfService }

/-- The configuration after steps 3 and 4 of R190. -/
def bootConfig (t : Store) : WorkConfig :=
  let c := t.image.getD factoryDefaults
  if t.lockArea.isSome then c else c.allOut

/-- A restored lockout (R30). -/
def restoredOrder (k : StoredLock) : Order :=
  { number := k.number, issuer := .panel, holder := k.holder, unit := k.unit, rank := .lockout, verb := .lock, arg := none
    yieldStage := none, expiresAt := none, revision := 0, governance := .outranked }

/-- The order table after step 5 of R190, governance resolved (R191 step 9). -/
def bootTable (c : WorkConfig) (t : Store) : List Order := resolveTable c UnitId.every ((t.lockArea.getD []).map restoredOrder)

/-- The counter after start-up: one above the highest restored number, or 1 (R6). -/
def bootCounter (t : Store) : Nat :=
  match t.lockArea with
  | none | some [] => 1
  | some l => nextNumber ((l.map StoredLock.number).foldl max 0)

/-- The lockout area after step 4 of R190: a failed area is cleared by writing an empty list. -/
def bootLockArea (clearing : WriteEnd) (t : Store) : Option (List StoredLock) :=
  if t.lockArea.isSome then t.lockArea else areaAfter clearing [] none

/-- The latched causes that start-up raises (R190 steps 3 and 4). -/
def bootRaised (clearing : WriteEnd) (t : Store) : List Cause :=
  (if t.image.isSome then [] else [.configLost]) ++
  (if t.lockArea.isSome then []
   else if clearing = .succeeded then [.locksLost] else [.locksLost, .storeFault])

/-- What the plant reads after start-up (R191 steps 5 to 7). -/
def bootEnv (pins : Inputs) (t : Store) : Env :=
  let c := bootConfig t
  { clock := 0, pins := pins, cfg := c, table := bootTable c t, counter := bootCounter t, keys := .all freshKey
    sumps := ⟨freshSection c.sumps.c.calibration.reload, freshSection c.sumps.e.calibration.reload,
      freshSection c.sumps.w.calibration.reload⟩
    underpass := 0, windows := .all freshWindow }

/-- A portal after start-up (R115, R136). -/
def bootPortal (e : Env) (i : PortalId) : Portal :=
  match e.cfg.portalService.get i with
  | .outOfService => freshPortal .out
  | .inHand => freshPortal .hand
  | .inService => (freshPortal .unsettled).settled (settledState (e.portalPins i))

/-- The arbiter after start-up (R98). -/
def bootArbiter (pins : Inputs) : Arbiter :=
  let v := nextSupply pins.gridOk pins.standbyOk .transfer
  freshArbiter v (if v = .transfer then .since 0 else .stopped)

/-- The unit records after start-up (R191 steps 6 and 9). -/
def bootUnits (e : Env) : PerUnit UnitRec :=
  UnitId.every.foldl (fun r u => r.set u (unitRecOf e.cfg e.table u))
    { pumps := .all (freshUnit .off), portals := .all (freshUnit .off), zones := .all (freshUnit .off), outfall := freshUnit .automatic }

/-- The plant with its first lamp allocation made (R191 steps 6 to 9), before the Attention Unit takes its starting state. -/
def bootPlant (e : Env) : Plant :=
  lampPass e
    { units := bootUnits e
      duty := ⟨freshDuty (e.ring .c).length, freshDuty (e.ring .e).length, freshDuty (e.ring .w).length⟩
      pumps := .all freshPump
      portals := ⟨bootPortal e .pe, bootPortal e .pw⟩
      zones := .all freshZone
      arb := bootArbiter e.pins
      attn := { present := 0, counts := zeroCounts, relayOn := false, sets := .all freshSet } }

/-- The Attention Unit after start-up (R174, R177, R179): the causes raised, the conditions that hold, the relay by its rule. -/
def bootAttention (e : Env) (p : Plant) (raised : List Cause) : Attention :=
  let present := causeSet raised ||| conditionBits e p
  { raised.foldl (fun (a : Attention) c => a.setCount c 1) { present := present, counts := zeroCounts, relayOn := false, sets := .all freshSet } with
    relayOn := relayRule present e.cfg.masks }

/-- Start-up (R190, R191) with the pins as they stand and the store as it is found. What waits outside the part waits on: the queue of
commands and the characters on the lines (log 16). -/
def bootState (pins : Inputs) (b : BootIn) (t : Store) (pending : List Instr) (lines : PerLink (List LineChar)) : State :=
  let e := bootEnv pins t
  let p := bootPlant e
  { pending := pending
    env := e
    plant := { p with attn := bootAttention e p (bootRaised b.clearing t) }
    links := { ports := .all freshPort, address := addressOf b.straps, rateInUse := e.cfg.fieldRate, lines := lines }
    store := { image := t.image, lockArea := bootLockArea b.clearing t, inProgress := none, waiting := none, restarting := false } }

/-- The store as a cut-off write leaves it: the area being written fails its check once its first byte was changed (R184). -/
def Store.cut (cutInside : Bool) (t : Store) : Store :=
  match cutInside, t.inProgress with
  | true, some (.image _) => { t with image := none }
  | true, some (.locks _) => { t with lockArea := none }
  | _, _ => t

/-- START_UP: power returns (R189, R190). -/
def execStartUp (pins : Inputs) (cutInside : Bool) (boot : BootIn) (s : State) : Host.Outcome State Fault Refusal :=
  .next (bootState pins boot (s.store.cut cutInside) s.pending s.links.lines)

end Sys2Proof.Machine
end

