-- ==== Sys2Proof/Machine/LinkEvents.lean ====
section
/-! DEFINITION. The meanings of the link events (R157 to R165, R168), and the start-up that a restart reply begins (R189). -/

namespace Sys2Proof.Machine

/-- UNKNOWN_KIND: a taken request of a kind that R171 does not list is answered UNKNOWN_KIND (R162). A kind that is listed, or that
is a reply's, is no such request (log 18). -/
def execUnknownKind (l : Link) (kind tag : Byte) (_body : List Byte) (s : State) : Host.Outcome State Fault Refusal :=
  if kindUnlisted kind then .next (takeRequest l kind tag (fun s => (s, .refuse .unknownKind)) s) else .next s

/-- The port's receiver returns to HUNTING; the field port may then take up its new bit rate (R159, R168). -/
def huntAgain (l : Link) (s : State) : State :=
  let s1 := putPort l { s.port l with rx := .hunting } s
  match l with
  | .field => takeUpRate s1
  | .panel => s1

/-- FRAME_DISCARDED: a complete frame fails a check of R160. A frame that passes them all is no such frame (log 18), and a port
that sends hears nothing (R157). -/
def execFrameDiscarded (l : Link) (frame : List Byte) (s : State) : Host.Outcome State Fault Refusal :=
  if frameSound (stationByte s l) frame || (s.port l).rx == .off then .next s else .next (huntAgain l s)

/-- FRAME_ABANDONED: a sound byte comes more than 10 ms after the byte before it in a frame, which is abandoned in this event; the late
byte is taken in HUNTING (R159). That the frame is abandoned here, and not before the late byte has come, is the model's choice
(log 46). -/
def execFrameAbandoned (l : Link) (late : Byte) (s : State) : Host.Outcome State Fault Refusal :=
  if (s.port l).rx.gapRan then .next (putPort l { (huntAgain l s).port l with rx := takenInHunting late } (huntAgain l s)) else .next s

/-- FAULTY_FRAME_BYTE: in ASSEMBLING a framing or parity error, or a length byte above 200, abandons the frame (R159). The panel link
has no parity bit. -/
def execFaultyFrameByte (l : Link) (why : ByteFault) (s : State) : Host.Outcome State Fault Refusal :=
  if (s.port l).rx.busy && !(l == .panel && why == .parity) then .next (huntAgain l s) else .next s

/-- REPLY_START: a WAITING reply starts to be sent; the status byte is formed and OVERRUN clears (R164, R165). -/
def execReplyStart (l : Link) (s : State) : Host.Outcome State Fault Refusal :=
  match (s.port l).slot with
  | .waiting r => .next (putPort l { rx := .off, slot := .sending (replyFrame s l r), overrun := false } s)
  | _ => .next s

/-- The last byte of a reply has been sent (R164, R168); the reply of RESTART CONTROLLER begins start-up (R189). -/
def endReply (l : Link) (boot : BootIn) (s : State) : State :=
  if l = .panel ∧ s.store.restarting then bootState s.env.pins boot s.store s.pending s.links.lines
  else huntAgain l (putPort l { s.port l with slot := .empty } s)

/-- REPLY_END (R164). -/
def execReplyEnd (l : Link) (boot : BootIn) (s : State) : Host.Outcome State Fault Refusal :=
  match (s.port l).slot with
  | .sending _ => .next (endReply l boot s)
  | _ => .next s

end Sys2Proof.Machine
end

