-- ==== Sys2Proof/Machine/OrderRequests.lean ====
section
/-! DEFINITION. The meanings of the order requests (R8, R12 to R20), of an order's expiry (R22) and of the key switches (R25, R26). -/

namespace Sys2Proof.Machine

/-! ### Fields that fit (R1, R2, R12 step 4) -/

/-- The verb fits the unit's kind and the rank (R2). -/
def verbFits (u : UnitId) (r : Rank) (v : Verb) : Bool :=
  match v with
  | .lock => r == .lockout && u != .outfall
  | .run | .stop => r != .lockout && kindCode u == 1
  | .open | .close | .hold => r != .lockout && kindCode u == 2
  | .level => r != .lockout && kindCode u == 3
  | .limit => r != .lockout && kindCode u == 4

/-- The check of the verb where a rank or verb code may name nothing (R2, R170, log 7): LOCKOUT takes no verb but LOCK, LOCK no rank
but LOCKOUT, and a verb that is named belongs to its kind of unit. What names nothing is left to the check of the fields. -/
def codesFit (u : UnitId) (r : Option Rank) (v : Option Verb) : Bool :=
  match r, v with
  | some r, some v => verbFits u r v
  | some r, none => r != .lockout
  | none, some v => verbFits u .standing v
  | none, none => true

/-- The verb carries an argument (R1). -/
def Verb.carriesArg : Verb → Bool
  | .level | .limit => true
  | _ => false

/-- The argument is present and in range for LEVEL and LIMIT, absent otherwise (R12 step 4). -/
def argFits (v : Verb) (a : Option Nat) : Bool :=
  match v, a with
  | .level, some n => n ≤ 100
  | .limit, some n => n ≤ 8
  | .level, none => false
  | .limit, none => false
  | _, a => a.isNone

/-- The yield stage is absent or 1 .. 4 for STANDING, absent for the other ranks (R12 step 4). -/
def yieldFits (r : Rank) (y : Option Nat) : Bool :=
  match y with
  | none => true
  | some n => r == .standing && 1 ≤ n && n ≤ 4

/-- The expiry is absent for LOCKOUT (R12 step 4). -/
def expiryFits (r : Rank) (x : Option Nat) : Bool := r != .lockout || x.isNone

/-- Holder 0 for FIELD, 1 .. 15 for PANEL (R12 step 4). -/
def holderFits (l : Link) (h : Nat) : Bool :=
  match l with
  | .field => h == 0
  | .panel => 1 ≤ h && h ≤ 15

/-- The rank is in the set (R7). -/
def RankSet.allows (r : RankSet) : Rank → Bool
  | .lockout => r.lockout
  | .overriding => r.overriding
  | .standing => r.standing

/-- The issuer's authority map allows the rank on the unit (R12 step 5). -/
def mapAllows (c : WorkConfig) (l : Link) (u : UnitId) (r : Rank) : Bool :=
  ((c.authority.get l).ranks.get u).allows r

/-- For STANDING, the effective yield stage is above the relevant stage now (R12 step 6). -/
def stageAllows (e : Env) (issuer : Issuer) (u : UnitId) (r : Rank) (y : Option Nat) : Bool :=
  r != .standing || decide (e.relevantStage u < effectiveYield e.cfg issuer y)

/-! ### PLACE (R12 to R14) -/

/-- What a PLACE asks for. -/
structure Wish where
  holder : Nat
  unit : UnitId
  rank : Rank
  verb : Verb
  arg : Option Nat
  yieldStage : Option Nat
  expiry : Option Nat
  deriving DecidableEq, Repr

/-- An order of the same issuer, holder and unit (R5, R14). -/
def sameOwner (issuer : Issuer) (holder : Nat) (u : UnitId) (o : Order) : Bool :=
  o.issuer == issuer && o.holder == holder && o.unit == u

/-- The order that a PLACE would replace (R14). -/
def replacedBy (s : State) (l : Link) (w : Wish) : Option Order :=
  s.env.table.find? (sameOwner (issuerOfLink l) w.holder w.unit)

/-- Steps 3 to 8 of R12. -/
def placeChecks (l : Link) (w : Wish) (s : State) : List (Bool × Code) :=
  [ (verbFits w.unit w.rank w.verb, .verbMismatch),
    (holderFits l w.holder && argFits w.verb w.arg && yieldFits w.rank w.yieldStage && expiryFits w.rank w.expiry, .badField),
    (mapAllows s.env.cfg l w.unit w.rank, .noAuthority),
    (stageAllows s.env (issuerOfLink l) w.unit w.rank w.yieldStage, .stageHigh),
    (serviceOf s.env.cfg w.unit == .inService || (s.env.cfg.authority.get l).dormantAccept, .unitDormant),
    ((replacedBy s l w).isSome || decide (s.env.table.countP Order.fromLink < Config.linkOrderLimit), .tableFull) ]

/-- The governance of an order of the table. -/
def governanceIn (table : List Order) (n : Nat) : Governance :=
  ((table.find? (fun o => o.number == n)).map Order.governance).getD .outranked

/-- The table after an accepted PLACE, before the plant acts: the old order leaves, the new one joins, governance is resolved,
and a change of the lockouts is handed to the store (R13, R14, R27). -/
def placeOrder (l : Link) (w : Wish) (s : State) : State :=
  let old := replacedBy s l w
  let s1 := if old.isSome then removeOrders (sameOwner (issuerOfLink l) w.holder w.unit) .replaced s else s
  let s2 := joinTable (issuerOfLink l) w.holder w.unit w.rank w.verb w.arg w.yieldStage w.expiry s1
  let s3 := resolve [w.unit] s2
  if w.rank = .lockout ∨ old.any (fun o => o.rank == .lockout) then askLockoutWrite s3 else s3

/-- An accepted PLACE (R13, R14): the reply carries the new number and its governance, or the new and the replaced number; a
change of the lockouts defers it (R28). -/
def acceptPlace (l : Link) (w : Wish) (s : State) : State × Answer :=
  let old := replacedBy s l w
  let s1 := if old.isSome then removeOrders (sameOwner (issuerOfLink l) w.holder w.unit) .replaced s else s
  let n := drawNumber s1
  let s2 := settle (placeOrder l w s)
  let numbers := byte2 n ++ (old.map (fun o => byte2 o.number)).getD []
  let payload := if old.isSome then numbers else numbers ++ byte1 (governanceIn s2.env.table n).code
  (s2, ⟨.done, payload, if w.rank == .lockout || old.any (fun o => o.rank == .lockout) then some numbers else none⟩)

/-- PLACE (R12): unit, rank, verb, argument, yield stage, expiry, holder. A code that names nothing fails step 4 if it does not fail
step 3 (log 7). -/
def handlePlace (l : Link) (body : List Byte) (s : State) : State × Answer :=
  match body with
  | [u, r, v, a, y, xh, xl, h] =>
    match unitOf u with
    | none => (s, .refuse .noSuchUnit)
    | some u =>
      match rankOf r, verbOf v with
      | some r, some v =>
        let w : Wish := ⟨h.toNat, u, r, v, absentOnes a, absentZero y.toNat, absentZero (word xh xl)⟩
        guarded (placeChecks l w s) (acceptPlace l w) s
      | r, v => (s, .refuse (if codesFit u r v then .badField else .verbMismatch))
  | _ => (s, .refuse .badLength)

/-- PLACE (R12). -/
def execPlace (l : Link) (tag : Byte) (body : List Byte) (s : State) : Host.Outcome State Fault Refusal :=
  .next (takeRequest l 0x01 tag (handlePlace l body) s)

/-! ### AMEND (R15 to R17) -/

/-- The fields an AMEND marks, as bytes; expiry as a number (R173). -/
structure Marks where
  arg : Option Byte
  verb : Option Byte
  rank : Option Byte
  yieldStage : Option Byte
  expiry : Option Nat
  deriving DecidableEq, Repr

/-- The length of the values that a mask calls for (R173). -/
def amendValueLength (mask : Byte) : Nat :=
  (mask.getLsbD 0).toNat + (mask.getLsbD 1).toNat + (mask.getLsbD 2).toNat + (mask.getLsbD 3).toNat + 2 * (mask.getLsbD 4).toNat

/-- One value is taken from the front if its field is marked. -/
def takeMarked (marked : Bool) (l : List Byte) : Option Byte × List Byte :=
  if marked then (l.head?, l.drop 1) else (none, l)

/-- The values of an AMEND, in bit order (R173). -/
def readMarks (mask : Byte) (l : List Byte) : Marks :=
  let a := takeMarked (mask.getLsbD 0) l
  let v := takeMarked (mask.getLsbD 1) a.2
  let r := takeMarked (mask.getLsbD 2) v.2
  let y := takeMarked (mask.getLsbD 3) r.2
  let x :=
    match mask.getLsbD 4, y.2 with
    | true, hi :: lo :: _ => some (word hi lo)
    | _, _ => none
  ⟨a.1, v.1, r.1, y.1, x⟩

/-- The rank of the amended result; none if it is marked and cannot be decoded. -/
def amendedRank (m : Marks) (o : Order) : Option Rank :=
  match m.rank with
  | none => some o.rank
  | some b => rankOf b

/-- The verb of the amended result; none if it is marked and cannot be decoded. -/
def amendedVerb (m : Marks) (o : Order) : Option Verb :=
  match m.verb with
  | none => some o.verb
  | some b => verbOf b

/-- The amended result (R16) with its rank and verb. An unmarked yield stage is dropped when the result is an OVERRIDE. -/
def amended (now : Nat) (m : Marks) (r : Rank) (v : Verb) (o : Order) : Order :=
  { o with
    rank := r
    verb := v
    arg :=
      match m.arg with
      | none => o.arg
      | some b => absentOnes b
    yieldStage :=
      match m.yieldStage with
      | none => if r = .overriding then none else o.yieldStage
      | some b => absentZero b.toNat
    expiresAt :=
      match m.expiry with
      | none => o.expiresAt
      | some n => expiryFrom now (absentZero n) }

/-- The rank is unchanged if either the old or the new one is LOCKOUT (R15 step 6); a new code that names nothing is not the old rank. -/
def rankMayBecome (old : Rank) (new : Option Rank) : Bool := new == some old || (old != .lockout && new != some .lockout)

/-- Steps 6 to 9 of R15 on the amended result. A mask with a bit above EXPIRY marks no field and fails the range check (log 8). -/
def amendChecks (l : Link) (mask : Byte) (m : Marks) (o a : Order) (s : State) : List (Bool × Code) :=
  [ (rankMayBecome o.rank (some a.rank) && verbFits a.unit a.rank a.verb, .verbMismatch),
    (decide (mask.toNat < 32) && (m.arg.isNone || a.verb.carriesArg) && argFits a.verb a.arg && yieldFits a.rank a.yieldStage &&
      expiryFits a.rank a.expiresAt, .badField),
    (mapAllows s.env.cfg l a.unit a.rank, .noAuthority),
    (stageAllows s.env (issuerOfLink l) a.unit a.rank a.yieldStage, .stageHigh) ]

/-- The amendment changes the order (R17): a field differs, or a new expiry restarts the countdown. -/
def amendChanges (m : Marks) (o a : Order) : Bool :=
  o.rank != a.rank || o.verb != a.verb || o.arg != a.arg || o.yieldStage != a.yieldStage ||
    match m.expiry with
    | none => false
    | some 0 => o.expiresAt.isSome
    | some _ => true

/-- The table with one order's record replaced, in its place (R16). -/
def replaceRecord (a : Order) (table : List Order) : List Order :=
  table.map (fun o => if o.number == a.number then a else o)

/-- An accepted AMEND (R17). -/
def acceptAmend (m : Marks) (o a : Order) (s : State) : State × Answer :=
  if amendChanges m o a then
    let b := { a with revision := o.revision + 1 }
    let s1 :=
      { s with
        env := { s.env with table := replaceRecord b s.env.table }
        plant := report s.env (.order o.number) none s.plant }
    (settle (if o.rank = a.rank then s1 else resolve [o.unit] s1), .done [b.revision])
  else (s, .done [o.revision])

/-- AMEND (R15, R173): number, holder, expected revision, mask, values. A code that names nothing fails step 7 if it does not fail
step 6 (log 7). -/
def handleAmend (l : Link) (body : List Byte) (s : State) : State × Answer :=
  match body with
  | nh :: nl :: h :: rev :: mask :: values =>
    if values.length ≠ amendValueLength mask then (s, .refuse .badLength)
    else
      match s.env.table.find? (fun o => o.number == word nh nl) with
      | none => (s, .refuse .noSuchOrder)
      | some o =>
        if o.issuer = .key ∨ o.issuer ≠ issuerOfLink l ∨ o.holder ≠ h.toNat then (s, .refuse .notOwner)
        else if o.revision ≠ rev then (s, .now .stale [o.revision])
        else if mask = 0 then (s, .done [o.revision])
        else
          let m := readMarks mask values
          match amendedRank m o, amendedVerb m o with
          | some r, some v =>
            let a := amended s.env.clock m r v o
            guarded (amendChecks l mask m o a s) (acceptAmend m o a) s
          | r, v => (s, .refuse (if rankMayBecome o.rank r && codesFit o.unit r v then .badField else .verbMismatch))
  | _ => (s, .refuse .badLength)

/-- AMEND (R15). -/
def execAmend (l : Link) (tag : Byte) (body : List Byte) (s : State) : Host.Outcome State Fault Refusal :=
  .next (takeRequest l 0x02 tag (handleAmend l body) s)

/-! ### WITHDRAW (R18) -/

/-- An accepted WITHDRAW (R18); a lockout's reply waits for the write (R28). -/
def acceptWithdraw (o : Order) (s : State) : State × Answer :=
  let s1 := resolve [o.unit] (removeOrders (fun x => x.number == o.number) .withdrawn s)
  let lock := o.rank == .lockout
  (settle (if lock then askLockoutWrite s1 else s1), ⟨.done, byte2 o.number, if lock then some (byte2 o.number) else none⟩)

/-- WITHDRAW: number, holder. -/
def handleWithdraw (l : Link) (body : List Byte) (s : State) : State × Answer :=
  match body with
  | [nh, nl, h] =>
    match s.env.table.find? (fun o => o.number == word nh nl) with
    | none => (s, .refuse .noSuchOrder)
    | some o =>
      if o.issuer = .key ∨ o.issuer ≠ issuerOfLink l ∨ o.holder ≠ h.toNat then (s, .refuse .notOwner)
      else acceptWithdraw o s
  | _ => (s, .refuse .badLength)

/-- WITHDRAW (R18). -/
def execWithdraw (l : Link) (tag : Byte) (body : List Byte) (s : State) : Host.Outcome State Fault Refusal :=
  .next (takeRequest l 0x03 tag (handleWithdraw l body) s)

/-! ### LOOKUP ORDER and LIST ORDERS (R19, R20, R172) -/

/-- An order record of 13 bytes (R172). -/
def orderBytes (now : Nat) (o : Order) : List Byte :=
  byte2 o.number ++ byte1 o.issuer.code ++ byte1 o.holder ++ byte1 o.unit.number ++ byte1 o.rank.code ++ byte1 o.verb.code ++
    byteOnes o.arg ++ byte1 (o.yieldStage.getD 0) ++ byte2Zero (o.remaining now) ++ [o.revision] ++ byte1 o.governance.code

/-- LOOKUP ORDER: number (R19). -/
def handleLookup (body : List Byte) (s : State) : State × Answer :=
  match body with
  | [nh, nl] =>
    match s.env.table.find? (fun o => o.number == word nh nl) with
    | none => (s, .refuse .noSuchOrder)
    | some o => (s, .done (orderBytes s.env.clock o))
  | _ => (s, .refuse .badLength)

/-- LOOKUP ORDER (R19). -/
def execLookupOrder (l : Link) (tag : Byte) (body : List Byte) (s : State) : Host.Outcome State Fault Refusal :=
  .next (takeRequest l 0x04 tag (handleLookup body) s)

/-- The LIST ORDERS payload (R20, R172): count, next index or FFh, number returned, records. -/
def listPayload (now : Nat) (hits : List Order) (start : Nat) : List Byte :=
  let shown := (hits.drop start).take Config.ordersPerList
  let next := start + shown.length
  byte1 hits.length ++ byteOnes (if next < hits.length then some next else none) ++ byte1 shown.length ++
    (shown.map (orderBytes now)).flatten

/-- LIST ORDERS: filter kind, filter value, start index (R20, R173). -/
def handleList (body : List Byte) (s : State) : State × Answer :=
  match body with
  | [kind, value, start] =>
    let answer (sel : Order → Bool) : State × Answer :=
      (s, .done (listPayload s.env.clock (s.env.table.filter sel) start.toNat))
    match kind.toNat with
    | 1 => answer (fun _ => true)
    | 2 =>
      match unitOf value with
      | none => (s, .refuse .noSuchUnit)
      | some u => answer (fun o => o.unit == u)
    | 3 =>
      match issuerOf value with
      | none => (s, .refuse .badField)
      | some i => answer (fun o => o.issuer == i)
    | _ => (s, .refuse .badField)
  | _ => (s, .refuse .badLength)

/-- LIST ORDERS (R20). -/
def execListOrders (l : Link) (tag : Byte) (body : List Byte) (s : State) : Host.Outcome State Fault Refusal :=
  .next (takeRequest l 0x05 tag (handleList body) s)

/-! ### SET AUTHORITY (R8) -/

/-- The rank sets of a run of bytes, if every one can be decoded. -/
def readRankSets : List Byte → Option (List RankSet)
  | [] => some []
  | b :: rest =>
    match rankSetOf b, readRankSets rest with
    | some r, some l => some (r :: l)
    | _, _ => none

/-- Seventeen values as one for each unit, in the order of the ids. -/
def perUnitOf {α : Type} : List α → Option (PerUnit α)
  | [a1, a2, a3, a4, a5, a6, a7, a8, a9, a10, a11, a12, a13, a14, a15, a16, a17] =>
    some ⟨⟨a1, a2, a3, a4, a5, a6, a7, a8⟩, ⟨a9, a10⟩, ⟨a11, a12, a13, a14, a15, a16⟩, a17⟩
  | _ => none

/-- The map that a SET AUTHORITY body gives and the link issuer it names; none where R8 answers BAD_FIELD. -/
def readAuthority (body : List Byte) : Option (Link × AuthorityMap) :=
  let sets := readRankSets ((body.drop 1).take 17)
  match body.head?.bind issuerOf, sets, sets.bind perUnitOf, body.drop 18 with
  | some issuer, some l, some ranks, [dormant, y] =>
    let link : Option Link :=
      match issuer with
      | .field => some .field
      | .panel => some .panel
      | .key => none
    match link with
    | some k =>
      if (k == .panel || l.all (fun r => !r.lockout)) && !ranks.outfall.lockout && (dormant == 1 || dormant == 2) &&
          decide (1 ≤ y.toNat) && decide (y.toNat ≤ 4) then
        some (k, ⟨ranks, dormant == 1, y.toNat⟩)
      else none
    | none => none
  | _, _, _, _ => none

/-- An accepted SET AUTHORITY replaces the named map and applies stand-down (R8, R24). -/
def acceptAuthority (k : Link) (m : AuthorityMap) (s : State) : State :=
  settle (standDown
    { s with env := { s.env with cfg := { s.env.cfg with authority := s.env.cfg.authority.set k m } } })

/-- SET AUTHORITY: issuer, seventeen rank sets, dormant setting, default yield stage (R8, R173). -/
def handleAuthority (l : Link) (body : List Byte) (s : State) : State × Answer :=
  guarded
    [(decide (body.length = 20), .badLength), (l == .panel, .noAuthority), (notSaving s, .busy),
     ((readAuthority body).isSome, .badField)]
    (fun s =>
      match readAuthority body with
      | some (k, m) => (acceptAuthority k m s, .done [])
      | none => (s, .refuse .badField)) s

/-- SET AUTHORITY (R8). -/
def execSetAuthority (l : Link) (tag : Byte) (body : List Byte) (s : State) : Host.Outcome State Fault Refusal :=
  .next (takeRequest l 0x06 tag (handleAuthority l body) s)

/-! ### An order's expiry (R22) -/

/-- ORDER_EXPIRY: the order with this number leaves as EXPIRED once its remaining expiry has reached 0; an AMEND that has restarted the
count keeps it (R22). -/
def execOrderExpiry (n : Nat) (s : State) : Host.Outcome State Fault Refusal :=
  match s.env.table.find? (fun o => o.number == n && orderDue s.env o) with
  | none => .next s
  | some o => .next (settle (resolve [o.unit] (removeOrders (fun x => x.number == o.number) .expired s)))

/-! ### Key switches (R25, R26) -/

/-- KEY_SWITCH_CHANGE: the input changes and the stability timer restarts (R25). -/
def execKeySwitchChange (k : PortalId) (on : Bool) (s : State) : Host.Outcome State Fault Refusal :=
  if s.env.pins.keys.get k = on then .next s
  else
    .next
      { s with
        env :=
          { s.env with
            pins := { s.env.pins with keys := s.env.pins.keys.set k on }
            keys := s.env.keys.set k { s.env.keys.get k with stable := .since s.env.clock } } }

/-- The holder of a switch's KEY order: 1 east, 2 west (R1). -/
def keyHolder : PortalId → Nat
  | .pe => 1
  | .pw => 2

/-- The debounced state of a switch is set and its timer stops. -/
def setKey (k : PortalId) (on : Bool) (s : State) : State :=
  { s with env := { s.env with keys := s.env.keys.set k ⟨on, .stopped⟩ } }

/-- KEY_DEBOUNCE_EXPIRY: once the input has been stable for 1 s at the opposite value, the debounced state takes it and the KEY order
joins or leaves (R25, R26). -/
def execKeyDebounceExpiry (k : PortalId) (s : State) : Host.Outcome State Fault Refusal :=
  if !keyDue s.env k then .next s
  else if s.env.pins.keys.get k then
    .next (settle (resolve [.portal k]
      (joinTable .key (keyHolder k) (.portal k) .overriding .close none none none (setKey k true s))))
  else
    .next (settle (resolve [.portal k]
      (removeOrders (fun o => o.issuer == .key && o.holder == keyHolder k) .withdrawn (setKey k false s))))

end Sys2Proof.Machine
end

