-- ==== Sys2Proof/Machine/UnitConfig.lean ====
section
/-! DEFINITION. SET UNIT CONFIG (R44, R77, R97, 6.10, R156): reading the settings of a unit's kind, their ranges and cross-checks, and
the move of a pump between rings. -/

namespace Sys2Proof.Machine

/-- A value lies in a range that includes both ends (0.7). -/
def within (lo hi n : Nat) : Bool := decide (lo ≤ n) && decide (n ≤ hi)

/-! ### Reading the settings (R170, R173) -/

/-- The settings of one unit. -/
inductive Settings where
  | pump (i : PumpId) (c : PumpCfg)
  | portal (i : PortalId) (c : PortalCfg)
  | zone (z : ZoneId) (c : ZoneCfg)
  deriving DecidableEq, Repr

/-- The length of a kind's settings in bytes. -/
def settingsLength : UnitId → Nat
  | .pump _ => 11
  | .portal _ => 11
  | .zone _ => 15
  | .outfall => 0

/-- Every pump setting is within its range (R97). -/
def pumpCfgFits (c : PumpCfg) : Bool :=
  within 1 250 c.load && within 0 500 c.surge && within 1 30 c.surgeTime && within 0 600 c.minRun && within 0 600 c.minRest &&
    within 1 12 c.startsPerHour && within 1 20 c.confirmLimit

/-- Pump settings in the order of R97's table. -/
def readPumpCfg : List Byte → Option PumpCfg
  | [u, ld, sh, sl, st, mh, ml, rh, rl, sp, cf] =>
    (sumpOf u).map (fun u =>
      { sump := u, load := ld.toNat, surge := word sh sl, surgeTime := st.toNat, minRun := word mh ml, minRest := word rh rl
        startsPerHour := sp.toNat, confirmLimit := cf.toNat })
  | _ => none

/-- Every portal setting is within its range (6.10). -/
def portalCfgFits (c : PortalCfg) : Bool :=
  within 3 4 c.closureStage && within 5 120 c.warningTime && within 2 30 c.barrierTravel && within 10 300 c.gateTravel &&
    within 5 60 c.clearConfirm && within 30 900 c.clearLimit && within 2 30 c.retryDelay && within 0 3 c.retryCount &&
    within 1 100 c.motorKw

/-- Portal settings in the order of the table of 6.10. -/
def readPortalCfg : List Byte → Option PortalCfg
  | [cs, wt, bt, gh, gl, cc, lh, ll, rd, rc, kw] =>
    some
      { closureStage := cs.toNat, warningTime := wt.toNat, barrierTravel := bt.toNat, gateTravel := word gh gl
        clearConfirm := cc.toNat, clearLimit := word lh ll, retryDelay := rd.toNat, retryCount := rc.toNat, motorKw := kw.toNat }
  | _ => none

/-- Every zone setting is within its range (7.8); Z6 alone has the role EGRESS, and no other (R156). -/
def zoneCfgFits (z : ZoneId) (c : ZoneCfg) : Bool :=
  (c.role == .egress) == (z == .z6) && within 0 200 c.installed && within 1 500 c.lmax && within 0 100 c.floor &&
    within 0 100 c.alertFloor && within 0 100 c.shed && within 20 150 c.k && within 10 100 c.f && within 1 100 c.rampUp &&
    within 1 100 c.rampDown && within 1 50 c.tolerance && within 1 4095 c.fullScale

/-- Zone settings in the order of the table of 7.8. -/
def readZoneCfg : List Byte → Option ZoneCfg
  | [ro, sd, ik, lh, ll, fl, al, sh, k, f, up, dn, tol, fh, fsl] =>
    match roleOf ro, sideOf sd with
    | some ro, some sd =>
      some
        { role := ro, side := sd, installed := ik.toNat, lmax := word lh ll, floor := fl.toNat, alertFloor := al.toNat
          shed := sh.toNat, k := k.toNat, f := f.toNat, rampUp := up.toNat, rampDown := dn.toNat, tolerance := tol.toNat
          fullScale := word fh fsl }
    | _, _ => none
  | _ => none

/-- The settings of a unit, if every one can be decoded. -/
def readSettings (u : UnitId) (body : List Byte) : Option Settings :=
  match u with
  | .pump i => (readPumpCfg body).map (.pump i)
  | .portal i => (readPortalCfg body).map (.portal i)
  | .zone z => (readZoneCfg body).map (.zone z)
  | .outfall => none

/-! ### Cross-checks (R44, R77, R103) -/

/-- The configuration with one unit's settings replaced. -/
def putSettings (st : Settings) (c : WorkConfig) : WorkConfig :=
  match st with
  | .pump i v => { c with pumps := c.pumps.set i v }
  | .portal i v => { c with portals := c.portals.set i v }
  | .zone z v => { c with zones := c.zones.set z v }

/-- A pump's move leaves every ring with 1 .. 4 pumps (R77). -/
def moveFits (c : WorkConfig) (i : PumpId) (v : PumpCfg) : Bool :=
  let old := (c.pumps.get i).sump
  v.sump == old || ((c.sumps.get old).ring.length != 1 && decide ((c.sumps.get v.sump).ring.length < 4))

/-- Ranges and cross-checks of the settings (R44 step 6). -/
def settingsFit (c : WorkConfig) : Settings → Bool
  | .pump i v => pumpCfgFits v && moveFits c i v
  | .portal _ v => portalCfgFits v
  | .zone z v =>
    zoneCfgFits z v && decide (shedOfAll (putSettings (.zone z v) c) ≤ min c.supply.grid c.supply.standby)

/-! ### An accepted write -/

/-- The ring of a sump replaced. -/
def WorkConfig.setRing (c : WorkConfig) (u : SumpId) (ring : List PumpId) : WorkConfig :=
  { c with sumps := c.sumps.set u { c.sumps.get u with ring := ring } }

/-- A pump leaves its old ring and is appended to the new one (R77 steps 1 and 2). -/
def moveRings (i : PumpId) (old new : SumpId) (c : WorkConfig) : WorkConfig :=
  let c1 := c.setRing old ((c.sumps.get old).ring.filter (fun j => j != i))
  c1.setRing new ((c1.sumps.get new).ring ++ [i])

/-- Both leads go to position 1, the old ring's last latch vanishes and the new ring's added latch starts clear (R77 steps 3
and 4). -/
def moveDuty (old new : SumpId) (d : PerSump Duty) : PerSump Duty :=
  let d1 := d.set old { lead := 1, latches := (d.get old).latches.dropLast }
  d1.set new { lead := 1, latches := (d1.get new).latches ++ [false] }

/-- New pump settings (R97), with the move of R77 when the sump changes. -/
def takePumpCfg (i : PumpId) (v : PumpCfg) (s : State) : State :=
  let old := s.env.sumpOf i
  let c := putSettings (.pump i v) s.env.cfg
  if v.sump = old then { s with env := { s.env with cfg := c } }
  else
    standDown
      { s with
        env := { s.env with cfg := moveRings i old v.sump c }
        plant := { s.plant with duty := moveDuty old v.sump s.plant.duty } }

/-- New zone settings: the zone's deficit becomes 0 and its flag clears (R156). -/
def takeZoneCfg (z : ZoneId) (v : ZoneCfg) (s : State) : State :=
  let e := { s.env with cfg := putSettings (.zone z v) s.env.cfg }
  { s with env := e, plant := putZone e z { s.plant.zones.get z with deficit := 0, flag := false } s.plant }

/-- An accepted SET UNIT CONFIG. -/
def takeSettings (st : Settings) (s : State) : State :=
  match st with
  | .pump i v => settle (takePumpCfg i v s)
  | .portal i v => settle { s with env := { s.env with cfg := putSettings (.portal i v) s.env.cfg } }
  | .zone z v => settle (takeZoneCfg z v s)

/-- The length matches the unit's kind; for the outfall or an unknown id any length passes (R44 step 1). -/
def settingsLengthFits (u : Option UnitId) (n : Nat) : Bool :=
  match u with
  | none => true
  | some .outfall => true
  | some u => n == settingsLength u

/-- SET UNIT CONFIG: unit, settings (R44, R173). An empty body names no unit and is BAD_LENGTH (log 9). -/
def handleSetUnitConfig (l : Link) (body : List Byte) (s : State) : State × Answer :=
  match body with
  | [] => (s, .refuse .badLength)
  | ub :: rest =>
    let u := unitOf ub
    let st := u.bind (fun u => readSettings u rest)
    guarded
      [(settingsLengthFits u rest.length, .badLength), (l == .panel, .noAuthority), (notSaving s, .busy), (u.isSome, .noSuchUnit),
       (u.any (fun u => serviceOf s.env.cfg u == .outOfService), .wrongState), (st.any (settingsFit s.env.cfg), .badField)]
      (fun s =>
        match st with
        | some st => (takeSettings st s, .done [])
        | none => (s, .refuse .badField)) s

/-- SET UNIT CONFIG (R44). -/
def execSetUnitConfig (l : Link) (tag : Byte) (body : List Byte) (s : State) : Host.Outcome State Fault Refusal :=
  .next (takeRequest l 0x13 tag (handleSetUnitConfig l body) s)

end Sys2Proof.Machine
end

