-- ==== Sys2Proof/Machine/UnitReads.lean ====
section
/-! DEFINITION. The record that READ UNIT returns (R48, R49, R172), and the meaning of READ UNIT. -/

namespace Sys2Proof.Machine

/-! ### Times in whole seconds (log 13) -/

/-- Elapsed whole seconds of a timer. -/
def elapsedSeconds (now : Nat) (t : Timer) : Nat := t.elapsed now / 1000

/-- Remaining seconds of a timer against a limit in ms, a started second counted whole. -/
def remainingSeconds (now limit : Nat) (t : Timer) : Nat := ceilDiv (limit - t.elapsed now) 1000

/-- The first running timer of a list of (name code, limit in ms, timer): its name and remaining seconds. -/
def firstRunning (now : Nat) : List (Nat × Nat × Timer) → Option (Nat × Nat)
  | [] => none
  | (name, limit, t) :: rest => if t.counting then some (name, remainingSeconds now limit t) else firstRunning now rest

/-! ### The common part (R31, R172) -/

/-- The 7-byte head of a unit record. -/
def unitHead (e : Env) (p : Plant) (u : UnitId) : List Byte :=
  byte1 u.number ++ byte1 (kindCode u) ++ byte1 (serviceOf e.cfg u).code ++ byteFlag (p.locked u) ++
    byte2Zero (p.units.get u).governing ++ byte1 (p.source u).code

/-! ### The kind-specific parts (R49) -/

/-- A pump's named timers in the order of 4.4. -/
def pumpTimers (c : PumpCfg) (q : Pump) : List (Nat × Nat × Timer) :=
  [(1, 1000 * c.confirmLimit, q.confirm), (2, 1000 * c.surgeTime, q.surge), (3, 1000 * c.minRun, q.minRun),
   (4, 1000 * q.restLength, q.minRest)]

/-- ON 1, OFF 2 (R40). -/
def handCode (on : Bool) : Nat := if on then 1 else 2

/-- Sump, run state, fault kind, dry flag, STARVED flag, hand setting, start-list count, age of the oldest entry, remaining
time of the running timer, its name. With no named timer running the remaining time reads FFFFh (DESIGN CHOICE, log 52). -/
def pumpPart (e : Env) (i : PumpId) (q : Pump) : List Byte :=
  let run := firstRunning e.clock (pumpTimers (e.cfg.pumps.get i) q)
  byte1 (sumpCode (e.sumpOf i)) ++ byte1 q.run.code ++ byteName FaultKind.code q.fault ++ byteFlag q.dry ++ byteFlag q.starved ++
    byte1 (handCode q.hand) ++ byte1 q.starts.length ++ byte2Ones (q.starts.head?.map (fun t => (e.clock - t) / 1000)) ++
    byte2Ones (run.map Prod.snd) ++ byteName id (run.map Prod.fst)

/-- A portal's named timers in the order of R138. -/
def portalTimers (c : PortalCfg) (q : Portal) : List (Nat × Nat × Timer) :=
  [(1, 1000 * c.warningTime, q.warn), (2, travelLimit c q, q.travel), (3, 1000 * c.retryDelay, q.retry),
   (4, 1000 * c.clearConfirm, q.confirm), (5, 1000 * c.clearLimit, q.limit)]

/-- Sequence state, resume state, jam cause, retries used, permit held, STARVED flag, signal aspect, the four limits, the safety
edge, hand motion, last hand result, the running timer's name and remaining time, which reads FFFFh with no named timer running
(DESIGN CHOICE, log 52). -/
def portalPart (e : Env) (i : PortalId) (q : Portal) : List Byte :=
  let pins := e.portalPins i
  let run := firstRunning e.clock (portalTimers (e.cfg.portals.get i) q)
  byte1 q.seq.code ++ byteName Seq.code q.resume ++ byteName JamCause.code q.jam ++ byte1 q.retries ++ byteFlag q.permit ++
    byteFlag q.starved ++ byte1 q.signal.code ++ byteFlag pins.gateOpen ++ byteFlag pins.gateClosed ++
    byteFlag pins.barrierRaised ++ byteFlag pins.barrierLowered ++ byteFlag pins.edge ++ byte1 q.motion.code ++
    byteName HandResult.code q.result ++ byteName id (run.map Prod.fst) ++ byte2Ones (run.map Prod.snd)

/-- Target, compensated target, lamp allowance, output, ramp direction, deficit percent and flag, hand level. -/
def zonePart (q : Zone) : List Byte :=
  byte1 q.target ++ byte1 q.comp ++ byte1 q.allowance ++ byte1 q.output ++ byte1 q.ramp.code ++ byte1 q.deficit ++
    byteFlag q.flag ++ byte1 q.hand

/-- The kind-specific part of a unit (R49). -/
def kindPart (e : Env) (p : Plant) : UnitId → List Byte
  | .pump i => pumpPart e i (p.pumps.get i)
  | .portal i => portalPart e i (p.portals.get i)
  | .zone z => zonePart (p.zones.get z)
  | .outfall => byteOnes (limitInForce e p) ++ byte1 (liveCount p)

/-- READ UNIT: unit (R48). -/
def handleReadUnit (body : List Byte) (s : State) : State × Answer :=
  match body with
  | [ub] =>
    match unitOf ub with
    | none => (s, .refuse .noSuchUnit)
    | some u => (s, .done (unitHead s.env s.plant u ++ kindPart s.env s.plant u))
  | _ => (s, .refuse .badLength)

/-- READ UNIT (R48). -/
def execReadUnit (l : Link) (tag : Byte) (body : List Byte) (s : State) : Host.Outcome State Fault Refusal :=
  .next (takeRequest l 0x10 tag (handleReadUnit body) s)

end Sys2Proof.Machine
end

