-- ==== Sys2Proof/Machine/PlantRequests.lean ====
section
/-! DEFINITION. READ PLANT (R169), SET SUPPLY CONFIG (R105), SET LUMINANCE CONFIG (R144), SET LINK CONFIG (R168), and the events of the
Start Arbiter (R98, R109 to R111). -/

namespace Sys2Proof.Machine

/-! ### READ PLANT (R169) -/

/-- IDLE 1, SAVING 2, WRITING_LOCKS 3 (the order of R169's field, log 11). -/
def StoreState.code : StoreState → Nat
  | .idle => 1 | .saving => 2 | .writingLocks => 3

/-- A or absent, samples in the window, lost. -/
def windowBytes (w : Window) : List Byte := byte2Ones w.mean ++ byte1 w.samples.length ++ byteFlag w.lost

/-- The transfer timer's elapsed seconds, absent outside TRANSFER. -/
def transferElapsed (e : Env) (a : Arbiter) : Option Nat :=
  if a.supply = .transfer then some (elapsedSeconds e.clock a.transfer) else none

/-- The spacing timer's remaining seconds, 0 when run out. -/
def spacingRemaining (e : Env) (a : Arbiter) : Nat :=
  if a.spacing = .stopped then 0 else remainingSeconds e.clock (1000 * e.cfg.supply.spacing) a.spacing

/-- The plant record in the order of R169 (log 12); of the luminance fields the east side's three stand before the west side's (log 51). -/
def plantBytes (s : State) : List Byte :=
  let e := s.env
  let p := s.plant
  [s.links.address] ++ byte2 e.cfg.fieldRate.bitsPerSecond ++ byte1 p.arb.supply.code ++ byte2 (budget e p) ++
    byte2Ones (transferElapsed e p.arb) ++ byte2 (nonLampLoad e p) ++ byte2 (lampLoad e p) ++ byte2 (shedReservation e.cfg) ++
    byte1 (spacingRemaining e p.arb) ++ byte1 e.underpass ++ byte1 s.store.state.code ++ bytesOfWord p.attn.present ++
    byte1 e.table.length ++ byte1 (e.table.countP Order.fromLink) ++ byte1 (e.table.countP (fun o => o.issuer == .key)) ++
    byteList ((grantOrderNow e p.arb.queue).map (fun r => byte1 r.unit.number)) ++ byteFlag p.portals.pe.permit ++
    byteFlag p.portals.pw.permit ++ windowBytes e.windows.east ++ windowBytes e.windows.west

/-- READ PLANT: no body. -/
def handleReadPlant (body : List Byte) (s : State) : State × Answer :=
  match body with
  | [] => (s, .done (plantBytes s))
  | _ => (s, .refuse .badLength)

/-- READ PLANT (R169). -/
def execReadPlant (l : Link) (tag : Byte) (body : List Byte) (s : State) : Host.Outcome State Fault Refusal :=
  .next (takeRequest l 0x20 tag (handleReadPlant body) s)

/-! ### SET SUPPLY CONFIG (R105) -/

/-- The supply group in the order of 5.4. -/
def readSupplyCfg : List Byte → Option SupplyCfg
  | [gh, gl, sh, sl, th, tl, sp, wh, wl] =>
    some { grid := word gh gl, standby := word sh sl, transferLimit := word th tl, spacing := sp.toNat, waitLimit := word wh wl }
  | _ => none

/-- Every supply setting is within its range (5.4). -/
def supplyCfgFits (c : SupplyCfg) : Bool :=
  within 0 2000 c.grid && within 0 2000 c.standby && within 10 300 c.transferLimit && within 0 60 c.spacing &&
    within 30 600 c.waitLimit

/-- Steps 5 and 6 of R105. -/
def shedsFit (c : WorkConfig) (v : SupplyCfg) : Bool := decide (shedOfAll c ≤ min v.grid v.standby)

/-- In GRID or STANDBY the non-lamp load and the reservation fit the new budget (R105 step 6). -/
def budgetHolds (e : Env) (p : Plant) (v : SupplyCfg) : Bool :=
  !p.arb.supply.powered || decide (nonLampLoad e p + shedReservation e.cfg ≤ budgetOf v p.arb.supply)

/-- A running transfer timer that has reached the limit makes the state DARK (R105). -/
def checkTransfer (e : Env) (p : Plant) : Plant :=
  if transferDue e p then changeSupply e .dark p else p

/-- The spacing timer has run out, and a grant pass is made (R109). -/
def endSpacing (e : Env) (p : Plant) : Plant := settlePlant e { p with arb := { p.arb with spacing := .stopped } }

/-- A running spacing timer that has reached the spacing runs out (R105). -/
def checkSpacing (e : Env) (p : Plant) : Plant :=
  if spacingDue e p then endSpacing e p else p

/-- Every queued request whose wait has reached the wait limit becomes STARVED (R105, R111); one that is so already is not starved
again (DESIGN CHOICE, log 54). -/
def checkWaits (e : Env) (p : Plant) : Plant :=
  (p.arb.queue.filter (fun r =>
    decide (1000 * e.cfg.supply.waitLimit ≤ r.wait.elapsed e.clock) && !starvedFlag p r.unit)).foldl
    (fun a r => starve e r.unit a) p

/-- An accepted SET SUPPLY CONFIG, in the order of R105's text (log 30). -/
def takeSupplyCfg (v : SupplyCfg) (s : State) : State :=
  let e := { s.env with cfg := { s.env.cfg with supply := v } }
  { s with env := e, plant := checkWaits e (checkSpacing e (checkTransfer e (settlePlant e s.plant))) }

/-- SET SUPPLY CONFIG: grid budget, standby budget, transfer limit, spacing, wait limit. -/
def handleSetSupplyConfig (l : Link) (body : List Byte) (s : State) : State × Answer :=
  let v := readSupplyCfg body
  guarded
    [(body.length == 9, .badLength), (l == .panel, .noAuthority), (notSaving s, .busy), (v.any supplyCfgFits, .badField),
     (v.any (shedsFit s.env.cfg), .badField), (v.any (budgetHolds s.env s.plant), .wrongState)]
    (fun s =>
      match v with
      | some v => (takeSupplyCfg v s, .done [])
      | none => (s, .refuse .badField)) s

/-- SET SUPPLY CONFIG (R105). -/
def execSetSupplyConfig (l : Link) (tag : Byte) (body : List Byte) (s : State) : Host.Outcome State Fault Refusal :=
  .next (takeRequest l 0x21 tag (handleSetSupplyConfig l body) s)

/-! ### SET LUMINANCE CONFIG (R144) -/

/-- The scales of the east and west sensors. -/
def readScales : List Byte → Option (PerSide Nat)
  | [eh, el, wh, wl] => some ⟨word eh el, word wh wl⟩
  | _ => none

/-- Both scales are within 1000 .. 20000. -/
def scalesFit (v : PerSide Nat) : Bool := within 1000 20000 v.east && within 1000 20000 v.west

/-- A window is emptied when its scale changed; its loss timer and lost state are not touched (R144). -/
def Window.rescale (old new : Nat) (w : Window) : Window := if old = new then w else { w with samples := [] }

/-- An accepted SET LUMINANCE CONFIG. -/
def takeScales (v : PerSide Nat) (s : State) : State :=
  let o := s.env.cfg.luminanceScale
  let w := s.env.windows
  settle
    { s with
      env :=
        { s.env with
          cfg := { s.env.cfg with luminanceScale := v }
          windows := ⟨w.east.rescale o.east v.east, w.west.rescale o.west v.west⟩ } }

/-- SET LUMINANCE CONFIG: scale east, scale west. -/
def handleSetLuminanceConfig (l : Link) (body : List Byte) (s : State) : State × Answer :=
  let v := readScales body
  guarded
    [(body.length == 4, .badLength), (l == .panel, .noAuthority), (notSaving s, .busy), (v.any scalesFit, .badField)]
    (fun s =>
      match v with
      | some v => (takeScales v s, .done [])
      | none => (s, .refuse .badField)) s

/-- SET LUMINANCE CONFIG (R144). -/
def execSetLuminanceConfig (l : Link) (tag : Byte) (body : List Byte) (s : State) : Host.Outcome State Fault Refusal :=
  .next (takeRequest l 0x22 tag (handleSetLuminanceConfig l body) s)

/-! ### SET LINK CONFIG (R168) -/

/-- SET LINK CONFIG: field bit rate code. The new rate is recorded; the field port takes it up when it can (`takeUpRate`). -/
def handleSetLinkConfig (l : Link) (body : List Byte) (s : State) : State × Answer :=
  let v := body.head?.bind rateOf
  guarded
    [(body.length == 1, .badLength), (l == .panel, .noAuthority), (notSaving s, .busy), (v.isSome, .badField)]
    (fun s =>
      match v with
      | some v => (takeUpRate { s with env := { s.env with cfg := { s.env.cfg with fieldRate := v } } }, .done [])
      | none => (s, .refuse .badField)) s

/-- SET LINK CONFIG (R168). -/
def execSetLinkConfig (l : Link) (tag : Byte) (body : List Byte) (s : State) : Host.Outcome State Fault Refusal :=
  .next (takeRequest l 0x23 tag (handleSetLinkConfig l body) s)

/-! ### Supply and arbiter events -/

/-- SUPPLY_INPUT_CHANGE: the supply state is worked out again; a change of it drops and readmits the loads (R98, R100, R101). -/
def execSupplyInputChange (gridOk standbyOk : Bool) (s : State) : Host.Outcome State Fault Refusal :=
  if s.env.pins.gridOk = gridOk ∧ s.env.pins.standbyOk = standbyOk then .next s
  else
    let e := { s.env with pins := { s.env.pins with gridOk := gridOk, standbyOk := standbyOk } }
    let v := nextSupply gridOk standbyOk s.plant.arb.supply
    .next { s with env := e, plant := if v = s.plant.arb.supply then s.plant else changeSupply e v s.plant }

/-- TRANSFER_TIMEOUT: the transfer timer runs out and the state becomes DARK (R98). -/
def execTransferTimeout (s : State) : Host.Outcome State Fault Refusal :=
  if transferDue s.env s.plant then .next { s with plant := changeSupply s.env .dark s.plant } else .next s

/-- SPACING_EXPIRY (R109). -/
def execSpacingExpiry (s : State) : Host.Outcome State Fault Refusal :=
  if spacingDue s.env s.plant then .next { s with plant := endSpacing s.env s.plant } else .next s

/-- WAIT_LIMIT_REACHED (R111). -/
def execWaitLimitReached (u : UnitId) (s : State) : Host.Outcome State Fault Refusal :=
  if waitDue s.env s.plant u then .next { s with plant := starve s.env u s.plant } else .next s

/-- SURGE_END: the surge leaves the committed load, the allocation is redone and a grant pass made (R86, R110). -/
def execSurgeEnd (i : PumpId) (s : State) : Host.Outcome State Fault Refusal :=
  if surgeDue s.env s.plant i then
    .next (settle { s with plant := putPump s.env i { s.plant.pumps.get i with surge := .stopped } s.plant })
  else .next s

end Sys2Proof.Machine
end

