-- ==== Sys2Proof/Machine/PortalEvents.lean ====
section
/-! DEFINITION. The meanings of the portal events (R119 to R127, R41, R42). -/

namespace Sys2Proof.Machine

/-- The pins with one portal's inputs replaced. -/
def putPortalPins (i : PortalId) (v : PortalPins) (s : State) : State :=
  { s with env := { s.env with pins := { s.env.pins with portals := s.env.pins.portals.set i v } } }

/-- One limit switch of a portal. -/
def limitSwitch (v : PortalPins) : LimitId → Bool
  | .gateOpen => v.gateOpen
  | .gateClosed => v.gateClosed
  | .barrierRaised => v.barrierRaised
  | .barrierLowered => v.barrierLowered

/-- One limit switch of a portal set. -/
def setLimit (v : PortalPins) (sw : LimitId) (active : Bool) : PortalPins :=
  match sw with
  | .gateOpen => { v with gateOpen := active }
  | .gateClosed => { v with gateClosed := active }
  | .barrierRaised => { v with barrierRaised := active }
  | .barrierLowered => { v with barrierLowered := active }

/-- WARNING_EXPIRY: the warning time has run and the portal enters BARRING (R122). -/
def execWarningExpiry (i : PortalId) (s : State) : Host.Outcome State Fault Refusal :=
  if warningDue s.env s.plant i then .next (settle { s with plant := toBarring s.env i (.held 0) s.plant }) else .next s

/-- LIMIT_SWITCH_CHANGE (R119, R126, R130, R41, R42). -/
def execLimitSwitchChange (i : PortalId) (sw : LimitId) (active : Bool) (s : State) : Host.Outcome State Fault Refusal :=
  if limitSwitch (s.env.portalPins i) sw = active then .next s
  else
    let s1 := putPortalPins i (setLimit (s.env.portalPins i) sw active) s
    .next (settle { s1 with plant := onLimit s1.env i s1.plant })

/-- TRAVEL_TIMER_EXPIRY: a driven motion step reaches its travel limit and the portal is JAMMED (R120). -/
def execTravelTimerExpiry (i : PortalId) (s : State) : Host.Outcome State Fault Refusal :=
  if travelDue s.env s.plant i then .next (settle { s with plant := toJammed s.env i .travel s.plant }) else .next s

/-- HAND_TRAVEL_EXPIRY: a driven hand motion reaches its travel limit and ends with TRAVEL, without a jam (R41). -/
def execHandTravelExpiry (i : PortalId) (s : State) : Host.Outcome State Fault Refusal :=
  if handTravelDue s.env s.plant i then .next (settle { s with plant := endHand s.env i .travel s.plant }) else .next s

/-- The pins with one occupancy loop set. -/
def putLoop (v : LoopPins) (lp : LoopId) (occupied : Bool) : LoopPins :=
  match lp with
  | .l1 => { v with l1 := occupied }
  | .l2 => { v with l2 := occupied }
  | .l3 => { v with l3 := occupied }
  | .l4 => { v with l4 := occupied }

/-- One occupancy loop. -/
def readLoop (v : LoopPins) : LoopId → Bool
  | .l1 => v.l1
  | .l2 => v.l2
  | .l3 => v.l3
  | .l4 => v.l4

/-- What a loop's change does to one portal (R124, R132): in CLEARING the clear-confirm timer stops, or starts from zero when all
four are clear; in HELD a paused one returns to zero, although R139 has no state but CLEARING act (DEDUCED, log 59). -/
def onLoop (e : Env) (occupied : Bool) (q : Portal) : Portal :=
  match q.seq with
  | .clearing => { q with confirm := if occupied then .stopped else if e.loopsClear then .since e.clock else q.confirm }
  | .held => { q with confirm := if occupied && q.confirm != .stopped then .held 0 else q.confirm }
  | _ => q

/-- OCCUPANCY_LOOP_CHANGE: one event of both sequencers (R124, R139). -/
def execOccupancyLoopChange (lp : LoopId) (occupied : Bool) (s : State) : Host.Outcome State Fault Refusal :=
  if readLoop s.env.pins.loops lp = occupied then .next s
  else
    let e := { s.env with pins := { s.env.pins with loops := putLoop s.env.pins.loops lp occupied } }
    .next (settle
      { s with
        env := e
        plant := { s.plant with portals := ⟨onLoop e occupied s.plant.portals.pe, onLoop e occupied s.plant.portals.pw⟩ } })

/-- CLEAR_CONFIRM_EXPIRY: all four loops have been clear for the clear-confirm time and the portal enters SEALING (R124). -/
def execClearConfirmExpiry (i : PortalId) (s : State) : Host.Outcome State Fault Refusal :=
  if clearConfirmDue s.env s.plant i then .next (settle { s with plant := toSealing s.env i (.held 0) s.plant }) else .next s

/-- The overdue flag is set; the clear-limit timer stays at its limit (log 37). -/
def markOverdue (e : Env) (i : PortalId) (p : Plant) : Plant :=
  raiseCause e .clearOverdue
    (putPortal e i { p.portals.get i with overdue := true, limit := .held (1000 * (e.cfg.portals.get i).clearLimit) } p)

/-- CLEAR_LIMIT_EXPIRY: the clear limit has run; a forced sealing follows at once where R125 calls for it. -/
def execClearLimitExpiry (i : PortalId) (s : State) : Host.Outcome State Fault Refusal :=
  if clearLimitDue s.env s.plant i then .next (settle { s with plant := markOverdue s.env i s.plant }) else .next s

/-- The edge has become active: it stops a gate driven toward closed (R127), and ends a gate closing in hand (R41). -/
def onEdge (e : Env) (i : PortalId) (p : Plant) : Plant :=
  let q := p.portals.get i
  if q.seq = .sealing ∧ q.permit then obstruct e i p
  else if q.seq = .hand ∧ q.motion = .gateClosing then endHand e i .edge p
  else p

/-- SAFETY_EDGE_CHANGE (R127, R41). -/
def execSafetyEdgeChange (i : PortalId) (active : Bool) (s : State) : Host.Outcome State Fault Refusal :=
  if (s.env.portalPins i).edge = active then .next s
  else
    let s1 := putPortalPins i { s.env.portalPins i with edge := active } s
    .next (settle (if active then { s1 with plant := onEdge s1.env i s1.plant } else s1))

/-- The retry delay has run out: the step ends at an active closed limit, else the portal queues (R127, R119). -/
def retrySealing (e : Env) (i : PortalId) (p : Plant) : Plant :=
  let p1 := putPortal e i { p.portals.get i with retry := .stopped } p
  if (e.portalPins i).gateClosed then toSealed e i p1 else joinQueue e (.portal i) p1

/-- RETRY_DELAY_EXPIRY (R127). -/
def execRetryDelayExpiry (i : PortalId) (s : State) : Host.Outcome State Fault Refusal :=
  if retryDue s.env s.plant i then .next (settle { s with plant := retrySealing s.env i s.plant }) else .next s

end Sys2Proof.Machine
end

