-- ==== Sys2Proof/Machine/PumpEvents.lean ====
section
/-! DEFINITION. The meanings of the pump events (R81, R86 to R94). Every one ends with the plant's blocks acting (`settle`). -/

namespace Sys2Proof.Machine

/-- The pins with one pump's dry-run input set. -/
def putDryRun (i : PumpId) (v : Bool) (s : State) : State :=
  { s with env := { s.env with pins := { s.env.pins with dryRun := s.env.pins.dryRun.set i v } } }

/-- The pins with one pump's running feedback set. -/
def putFeedback (i : PumpId) (v : Bool) (s : State) : State :=
  { s with env := { s.env with pins := { s.env.pins with feedback := s.env.pins.feedback.set i v } } }

/-- The pins with one pump's thermal trip set. -/
def putThermal (i : PumpId) (v : Bool) (s : State) : State :=
  { s with env := { s.env with pins := { s.env.pins with thermal := s.env.pins.thermal.set i v } } }

/-- The pump is stopped and the plant acts. -/
def haltAndSettle (i : PumpId) (k : Stop) (s : State) : State := settle { s with plant := haltPump s.env i k s.plant }

/-- The dry-run timer runs from zero while a RUNNING pump's input is active (R89). -/
def timeDryRun (now : Nat) (active : Bool) (q : Pump) : Pump :=
  if q.run = .running then { q with dryTimer := if active then .since now else .stopped } else q

/-- DRY_RUN_INPUT_CHANGE (R81, R89). -/
def execDryRunInputChange (i : PumpId) (active : Bool) (s : State) : Host.Outcome State Fault Refusal :=
  if s.env.pins.dryRun.get i = active then .next s
  else
    let s1 := putDryRun i active s
    .next (settle { s1 with plant := putPump s1.env i (timeDryRun s1.env.clock active (s1.plant.pumps.get i)) s1.plant })

/-- DRY_RUN_STOP: the dry-run timer of a RUNNING pump reaches 5 s (R89). -/
def execDryRunStop (i : PumpId) (s : State) : Host.Outcome State Fault Refusal :=
  if dryRunDue s.env s.plant i then .next (haltAndSettle i .dry s) else .next s

/-- What a change of running feedback does (R87): a STARTING pump becomes RUNNING; the one-second count of a RUNNING pump starts
or is cancelled. In the other states the input is not read. -/
def onFeedback (e : Env) (i : PumpId) (active : Bool) (p : Plant) : Plant :=
  let q := p.pumps.get i
  match q.run, active with
  | .starting, true => becomeRunning e i p
  | .running, true => putPump e i { q with lostTimer := .stopped } p
  | .running, false => putPump e i { q with lostTimer := .since e.clock } p
  | _, _ => p

/-- RUNNING_FEEDBACK_CHANGE (R87). -/
def execRunningFeedbackChange (i : PumpId) (active : Bool) (s : State) : Host.Outcome State Fault Refusal :=
  if s.env.pins.feedback.get i = active then .next s
  else
    let s1 := putFeedback i active s
    .next (settle { s1 with plant := onFeedback s1.env i active s1.plant })

/-- NO_START: the confirm timer of a STARTING pump runs out (R87). -/
def execNoStart (i : PumpId) (s : State) : Host.Outcome State Fault Refusal :=
  if confirmDue s.env s.plant i then .next (haltAndSettle i (.fault .noStart) s) else .next s

/-- LOST_RUN: a RUNNING pump's feedback has been inactive for 1 s (R87). -/
def execLostRun (i : PumpId) (s : State) : Host.Outcome State Fault Refusal :=
  if lostRunDue s.env s.plant i then .next (haltAndSettle i (.fault .lostRun) s) else .next s

/-- THERMAL_TRIP: the thermal input changes; becoming active it faults a STARTING or RUNNING pump (R88, log 14). -/
def execThermalTrip (i : PumpId) (active : Bool) (s : State) : Host.Outcome State Fault Refusal :=
  if s.env.pins.thermal.get i = active then .next s
  else
    let s1 := putThermal i active s
    if active && (s.plant.pumps.get i).live then .next (haltAndSettle i (.fault .thermal) s1) else .next s1

/-- MIN_RUN_EXPIRY: the min run has elapsed, and Pump Duty looks again at the pump (R90). -/
def execMinRunExpiry (i : PumpId) (s : State) : Host.Outcome State Fault Refusal :=
  if minRunDue s.env s.plant i then
    .next (settle { s with plant := putPump s.env i { s.plant.pumps.get i with minRun := .stopped } s.plant })
  else .next s

/-- REST_END: a RESTING pump's rest is over and it becomes STOPPED (R92). -/
def execRestEnd (i : PumpId) (s : State) : Host.Outcome State Fault Refusal :=
  if restDue s.env s.plant i then
    .next (settle
      { s with plant := putPump s.env i { s.plant.pumps.get i with run := .stopped, minRest := .stopped, restLength := 0 } s.plant })
  else .next s

/-- START_LIST_ENTRY_EXPIRY: the oldest entry is 3600 s old and leaves the start list (R94). -/
def execStartListEntryExpiry (i : PumpId) (s : State) : Host.Outcome State Fault Refusal :=
  if startEntryDue s.env s.plant i then
    .next (settle
      { s with plant := putPump s.env i { s.plant.pumps.get i with starts := (s.plant.pumps.get i).starts.drop 1 } s.plant })
  else .next s

end Sys2Proof.Machine
end

