-- ==== Sys2Proof/Machine/SumpRequests.lean ====
section
/-! DEFINITION. The meanings of the sump events (R51, R60, R64), of READ SUMP, SET SUMP CONFIG and RESTART SECTION (R69 to R73), and of
SET RING ORDER (R76). -/

namespace Sys2Proof.Machine

/-! ### Sump events -/

/-- SUMP_SAMPLE: the sample event, its hand-on, and the latches at a level-producing sample (R51, R79). -/
def execSumpSample (u : SumpId) (countA countB : Nat) (s : State) : Host.Outcome State Fault Refusal :=
  let r := sampleSection s.env.clock (s.env.cfg.sumps.get u) countA countB (s.env.sumps.get u)
  let s1 := takeSection u r.1 s
  .next (settle (if r.2 then latchSump u s1 else s1))

/-- FLOAT_INPUT_CHANGE: the contact changes and the stability timer restarts (R60). -/
def execFloatInputChange (u : SumpId) (f : FloatId) (closed : Bool) (s : State) : Host.Outcome State Fault Refusal :=
  if contactOf s.env u f = closed then .next s
  else
    let m := s.env.sumps.get u
    .next
      { s with
        env :=
          { s.env with
            pins := { s.env.pins with floats := s.env.pins.floats.set u (setContact (s.env.pins.floats.get u) f closed) }
            sumps := s.env.sumps.set u (m.setFloat f { m.float f with stable := .since s.env.clock }) } }

/-- FLOAT_DEBOUNCE_EXPIRY: the debounced state takes the stable value and the section evaluates its stage (R60). -/
def execFloatDebounceExpiry (u : SumpId) (f : FloatId) (s : State) : Host.Outcome State Fault Refusal :=
  let m := s.env.sumps.get u
  if floatDue s.env u f then
    .next (settle (takeSection u
      (evaluate s.env.clock (s.env.cfg.sumps.get u).staging (m.setFloat f ⟨floatNow s.env u f, .stopped⟩)) s))
  else .next s

/-- STAGE_HOLD_EXPIRY: the hold time has run and the stage falls to the candidate (R64). -/
def execStageHoldExpiry (u : SumpId) (s : State) : Host.Outcome State Fault Refusal :=
  if holdDue s.env u then .next (settle (takeSection u (stepDown (s.env.sumps.get u)) s)) else .next s

/-! ### READ SUMP (R73) -/

/-- ACTIVE 1, INACTIVE 2 (R170, R60). -/
def activeCode (b : Bool) : Nat := if b then 1 else 2

/-- A level with its validity flag. While there is no last sample the level is absent and the flag is 00h (log 49). -/
def levelBytes (l : Option Nat) : List Byte := byte2Ones l ++ byteFlag l.isSome

/-- The READ SUMP payload. -/
def sumpBytes (e : Env) (p : Plant) (u : SumpId) : List Byte :=
  let m := e.sumps.get u
  byte2Ones m.level ++ byteRate m.rate ++ byte2Zero m.forecast ++ byte1 m.mode.code ++ byte1 m.allowance ++ byte1 m.invalidCount ++
    byte1 m.stage ++ byteOnes m.candidate ++
    byte2Ones (if m.hold = .stopped then none else some (m.hold.elapsed e.clock / 1000)) ++
    byte2Ones (m.last.map Sample.countA) ++ byte2Ones (m.last.map Sample.countB) ++ levelBytes (m.last.bind Sample.levelA) ++
    levelBytes (m.last.bind Sample.levelB) ++ byte1 (activeCode m.high.active) ++ byte1 (activeCode m.extreme.active) ++
    byteList ((e.ring u).map (fun i => byte1 (UnitId.pump i).number)) ++ byte1 (p.duty.get u).lead ++
    ((p.duty.get u).latches.map byteFlag).flatten

/-- READ SUMP: sump (R73). -/
def handleReadSump (body : List Byte) (s : State) : State × Answer :=
  match body with
  | [ub] =>
    match sumpOf ub with
    | none => (s, .refuse .badField)
    | some u => (s, .done (sumpBytes s.env s.plant u))
  | _ => (s, .refuse .badLength)

/-- READ SUMP (R73). -/
def execReadSump (l : Link) (tag : Byte) (body : List Byte) (s : State) : Host.Outcome State Fault Refusal :=
  .next (takeRequest l 0x18 tag (handleReadSump body) s)

/-! ### SET SUMP CONFIG (R69 to R71) -/

/-- The content of one group. -/
inductive Group where
  | calibration (c : Calibration)
  | staging (c : Staging)
  | floats (c : FloatCfg)
  | positions (c : List PosLevel)
  deriving DecidableEq, Repr

/-- The length of a group's content: CALIBRATION 1, STAGING 2, FLOATS 3, POSITIONS 4; any other group passes with any length. -/
def groupLengthFits (g n : Nat) : Bool :=
  match g with
  | 1 => n == 11
  | 2 => n == 16
  | 3 => n == 2
  | 4 => n == 16
  | _ => true

/-- CALIBRATION in the order of the table of 3.11. -/
def readCalibration : List Byte → Option Group
  | [zah, zal, zbh, zbl, kah, kal, kbh, kbl, dh, dl, rl] =>
    some (.calibration
      { za := word zah zal, zb := word zbh zbl, ka := word kah kal, kb := word kbh kbl, d := word dh dl, reload := rl.toNat })
  | _ => none

/-- STAGING in the order of the table of 3.11. -/
def readStaging : List Byte → Option Group
  | [ah, al, bh, bl, ch, cl, dh, dl, hh, hl, oh, ol, rh, rl, ld, w] =>
    some (.staging
      { t1 := word ah al, t2 := word bh bl, t3 := word ch cl, t4 := word dh dl, h := word hh hl, hold := word oh ol
        rateThreshold := word rh rl, lead := ld.toNat, w := w.toNat })
  | _ => none

/-- FLOATS: HIGH polarity, EXTREME polarity. -/
def readFloats : List Byte → Option Group
  | [h, x] =>
    match polarityOf h, polarityOf x with
    | some h, some x => some (.floats ⟨h, x⟩)
    | _, _ => none
  | _ => none

/-- POSITIONS: S_1, P_1 .. S_4, P_4 (R78). -/
def readPositions : List Byte → Option Group
  | [ah, al, bh, bl, ch, cl, dh, dl, eh, el, fh, fl, gh, gl, hh, hl] =>
    some (.positions
      [⟨word ah al, word bh bl⟩, ⟨word ch cl, word dh dl⟩, ⟨word eh el, word fh fl⟩, ⟨word gh gl, word hh hl⟩])
  | _ => none

/-- The group that a body names with its content, if it can be decoded. -/
def readGroup (g : Nat) (body : List Byte) : Option Group :=
  match g with
  | 1 => readCalibration body
  | 2 => readStaging body
  | 3 => readFloats body
  | 4 => readPositions body
  | _ => none

/-- Each start level is no higher than the next (R78). -/
def startsRise : List PosLevel → Bool
  | a :: b :: rest => decide (a.start ≤ b.start) && startsRise (b :: rest)
  | _ => true

/-- Ranges and cross-checks of a group (R69 step 4, R78). -/
def groupFits : Group → Bool
  | .calibration c =>
    within 0 1023 c.za && within 0 1023 c.zb && within 1 8191 c.ka && within 1 8191 c.kb && within 10 500 c.d && within 1 255 c.reload
  | .staging c =>
    decide (c.t1 < c.t2) && decide (c.t2 < c.t3) && decide (c.t3 < c.t4) && within 0 9999 c.t4 && within 0 500 c.h &&
      within 10 600 c.hold && within 0 2000 c.rateThreshold && within 1 60 c.lead && within 1 16 c.w
  | .floats _ => true
  | .positions l => l.all (fun x => within 0 9999 x.start && decide (x.stop < x.start)) && startsRise l

/-- A sump's settings with one group replaced. -/
def SumpCfg.withGroup (c : SumpCfg) : Group → SumpCfg
  | .calibration v => { c with calibration := v }
  | .staging v => { c with staging := v }
  | .floats v => { c with floats := v }
  | .positions v => { c with positions := v }

/-- The stability timers of the floats whose polarity changed restart (R60). -/
def repolarise (now : Nat) (old new : FloatCfg) (m : Section) : Section :=
  { m with
    high := if old.high = new.high then m.high else { m.high with stable := .since now }
    extreme := if old.extreme = new.extreme then m.extreme else { m.extreme with stable := .since now } }

/-- A STAGING write (R70): the section evaluates under the new settings, and a hold that then still runs and has reached the new hold
time steps down, to the candidate that the evaluation has renewed (the order is a DESIGN CHOICE, log 61). -/
def restage (now : Nat) (st : Staging) (m : Section) : Section :=
  let m1 := evaluate now st m
  if m1.hold.ranOut now (1000 * st.hold) then stepDown m1 else m1

/-- A new group acts (R70, R71, R79). -/
def takeGroup (u : SumpId) (g : Group) (s : State) : State :=
  let old := s.env.cfg.sumps.get u
  let s1 :=
    { s with env := { s.env with cfg := { s.env.cfg with sumps := s.env.cfg.sumps.set u (old.withGroup g) } } }
  let m := s1.env.sumps.get u
  settle
    (match g with
     | .calibration _ => restartSump u s1
     | .staging st => takeSection u (restage s.env.clock st m) s1
     | .floats f =>
       { s1 with env := { s1.env with sumps := s1.env.sumps.set u (repolarise s.env.clock old.floats f m) } }
     | .positions _ => latchSump u s1)

/-- SET SUMP CONFIG: sump, group, content (R69). A body too short to name a group is BAD_LENGTH (log 9). -/
def handleSetSumpConfig (body : List Byte) (s : State) : State × Answer :=
  match body with
  | ub :: gb :: rest =>
    let u := sumpOf ub
    let g := readGroup gb.toNat rest
    guarded
      [(groupLengthFits gb.toNat rest.length, .badLength), (notSaving s, .busy), (u.isSome, .badField), (g.any groupFits, .badField)]
      (fun s =>
        match u, g with
        | some u, some g => (takeGroup u g s, .done [])
        | _, _ => (s, .refuse .badField)) s
  | _ => (s, .refuse .badLength)

/-- SET SUMP CONFIG (R69). -/
def execSetSumpConfig (l : Link) (tag : Byte) (body : List Byte) (s : State) : Host.Outcome State Fault Refusal :=
  .next (takeRequest l 0x19 tag (handleSetSumpConfig body) s)

/-! ### RESTART SECTION (R72) -/

/-- RESTART SECTION: sump. -/
def handleRestartSection (body : List Byte) (s : State) : State × Answer :=
  match body with
  | [ub] =>
    match sumpOf ub with
    | none => (s, .refuse .badField)
    | some u => (settle (restartSump u s), .done [])
  | _ => (s, .refuse .badLength)

/-- RESTART SECTION (R72). -/
def execRestartSection (l : Link) (tag : Byte) (body : List Byte) (s : State) : Host.Outcome State Fault Refusal :=
  .next (takeRequest l 0x1A tag (handleRestartSection body) s)

/-! ### SET RING ORDER (R76) -/

/-- The pumps of a run of bytes, if every one is a pump id. -/
def readPumps : List Byte → Option (List PumpId)
  | [] => some []
  | b :: rest =>
    match pumpOf b, readPumps rest with
    | some i, some l => some (i :: l)
    | _, _ => none

/-- A new ring order: the lead goes to position 1, the latches stay (R76). -/
def takeRing (u : SumpId) (ring : List PumpId) (s : State) : State :=
  settle { s with env := { s.env with cfg := s.env.cfg.setRing u ring }, plant := resetLead u s.plant }

/-- The list is the sump's present ring in some order (R76 step 5). -/
def ringFits (e : Env) (u : Option SumpId) (l : Option (List PumpId)) : Bool :=
  match u, l with
  | some u, some l => l.isPerm (e.ring u)
  | _, _ => false

/-- SET RING ORDER: sump, list of pumps (R76, R170). -/
def handleSetRingOrder (l : Link) (body : List Byte) (s : State) : State × Answer :=
  match body with
  | ub :: nb :: rest =>
    let u := sumpOf ub
    let ring := readPumps rest
    guarded
      [(within 1 4 nb.toNat && rest.length == nb.toNat, .badLength), (l == .panel, .noAuthority), (notSaving s, .busy),
       (u.isSome, .badField), (ringFits s.env u ring, .badField)]
      (fun s =>
        match u, ring with
        | some u, some ring => (takeRing u ring s, .done [])
        | _, _ => (s, .refuse .badField)) s
  | _ => (s, .refuse .badLength)

/-- SET RING ORDER (R76). -/
def execSetRingOrder (l : Link) (tag : Byte) (body : List Byte) (s : State) : Host.Outcome State Fault Refusal :=
  .next (takeRequest l 0x1B tag (handleSetRingOrder l body) s)

end Sys2Proof.Machine
end

