-- ==== Sys2Proof/Machine/UnitRequests.lean ====
section
/-! DEFINITION. SET SERVICE (R34 to R38), HAND DRIVE (R39 to R43) and RESET FAULT (R45 to R47). -/

namespace Sys2Proof.Machine

/-! ### SET SERVICE: entry actions (R35, R36, R37) -/

/-- A pump enters OUT_OF_SERVICE (R35). -/
def pumpOut (e : Env) (i : PumpId) (p : Plant) : Plant :=
  let p1 :=
    match (p.pumps.get i).run with
    | .starting | .running => haltPump e i .off p
    | .queued => unqueuePump e i p
    | .resting => putPump e i { p.pumps.get i with run := .stopped, minRest := .stopped, restLength := 0 } p
    | .stopped | .faulted => p
  putPump e i { p1.pumps.get i with hand := false } p1

/-- A pump enters IN_HAND (R36). -/
def pumpInHand (e : Env) (i : PumpId) (p : Plant) : Plant :=
  let p1 := if (p.pumps.get i).run = .queued then unqueuePump e i p else p
  putPump e i { p1.pumps.get i with hand := (p1.pumps.get i).live } p1

/-- A pump enters IN_SERVICE (R37); its hand setting is left as it stands (log 38). -/
def pumpInService (e : Env) (i : PumpId) (p : Plant) : Plant :=
  if (p.pumps.get i).run = .queued then unqueuePump e i p else p

/-- A portal enters OUT_OF_SERVICE (R35, R115). -/
def portalOut (e : Env) (i : PortalId) (p : Plant) : Plant :=
  let p1 := enterIdle e i .out (stopHand e i p)
  putPortal e i { p1.portals.get i with resume := none, jam := none, retries := 0, motion := .none } p1

/-- The hand motion that a motor being driven becomes (R36). -/
def motionOf : Option Motor → HandMotion
  | none => .none
  | some .gateOpen => .gateOpening
  | some .gateClose => .gateClosing
  | some .barrierUp => .barrierRising
  | some .barrierDown => .barrierLowering

/-- A portal enters IN_HAND (R36): a driven motor goes on under its permit with the travel time it has (log 48), anything else is
withdrawn; a jam and its resume state are kept; the signal keeps its aspect, but a locked portal has its off value RED (log 43). -/
def portalInHand (e : Env) (i : PortalId) (p : Plant) : Plant :=
  let m := motionOf (p.portals.get i).motor
  let p1 := if m = .none then letGo e i p else p
  let q := p1.portals.get i
  putPortal e i
    { q with
      seq := .hand
      resume := if q.seq = .jammed then q.resume else none
      overdue := false
      warn := .stopped
      travel := if m = .none then .stopped else q.travel
      confirm := .stopped
      limit := .stopped
      retry := .stopped
      signal := if p.locked (.portal i) then .red else q.signal
      motion := m
      result := none } p1

/-- A portal enters IN_SERVICE (R37): a hand motion stops, its permit is released, and the portal settles (R136). -/
def portalInService (e : Env) (i : PortalId) (p : Plant) : Plant :=
  settlePortal e i (letGo e i (stopHand e i p))

/-- A zone enters OUT_OF_SERVICE: the output goes to 0 at once (R35). -/
def zoneOut (e : Env) (z : ZoneId) (p : Plant) : Plant :=
  putZone e z { (p.zones.get z).setOutput e.clock 0 with ramp := .none, step := .stopped, steps := 0, hand := 0 } p

/-- A zone enters IN_HAND: its present output becomes the hand level and a ramp stops where it stands (R36). -/
def zoneInHand (e : Env) (z : ZoneId) (p : Plant) : Plant :=
  let q := p.zones.get z
  putZone e z { q with hand := q.output, ramp := .none, step := .stopped, steps := 0 } p

/-- The entry actions of R35, R36 and R37. -/
def enterService (e : Env) (u : UnitId) (v : Service) (p : Plant) : Plant :=
  match u, v with
  | .pump i, .outOfService => pumpOut e i p
  | .pump i, .inHand => pumpInHand e i p
  | .pump i, .inService => pumpInService e i p
  | .portal i, .outOfService => portalOut e i p
  | .portal i, .inHand => portalInHand e i p
  | .portal i, .inService => portalInService e i p
  | .zone z, .outOfService => zoneOut e z p
  | .zone z, .inHand => zoneInHand e z p
  | .zone _, .inService => p
  | .outfall, _ => p

/-- The service state is recorded, the entry actions are carried out, and governance and demand source are set again (R34
steps 1 to 3); the unit is reported. -/
def recordService (u : UnitId) (v : Service) (s : State) : State :=
  let e := { s.env with cfg := s.env.cfg.setService u v }
  let s1 := resolve [u] { s with env := e, plant := enterService e u v s.plant }
  { s1 with plant := report s1.env (.unit u) none s1.plant }

/-- A budgeted zone leaves OUT_OF_SERVICE: the arbiter makes room for its shed load (R104). -/
def needsRoom (u : UnitId) (old new : Service) : Bool :=
  match u with
  | .zone z => z != .z6 && old == .outOfService && new != .outOfService
  | _ => false

/-- An accepted change of service state (R34). -/
def changeService (u : UnitId) (v : Service) (s : State) : State :=
  let s1 := recordService u v s
  settle (if needsRoom u (serviceOf s.env.cfg u) v then { s1 with plant := makeRoom s1.env 10 s1.plant } else s1)

/-- The present service state is answered DONE and changes nothing (R34). -/
def acceptService (u : UnitId) (v : Service) (s : State) : State × Answer :=
  if serviceOf s.env.cfg u = v then (s, .done []) else (changeService u v s, .done [])

/-- SET SERVICE: unit, service state (R34). -/
def handleSetService (l : Link) (body : List Byte) (s : State) : State × Answer :=
  match body with
  | [ub, vb] =>
    guarded
      [(l == .panel, .noAuthority), (notSaving s, .busy), ((unitOf ub).isSome, .noSuchUnit), ((serviceCode vb).isSome, .badField),
       (unitOf ub != some .outfall, .wrongState)]
      (fun s =>
        match unitOf ub, serviceCode vb with
        | some u, some v => acceptService u v s
        | _, _ => (s, .refuse .badField)) s
  | _ => (s, .refuse .badLength)

/-- SET SERVICE (R34). -/
def execSetService (l : Link) (tag : Byte) (body : List Byte) (s : State) : Host.Outcome State Fault Refusal :=
  .next (takeRequest l 0x11 tag (handleSetService l body) s)

/-! ### HAND DRIVE (R39 to R43) -/

/-- The drives of R39, each with its unit. -/
inductive Drive where
  | pump (i : PumpId) (on : Bool)
  | motion (i : PortalId) (m : HandMotion)
  | gateStop (i : PortalId)
  | barrierStop (i : PortalId)
  | signal (i : PortalId) (a : Aspect)
  | level (z : ZoneId) (n : Nat)
  deriving DecidableEq, Repr

/-- A portal's drive by its number in the order of R39; an argument other than 00h fits only SIGNAL (R173, log 10). -/
def portalDrive (i : PortalId) (d arg : Nat) (aspect : Option Aspect) : Option Drive :=
  if d = 7 then aspect.map (.signal i)
  else if arg ≠ 0 then none
  else
    match d with
    | 1 => some (.motion i .gateOpening)
    | 2 => some (.motion i .gateClosing)
    | 3 => some (.gateStop i)
    | 4 => some (.motion i .barrierRising)
    | 5 => some (.motion i .barrierLowering)
    | 6 => some (.barrierStop i)
    | _ => none

/-- The drive that a HAND DRIVE body names, if it belongs to the unit's kind (R39 step 5). -/
def driveOf (u : UnitId) (d arg : Byte) : Option Drive :=
  match u with
  | .pump i =>
    if arg.toNat = 0 ∧ d.toNat = 1 then some (.pump i true)
    else if arg.toNat = 0 ∧ d.toNat = 2 then some (.pump i false)
    else none
  | .portal i => portalDrive i d.toNat arg.toNat (aspectOf arg)
  | .zone z =>
    if d.toNat = 1 ∧ arg.toNat ≤ 100 ∧ (z = .z6 → arg.toNat = 0 ∨ arg.toNat = 100) then some (.level z arg.toNat) else none
  | .outfall => none

/-- The drive's own precondition (R41, R42). -/
def driveReady (e : Env) (p : Plant) : Drive → Bool
  | .motion i .gateClosing => (e.portalPins i).barrierLowered && (p.portals.get i).signal == .red
  | .motion i .barrierRising => (e.portalPins i).gateOpen
  | .signal i a => a == .red || (p.portals.get i).motion != .gateClosing
  | _ => true

/-- The hand setting is recorded and the driving block acts on it (R40 to R43). -/
def applyDrive (e : Env) (d : Drive) (p : Plant) : Plant :=
  match d with
  | .pump i on => putPump e i { p.pumps.get i with hand := on } p
  | .motion i m => setHand e i m p
  | .gateStop i => if (p.portals.get i).motion.ofGate then endHand e i .stop p else p
  | .barrierStop i => if (p.portals.get i).motion.ofBarrier then endHand e i .stop p else p
  | .signal i a => putPortal e i { p.portals.get i with signal := a } p
  | .level z n => putZone e z { p.zones.get z with hand := n } p

/-- An accepted HAND DRIVE. -/
def acceptDrive (d : Drive) (s : State) : State := settle { s with plant := applyDrive s.env d s.plant }

/-- HAND DRIVE: unit, drive, argument (R39, R173). -/
def handleHandDrive (l : Link) (body : List Byte) (s : State) : State × Answer :=
  match body with
  | [ub, db, ab] =>
    match unitOf ub with
    | none => (s, .refuse (if l = .panel then .noSuchUnit else .noAuthority))
    | some u =>
      let d := driveOf u db ab
      guarded
        [(l == .panel, .noAuthority), (u != .outfall, .wrongState), (d.isSome, .badField), (!s.plant.locked u, .unitLocked),
         (serviceOf s.env.cfg u == .inHand, .wrongState), (d.any (driveReady s.env s.plant), .wrongState)]
        (fun s =>
          match d with
          | some d => (acceptDrive d s, .done [])
          | none => (s, .refuse .badField)) s
  | _ => (s, .refuse .badLength)

/-- HAND DRIVE (R39). -/
def execHandDrive (l : Link) (tag : Byte) (body : List Byte) (s : State) : Host.Outcome State Fault Refusal :=
  .next (takeRequest l 0x12 tag (handleHandDrive l body) s)

/-! ### RESET FAULT (R45 to R47) -/

/-- The unit has a fault (R45 step 4). -/
def hasFault (e : Env) (p : Plant) : UnitId → Bool
  | .pump i => (p.pumps.get i).run == .faulted
  | .portal i => (p.portals.get i).seq == .jammed || (e.cfg.portalService.get i == .inHand && (p.portals.get i).jam.isSome)
  | _ => false

/-- The fault's cause input is inactive (R45 step 5, R46, R47). -/
def causeGone (e : Env) (p : Plant) : UnitId → Bool
  | .pump i => !((p.pumps.get i).fault == some .thermal && e.pins.thermal.get i)
  | .portal i => !((p.portals.get i).jam == some .edge && (e.portalPins i).edge)
  | _ => true

/-- A pump's reset: the fault is cleared and a rest begins (R46). -/
def resetPump (e : Env) (i : PumpId) (p : Plant) : Plant :=
  putPump e i ({ p.pumps.get i with fault := none }.toRest e.clock (e.cfg.pumps.get i).minRest) p

/-- A locked portal's reset: the lock places it in HELD with the state it jammed in (R133). -/
def resetLocked (e : Env) (i : PortalId) (st : Seq) (p : Plant) : Plant :=
  let q := p.portals.get i
  putPortal e i
    { q with seq := .held, resume := some st, jam := none, retries := 0, travel := .held 0, signal := st.aspect.getD q.signal } p

/-- A portal's reset (R47, R135): in service it returns to its resume state with a fresh travel timer; in hand the jam and the
resume state are discarded, and a hand motion ends with STOP (log 45). -/
def resetPortal (e : Env) (i : PortalId) (p : Plant) : Plant :=
  let q := p.portals.get i
  let p1 := if q.seq = .hand then stopHand e i p else p
  let cleared := putPortal e i { p1.portals.get i with jam := none, resume := none, retries := 0 } p1
  match q.seq, q.resume with
  | .jammed, some st => if p.locked (.portal i) then resetLocked e i st p else toStep e i st (.held 0) cleared
  | _, _ => cleared

/-- An accepted RESET FAULT; the unit is reported (R45). -/
def acceptReset (u : UnitId) (s : State) : State :=
  let p :=
    match u with
    | .pump i => resetPump s.env i s.plant
    | .portal i => resetPortal s.env i s.plant
    | _ => s.plant
  settle { s with plant := report s.env (.unit u) none p }

/-- RESET FAULT: unit (R45). -/
def handleResetFault (body : List Byte) (s : State) : State × Answer :=
  match body with
  | [ub] =>
    match unitOf ub with
    | none => (s, .refuse .noSuchUnit)
    | some u =>
      guarded
        [(kindCode u == 1 || kindCode u == 2, .wrongState), (hasFault s.env s.plant u, .wrongState),
         (causeGone s.env s.plant u, .wrongState)]
        (fun s => (acceptReset u s, .done [])) s
  | _ => (s, .refuse .badLength)

/-- RESET FAULT (R45). -/
def execResetFault (l : Link) (tag : Byte) (body : List Byte) (s : State) : Host.Outcome State Fault Refusal :=
  .next (takeRequest l 0x14 tag (handleResetFault body) s)

end Sys2Proof.Machine
end

