-- ==== Sys2Proof/Machine/Dispatch.lean ====
section
/-! DEFINITION. What each command does: one arm for each row of spec/opcode_table.json. -/

namespace Sys2Proof.Machine

def exec (i : Instr) (s : State) : Host.Outcome State Fault Refusal :=
  match i with
  | .place l tag body => Sys2Proof.Machine.execPlace l tag body s
  | .amend l tag body => Sys2Proof.Machine.execAmend l tag body s
  | .withdraw l tag body => Sys2Proof.Machine.execWithdraw l tag body s
  | .lookupOrder l tag body => Sys2Proof.Machine.execLookupOrder l tag body s
  | .listOrders l tag body => Sys2Proof.Machine.execListOrders l tag body s
  | .setAuthority l tag body => Sys2Proof.Machine.execSetAuthority l tag body s
  | .readUnit l tag body => Sys2Proof.Machine.execReadUnit l tag body s
  | .setService l tag body => Sys2Proof.Machine.execSetService l tag body s
  | .handDrive l tag body => Sys2Proof.Machine.execHandDrive l tag body s
  | .setUnitConfig l tag body => Sys2Proof.Machine.execSetUnitConfig l tag body s
  | .resetFault l tag body => Sys2Proof.Machine.execResetFault l tag body s
  | .readSump l tag body => Sys2Proof.Machine.execReadSump l tag body s
  | .setSumpConfig l tag body => Sys2Proof.Machine.execSetSumpConfig l tag body s
  | .restartSection l tag body => Sys2Proof.Machine.execRestartSection l tag body s
  | .setRingOrder l tag body => Sys2Proof.Machine.execSetRingOrder l tag body s
  | .readPlant l tag body => Sys2Proof.Machine.execReadPlant l tag body s
  | .setSupplyConfig l tag body => Sys2Proof.Machine.execSetSupplyConfig l tag body s
  | .setLuminanceConfig l tag body => Sys2Proof.Machine.execSetLuminanceConfig l tag body s
  | .setLinkConfig l tag body => Sys2Proof.Machine.execSetLinkConfig l tag body s
  | .readAlerts l tag body => Sys2Proof.Machine.execReadAlerts l tag body s
  | .ackAlerts l tag body => Sys2Proof.Machine.execAckAlerts l tag body s
  | .setAlertMasks l tag body => Sys2Proof.Machine.execSetAlertMasks l tag body s
  | .readChanges l tag body => Sys2Proof.Machine.execReadChanges l tag body s
  | .clearChanges l tag body => Sys2Proof.Machine.execClearChanges l tag body s
  | .setReporting l tag body => Sys2Proof.Machine.execSetReporting l tag body s
  | .saveConfig l tag body => Sys2Proof.Machine.execSaveConfig l tag body s
  | .restartController l tag body => Sys2Proof.Machine.execRestartController l tag body s
  | .unknownKind l kind tag body => Sys2Proof.Machine.execUnknownKind l kind tag body s
  | .frameDiscarded l frame => Sys2Proof.Machine.execFrameDiscarded l frame s
  | .frameAbandoned l late => Sys2Proof.Machine.execFrameAbandoned l late s
  | .replyStart l => Sys2Proof.Machine.execReplyStart l s
  | .replyEnd l boot => Sys2Proof.Machine.execReplyEnd l boot s
  | .lockoutWriteEnd how => Sys2Proof.Machine.execLockoutWriteEnd how s
  | .saveEnd how => Sys2Proof.Machine.execSaveEnd how s
  | .startUp pins cutInside boot => Sys2Proof.Machine.execStartUp pins cutInside boot s
  | .orderExpiry number => Sys2Proof.Machine.execOrderExpiry number s
  | .keySwitchChange k on => Sys2Proof.Machine.execKeySwitchChange k on s
  | .keyDebounceExpiry k => Sys2Proof.Machine.execKeyDebounceExpiry k s
  | .sumpSample u countA countB => Sys2Proof.Machine.execSumpSample u countA countB s
  | .floatInputChange u f closed => Sys2Proof.Machine.execFloatInputChange u f closed s
  | .floatDebounceExpiry u f => Sys2Proof.Machine.execFloatDebounceExpiry u f s
  | .stageHoldExpiry u => Sys2Proof.Machine.execStageHoldExpiry u s
  | .dryRunInputChange n active => Sys2Proof.Machine.execDryRunInputChange n active s
  | .dryRunStop n => Sys2Proof.Machine.execDryRunStop n s
  | .runningFeedbackChange n active => Sys2Proof.Machine.execRunningFeedbackChange n active s
  | .noStart n => Sys2Proof.Machine.execNoStart n s
  | .lostRun n => Sys2Proof.Machine.execLostRun n s
  | .thermalTrip n active => Sys2Proof.Machine.execThermalTrip n active s
  | .surgeEnd n => Sys2Proof.Machine.execSurgeEnd n s
  | .minRunExpiry n => Sys2Proof.Machine.execMinRunExpiry n s
  | .restEnd n => Sys2Proof.Machine.execRestEnd n s
  | .startListEntryExpiry n => Sys2Proof.Machine.execStartListEntryExpiry n s
  | .supplyInputChange gridOk standbyOk => Sys2Proof.Machine.execSupplyInputChange gridOk standbyOk s
  | .transferTimeout => Sys2Proof.Machine.execTransferTimeout s
  | .spacingExpiry => Sys2Proof.Machine.execSpacingExpiry s
  | .waitLimitReached u => Sys2Proof.Machine.execWaitLimitReached u s
  | .warningExpiry n => Sys2Proof.Machine.execWarningExpiry n s
  | .limitSwitchChange n sw active => Sys2Proof.Machine.execLimitSwitchChange n sw active s
  | .travelTimerExpiry n => Sys2Proof.Machine.execTravelTimerExpiry n s
  | .handTravelExpiry n => Sys2Proof.Machine.execHandTravelExpiry n s
  | .occupancyLoopChange lp occupied => Sys2Proof.Machine.execOccupancyLoopChange lp occupied s
  | .clearConfirmExpiry n => Sys2Proof.Machine.execClearConfirmExpiry n s
  | .clearLimitExpiry n => Sys2Proof.Machine.execClearLimitExpiry n s
  | .safetyEdgeChange n active => Sys2Proof.Machine.execSafetyEdgeChange n active s
  | .retryDelayExpiry n => Sys2Proof.Machine.execRetryDelayExpiry n s
  | .luminanceSample d count => Sys2Proof.Machine.execLuminanceSample d count s
  | .luminanceLoss d => Sys2Proof.Machine.execLuminanceLoss d s
  | .deficitMeasurement z count => Sys2Proof.Machine.execDeficitMeasurement z count s
  | .rampStep z => Sys2Proof.Machine.execRampStep z s
  | .moderationExpiry l => Sys2Proof.Machine.execModerationExpiry l s
  | .faultyFrameByte l why => Sys2Proof.Machine.execFaultyFrameByte l why s

end Sys2Proof.Machine
end

