-- ==== Sys2Proof/Machine/Time.lean ====
section
/-! DEFINITION. The passing of time (log 2): which event a running timer has made due, in a fixed order (log 35), and the tick of one
millisecond. Samples, measurements, replies and ends of writes are not made due by time (log 33, 34, 36). -/

namespace Sys2Proof.Machine

/-- The commands of a list whose condition holds. -/
def dueOf (l : List (Bool × Instr)) : List Instr := (l.filter Prod.fst).map Prod.snd

/-- Expired orders (R22), in table order. -/
def dueOrders (e : Env) : List Instr := (e.table.filter (orderDue e)).map (fun o => .orderExpiry o.number)

/-- A key switch's due event (R25). -/
def dueKey (e : Env) (k : PortalId) : List Instr := dueOf [(keyDue e k, .keyDebounceExpiry k)]

/-- A sump's due events: floats (R60), hold (R64). -/
def dueSump (e : Env) (u : SumpId) : List Instr :=
  dueOf
    [(floatDue e u .high, .floatDebounceExpiry u .high), (floatDue e u .extreme, .floatDebounceExpiry u .extreme),
     (holdDue e u, .stageHoldExpiry u)]

/-- A pump's due events (R86, R87, R89, R90, R92, R94). -/
def duePump (e : Env) (p : Plant) (i : PumpId) : List Instr :=
  dueOf
    [(confirmDue e p i, .noStart i), (lostRunDue e p i, .lostRun i), (dryRunDue e p i, .dryRunStop i), (surgeDue e p i, .surgeEnd i),
     (minRunDue e p i, .minRunExpiry i), (restDue e p i, .restEnd i), (startEntryDue e p i, .startListEntryExpiry i)]

/-- The arbiter's due events (R98, R109, R111). -/
def dueArbiter (e : Env) (p : Plant) : List Instr :=
  dueOf [(transferDue e p, .transferTimeout), (spacingDue e p, .spacingExpiry)] ++
    (p.arb.queue.filter (fun r => waitDue e p r.unit)).map (fun r => .waitLimitReached r.unit)

/-- A portal's due events (R120, R122, R124, R125, R127, R41). -/
def duePortal (e : Env) (p : Plant) (i : PortalId) : List Instr :=
  dueOf
    [(warningDue e p i, .warningExpiry i), (travelDue e p i, .travelTimerExpiry i), (handTravelDue e p i, .handTravelExpiry i),
     (clearConfirmDue e p i, .clearConfirmExpiry i), (clearLimitDue e p i, .clearLimitExpiry i), (retryDue e p i, .retryDelayExpiry i)]

/-- A side's due event (R143). -/
def dueSide (e : Env) (d : Side) : List Instr := dueOf [(lossDue e d, .luminanceLoss d)]

/-- A zone's due event (R152). -/
def dueZone (e : Env) (p : Plant) (z : ZoneId) : List Instr := dueOf [(rampDue e p z, .rampStep z)]

/-- A link's due event (R181). -/
def dueLink (e : Env) (p : Plant) (l : Link) : List Instr := dueOf [(moderationDue e p l, .moderationExpiry l)]

/-- Every due event, in the order in which the idle step takes them (log 35). -/
def dueEvents (s : State) : List Instr :=
  dueOrders s.env ++ PortalId.every.flatMap (dueKey s.env) ++ SumpId.every.flatMap (dueSump s.env) ++
    PumpId.every.flatMap (duePump s.env s.plant) ++ dueArbiter s.env s.plant ++ PortalId.every.flatMap (duePortal s.env s.plant) ++
    dueSide s.env .east ++ dueSide s.env .west ++ ZoneId.every.flatMap (dueZone s.env s.plant) ++ dueLink s.env s.plant .field ++
    dueLink s.env s.plant .panel

/-- The event that the idle step takes next, if a timer has run out. -/
def nextDue (s : State) : Option Instr := (dueEvents s).head?

/-- One millisecond passes: on the clock, and on the lines (log 17). -/
def tick (s : State) : State :=
  { s with env := { s.env with clock := s.env.clock + 1 }, links := passLinks s.links }

end Sys2Proof.Machine
end

