-- ==== Sys2Proof/Machine/Idle.lean ====
section
/-! DEFINITION. The idle step (log 2). -/

namespace Sys2Proof.Machine

/-- A character has ended on a line: the command that it completes runs, or else the receiver goes on (R159, log 17). -/
def takeChar (l : Link) (c : LineChar) (s : State) : Host.Outcome State Fault Refusal :=
  match charEvent s l c with
  | .inl cmd => exec cmd (dropChar l s)
  | .inr rx => .next (putPort l { s.port l with rx := rx } (dropChar l s))

/-- What the block does on an empty queue (log 2): the first due event, else a character that has ended, else one millisecond. -/
def idle (s : State) : Host.Outcome State Fault Refusal :=
  match nextDue s with
  | some c => exec c s
  | none =>
    match arrivedChar s .field, arrivedChar s .panel with
    | some c, _ => takeChar .field c s
    | none, some c => takeChar .panel c s
    | none, none => .next (tick s)

end Sys2Proof.Machine
end

