-- ==== Sys2Proof/Safety.lean ====
section
/-! DEFINITION. What counts as a safe state of the plant, and the invariants that the spec's rules promise of every state that a run
reaches. A run is safe when every state of it is. -/

namespace Sys2Proof.Machine

/-! ### The terms of the claims -/

/-- A request of the table as its port takes it: link, kind, tag and body (R160 to R162, R171). -/
def requestOf : Instr → Option (Link × Byte × Byte × List Byte)
  | .place l t b => some (l, 0x01, t, b)
  | .amend l t b => some (l, 0x02, t, b)
  | .withdraw l t b => some (l, 0x03, t, b)
  | .lookupOrder l t b => some (l, 0x04, t, b)
  | .listOrders l t b => some (l, 0x05, t, b)
  | .setAuthority l t b => some (l, 0x06, t, b)
  | .readUnit l t b => some (l, 0x10, t, b)
  | .setService l t b => some (l, 0x11, t, b)
  | .handDrive l t b => some (l, 0x12, t, b)
  | .setUnitConfig l t b => some (l, 0x13, t, b)
  | .resetFault l t b => some (l, 0x14, t, b)
  | .readSump l t b => some (l, 0x18, t, b)
  | .setSumpConfig l t b => some (l, 0x19, t, b)
  | .restartSection l t b => some (l, 0x1A, t, b)
  | .setRingOrder l t b => some (l, 0x1B, t, b)
  | .readPlant l t b => some (l, 0x20, t, b)
  | .setSupplyConfig l t b => some (l, 0x21, t, b)
  | .setLuminanceConfig l t b => some (l, 0x22, t, b)
  | .setLinkConfig l t b => some (l, 0x23, t, b)
  | .readAlerts l t b => some (l, 0x28, t, b)
  | .ackAlerts l t b => some (l, 0x29, t, b)
  | .setAlertMasks l t b => some (l, 0x2A, t, b)
  | .readChanges l t b => some (l, 0x2B, t, b)
  | .clearChanges l t b => some (l, 0x2C, t, b)
  | .setReporting l t b => some (l, 0x2D, t, b)
  | .saveConfig l t b => some (l, 0x30, t, b)
  | .restartController l t b => some (l, 0x31, t, b)
  | .unknownKind l k t b => if kindUnlisted k then some (l, k, t, b) else none
  | _ => none

/-- A request has been answered: its owner left the state `s'`, the receiver hunts, and the slot holds the reply (R161, R163). -/
def replied (l : Link) (kind tag : Byte) (code : Code) (payload : List Byte) (s' : State) : State :=
  putPort l { s'.port l with rx := .hunting, slot := .waiting ⟨kind, tag, code, payload⟩ } s'

/-- A request has been answered and its reply waits for the lockout write, after whose failure it carries the numbers alone (R28, R166). -/
def repliedLater (l : Link) (kind tag : Byte) (payload numbers : List Byte) (s' : State) : State :=
  putPort l { s'.port l with rx := .hunting, slot := .deferred ⟨kind, tag, .done, payload⟩ numbers } s'

/-! ### Attention Unit -/

/-- R177: the relay is energised exactly while no unmasked cause is present. -/
def RelayOk (s : State) : Prop := s.plant.attn.relayOn = relayRule s.plant.attn.present s.env.cfg.masks

/-- R179, R181: at most 64 entries, no two that name the same record, and no moderation timer beside an empty set. -/
def ChangedSetOk (c : ChangedSet) : Prop :=
  c.entries.length ≤ Config.changedSetLimit ∧ (c.entries.map Entry.key).Nodup ∧ (c.entries = [] → c.timer = .stopped)

/-- Both changed sets are in order. -/
def ChangesOk (s : State) : Prop := ∀ l : Link, ChangedSetOk (s.plant.attn.sets.get l)

/-! ### Sump Measurement -/

/-- R50: the ranges of a section's fields; a step-down candidate stands exactly while the hold timer runs; FLOAT and BARRED have
neither rate nor forecast (R54, R56). -/
def SectionOk (m : Section) : Prop :=
  (∀ f, m.level = some f → f ≤ 9999) ∧
  (∀ r, m.rate = some r → -9999 ≤ r ∧ r ≤ 9999) ∧
  (∀ f, m.level10 = some f → f ≤ 9999) ∧
  m.rateCount ≤ 39 ∧
  (∀ n, m.forecast = some n → 1 ≤ n ∧ n ≤ 9999) ∧
  m.invalidCount ≤ 8 ∧
  m.stage ≤ 4 ∧
  (∀ c, m.candidate = some c → c ≤ 3) ∧
  (m.hold = .stopped ↔ m.candidate = none) ∧
  (m.mode = .float ∨ m.mode = .barred → m.rate = none ∧ m.forecast = none)

/-- Every section is in order, and the underpass stage is the greatest of the sump stages (R66). -/
def SectionsOk (s : State) : Prop :=
  (∀ u : SumpId, SectionOk (s.env.sumps.get u)) ∧ s.env.underpass = underpassOf s.env.sumps

/-! ### Order Table -/

/-- R23, R24: no STANDING order has been outrun by its relevant stage, and the underpass stage is the greatest of the sump
stages (R66). -/
def YieldOk (s : State) : Prop :=
  s.env.underpass = underpassOf s.env.sumps ∧
  ∀ o ∈ s.env.table, o.rank = .standing →
    s.env.relevantStage o.unit < effectiveYield s.env.cfg o.issuer o.yieldStage

/-- The lockouts that an area of the store, or a write to it, holds can be restored: at most 30, with numbers 1 .. 65535, no two
alike in number, or in holder and unit (R5, R30, R188). -/
def LocksOk (l : List StoredLock) : Prop :=
  l.length ≤ Config.linkOrderLimit ∧ (l.map StoredLock.number).Nodup ∧ (∀ k ∈ l, 1 ≤ k.number ∧ k.number ≤ 65535) ∧
    (l.map (fun k => (k.holder, k.unit))).Nodup

/-- The lockouts of a store write. -/
def WriteOk : Write → Prop
  | .image _ => True
  | .locks l => LocksOk l

/-- FIELD's authority map holds LOCKOUT for no unit (R7, R8). -/
def FieldCannotLock (c : WorkConfig) : Prop := ∀ u : UnitId, (c.authority.field.ranks.get u).lockout = false

/-- The same of the configuration of an image write. -/
def ImageCannotLock : Write → Prop
  | .image c => FieldCannotLock c
  | .locks _ => True

/-- R5, R6, R25, R26: numbers 1 .. 65535 and no two alike; no two orders alike in issuer, holder and unit; at most 30 from the
links; the KEY order of a switch stands exactly while its debounced state is on, and no other KEY order does; lockouts come from
the panel alone; and what the store holds for the next start-up is in order too. -/
def TableOk (s : State) : Prop :=
  (s.env.table.map Order.number).Nodup ∧
  (∀ o ∈ s.env.table, 1 ≤ o.number ∧ o.number ≤ 65535) ∧
  (1 ≤ s.env.counter ∧ s.env.counter ≤ 65535) ∧
  (s.env.table.map (fun o => (o.issuer, o.holder, o.unit))).Nodup ∧
  s.env.table.countP Order.fromLink ≤ Config.linkOrderLimit ∧
  (∀ o ∈ s.env.table, o.issuer = .key →
    ∃ k : PortalId, o.holder = keyHolder k ∧ o.unit = .portal k ∧ o.rank = .overriding ∧ o.verb = .close ∧
      o.expiresAt = none ∧ (s.env.keys.get k).on = true) ∧
  (∀ k : PortalId, (s.env.keys.get k).on = true → ∃ o ∈ s.env.table, o.issuer = .key ∧ o.holder = keyHolder k) ∧
  (∀ o ∈ s.env.table, o.rank = .lockout → o.issuer = .panel) ∧
  (∀ l, s.store.lockArea = some l → LocksOk l) ∧
  (∀ w, s.store.inProgress = some w → WriteOk w ∧ ImageCannotLock w) ∧
  (∀ w, s.store.waiting = some w → WriteOk w ∧ ImageCannotLock w) ∧
  FieldCannotLock s.env.cfg ∧
  (∀ c, s.store.image = some c → FieldCannotLock c)

/-- R9, R11, R33: every order's governance, and every unit's lock flag, governing order and demand source, are those that the
table and the service states give. -/
def GovernanceOk (s : State) : Prop :=
  (∀ o ∈ s.env.table, o.governance = governanceOf s.env.cfg s.env.table o) ∧
  ∀ u : UnitId, s.plant.units.get u = unitRecOf s.env.cfg s.env.table u

/-! ### Pump Duty and the start queue -/

/-- R77, R85, R88, R94, R106: a pump is FAULTED exactly while it has a fault kind; its start list holds at most 12 entries; its
request is in the start queue exactly while it is QUEUED; and out of service it is STOPPED, RESTING or FAULTED. -/
def PumpsOk (s : State) : Prop :=
  ∀ i : PumpId,
    ((s.plant.pumps.get i).run = .faulted ↔ (s.plant.pumps.get i).fault ≠ none) ∧
    (s.plant.pumps.get i).starts.length ≤ Config.startListLimit ∧
    ((s.plant.pumps.get i).run = .queued ↔ s.plant.queued (.pump i) = true) ∧
    (s.env.cfg.pumpService.get i = .outOfService →
      (s.plant.pumps.get i).live = false ∧ (s.plant.pumps.get i).run ≠ .queued)

/-- R86, R112: every STARTING or RUNNING pump and every portal with a permit has been granted, so the order of latest grants names
it; and that order names no unit twice. -/
def GrantsNoted (s : State) : Prop :=
  (∀ i : PumpId, (s.plant.pumps.get i).live = true → UnitId.pump i ∈ s.plant.arb.grantOrder) ∧
  (∀ i : PortalId, (s.plant.portals.get i).permit = true → UnitId.portal i ∈ s.plant.arb.grantOrder) ∧
  s.plant.arb.grantOrder.Nodup

/-- R95: the number of pumps STARTING or RUNNING is within the limit in force on the outfall, if one is in force. -/
def LimitOk (s : State) : Prop := ∀ n, limitInForce s.env s.plant = some n → liveCount s.plant ≤ n

/-- R106: a unit has at most one request in the start queue. -/
def QueueOk (s : State) : Prop := (s.plant.arb.queue.map Request.unit).Nodup

/-- R74, R79: every ring holds 1 .. 4 pumps; a pump stands in the ring of its sump setting once, and in no other; a ring's lead is one
of its positions, and each position has its latch. -/
def RingsIn (c : WorkConfig) : Prop :=
  ∀ u : SumpId, 1 ≤ (c.sumps.get u).ring.length ∧ (c.sumps.get u).ring.length ≤ 4 ∧ (c.sumps.get u).ring.Nodup ∧
    (c.sumps.get u).positions.length = 4 ∧ ∀ i : PumpId, i ∈ (c.sumps.get u).ring ↔ (c.pumps.get i).sump = u

/-- The duty state of a sump fits its ring. -/
def DutyFits (c : WorkConfig) (d : PerSump Duty) : Prop :=
  ∀ u : SumpId, 1 ≤ (d.get u).lead ∧ (d.get u).lead ≤ (c.sumps.get u).ring.length ∧
    (d.get u).latches.length = (c.sumps.get u).ring.length

/-- The rings of an image write. -/
def ImageOk : Write → Prop
  | .image c => RingsIn c
  | .locks _ => True

/-- The rings are in order, and so are those of every configuration that the store holds. -/
def RingsOk (s : State) : Prop :=
  RingsIn s.env.cfg ∧ DutyFits s.env.cfg s.plant.duty ∧
  (∀ c, s.store.image = some c → RingsIn c) ∧
  (∀ w, s.store.inProgress = some w → ImageOk w) ∧
  (∀ w, s.store.waiting = some w → ImageOk w)

/-! ### Portals: the guards of R42 and R130 -/

/-- One portal: HAND and OUT go with its service state (R115); the signal shows the aspect of its state (R116); a gate closing in hand
stands behind a RED signal (R42); a permit is held only for a motor (R112); the gate is driven toward closed only with the barrier
at its lowered limit (R42, R126); and LIFTING drives the barrier only with the gate at its open limit (R130). -/
def PortalOk (e : Env) (i : PortalId) (q : Portal) : Prop :=
  (e.cfg.portalService.get i = .inHand ↔ q.seq = .hand) ∧
  (e.cfg.portalService.get i = .outOfService ↔ q.seq = .out) ∧
  (∀ a, q.seq.aspect = some a → q.signal = a) ∧
  (q.seq = .hand → q.motion = .gateClosing → q.signal = .red) ∧
  (q.permit = true → q.wantsMotor ≠ none) ∧
  (q.motor = some .gateClose → (e.portalPins i).barrierLowered = true) ∧
  (q.seq = .lifting → q.permit = true → (e.portalPins i).gateOpen = true)

/-- A locked portal (R38, R132, R133): no permit, no sequence under way and no hand motion. -/
def PortalStill (q : Portal) : Prop :=
  q.permit = false ∧ q.seq.motionStep = false ∧ q.seq ≠ .warning ∧ q.seq ≠ .clearing ∧ (q.seq = .hand → q.motion = .none)

/-- Both portals are in order, and a locked one is still. -/
def PortalsOk (s : State) : Prop :=
  ∀ i : PortalId, PortalOk s.env i (s.plant.portals.get i) ∧
    (s.plant.locked (.portal i) = true → PortalStill (s.plant.portals.get i))

/-- The gate's guard by itself (R42): no gate is driven toward closed unless its barrier is at the lowered limit and its signal
shows RED. -/
def GateGuarded (s : State) : Prop :=
  ∀ i : PortalId, (s.plant.portals.get i).motor = some .gateClose →
    (s.env.portalPins i).barrierLowered = true ∧ (s.plant.portals.get i).signal = .red

/-! ### Locks -/

/-- R11: the outputs of a locked unit are de-energised. -/
def LockedStill (s : State) : Prop :=
  (∀ i : PumpId, s.plant.locked (.pump i) = true → (s.plant.pumps.get i).live = false) ∧
  (∀ i : PortalId, s.plant.locked (.portal i) = true → (s.plant.portals.get i).motor = none) ∧
  (∀ z : ZoneId, s.plant.locked (.zone z) = true →
    (s.plant.zones.get z).output = 0 ∧ (s.plant.zones.get z).ramp = .none)

/-! ### The committed load -/

/-- The committed load (R102). -/
def committedLoad (s : State) : Nat := nonLampLoad s.env s.plant + lampLoad s.env s.plant

/-- R102: the committed load is within the budget in force. -/
def BudgetOk (s : State) : Prop := committedLoad s ≤ budget s.env s.plant

/-- The shed loads of all five zones fit within either budget (R44, R103, R105). -/
def ShedsIn (c : WorkConfig) : Prop := shedOfAll c ≤ min c.supply.grid c.supply.standby

/-- The sheds of an image write. -/
def ImageShedsIn : Write → Prop
  | .image c => ShedsIn c
  | .locks _ => True

/-- What keeps the committed load within the budget from step to step: even if every zone rose to its allowance the load would fit
(R102, R113); in GRID and STANDBY the non-lamp load fits beside the shed reservation (R103, R104, R107); the sheds of every
configuration fit (R44, R105); and a zone or portal out of service draws nothing. -/
def LoadOk (s : State) : Prop :=
  nonLampLoad s.env s.plant +
      (budgetZones.map (fun z => zoneLoad s.env z (max (s.plant.zones.get z).output (s.plant.zones.get z).allowance))).sum
    ≤ budget s.env s.plant ∧
  (s.plant.arb.supply.powered = true → nonLampLoad s.env s.plant + shedReservation s.env.cfg ≤ budget s.env s.plant) ∧
  ShedsIn s.env.cfg ∧
  (∀ c, s.store.image = some c → ShedsIn c) ∧
  (∀ w, s.store.inProgress = some w → ImageShedsIn w) ∧
  (∀ w, s.store.waiting = some w → ImageShedsIn w) ∧
  (∀ z ∈ budgetZones, s.env.cfg.zoneService.get z = .outOfService →
    (s.plant.zones.get z).output = 0 ∧ (s.plant.zones.get z).allowance = 0) ∧
  (∀ i : PortalId, s.env.cfg.portalService.get i = .outOfService → (s.plant.portals.get i).permit = false)

/-! ### Runs -/

/-- What comes to the block from outside at one moment: after so many more steps, commands for the queue (log 5) and characters on the
lines (log 17). -/
structure Arrival where
  steps : Nat
  commands : List Instr
  chars : PerLink (List LineChar)
  deriving DecidableEq, Repr

/-- The state when they have come, each behind those that wait. -/
def State.arrive (a : Arrival) (s : State) : State :=
  { s with
    pending := s.pending ++ a.commands
    links := { s.links with lines := ⟨s.links.lines.field ++ a.chars.field, s.links.lines.panel ++ a.chars.panel⟩ } }

/-- A run over a schedule: the steps before each arrival are taken, then it comes. -/
def runSchedule : List Arrival → State → Host.Outcome State Fault Refusal
  | [], s => .next s
  | a :: rest, s =>
    match Host.Core.run core a.steps s with
    | .next t => runSchedule rest (t.arrive a)
    | .fault f => .fault f
    | .refused r => .refused r

/-- A safe state: the load is within the budget, the gates are guarded, locked units are still, and the outfall limit is kept. -/
def Safe (s : State) : Prop := BudgetOk s ∧ GateGuarded s ∧ LockedStill s ∧ LimitOk s

end Sys2Proof.Machine
end

