-- ==== Sys2Proof/Certificates/Slice0/Obligations.lean ====
section
/-! DEFINITION. The statements for the provers. Each is a rule of spec/ about what a command or the whole block does, or, where its
docstring says so, a choice of the model with the log entry that names it. Where a statement speaks of `settle`, the plant's
blocks act on what the event has changed (log 19); what stands before it is the command's own effect. -/

open Sys2Proof Sys2Proof.Machine

/-! ### The queue of commands and the passing of time -/

/-- The command at the front of the queue is taken (log 1). -/
def Obligations.StepRunsFrontCommand : Prop :=
  ∀ (c : Instr) (rest : List Instr) (s : State), s.pending = c :: rest → step s = exec c { s with pending := rest }

/-- On an empty queue an event that a timer has made due is taken; else a character that has ended on a line, the field link's first; else
one millisecond passes: on the clock, and on each line, where the first character comes nearer to its end and, while the line is
quiet, an ASSEMBLING receiver counts the millisecond (the model's choices, log 2 and log 17). -/
def Obligations.IdleStepTakesDueEventOrTick : Prop :=
  ∀ s : State, s.pending = [] →
    (∀ c, nextDue s = some c → step s = exec c s) ∧
    (nextDue s = none →
      (∀ c, arrivedChar s .field = some c → step s = takeChar .field c s) ∧
      (∀ c, arrivedChar s .field = none → arrivedChar s .panel = some c → step s = takeChar .panel c s) ∧
      (arrivedChar s .field = none → arrivedChar s .panel = none →
        ∃ links, step s = .next { s with env := { s.env with clock := s.env.clock + 1 }, links := links } ∧
          links.address = s.links.address ∧ links.rateInUse = s.links.rateInUse ∧
          ∀ l : Link,
            let counted :=
              { s.port l with
                rx := (match (s.port l).rx with
                  | .assembling bytes quiet => .assembling bytes (quiet + 1)
                  | rx => rx) }
            match s.links.lines.get l with
            | [] => links.lines.get l = [] ∧ links.ports.get l = counted
            | c :: later =>
              if c.idle = 0 then
                links.lines.get l = { c with lasts := c.lasts - 1 } :: later ∧ links.ports.get l = s.port l
              else links.lines.get l = { c with idle := c.idle - 1 } :: later ∧ links.ports.get l = counted))

/-- Every command answers a next state, and none touches the queue of waiting commands (log 42). An event that finds nothing to do, a
timer that does not run or has not run out, an input already at its level, a slot or a store without work, changes nothing at all (the
model's choice, log 1 and log 14). -/
def Obligations.EveryCommandAnswers : Prop :=
  (∀ (c : Instr) (s : State), ∃ t, exec c s = .next t ∧ t.pending = s.pending) ∧
  ∀ s : State,
    let ran := fun (t : Timer) (ms : Nat) => ∃ start, t = .since start ∧ ms ≤ s.env.clock - start
    (∀ i : PumpId,
      let q := s.plant.pumps.get i
      let c := s.env.cfg.pumps.get i
      (¬(q.run = .starting ∧ ran q.confirm (1000 * c.confirmLimit)) → exec (.noStart i) s = .next s) ∧
      (¬(q.run = .running ∧ ran q.lostTimer 1000) → exec (.lostRun i) s = .next s) ∧
      (¬(q.run = .running ∧ ran q.dryTimer 5000) → exec (.dryRunStop i) s = .next s) ∧
      (¬(q.run = .resting ∧ ran q.minRest (1000 * q.restLength)) → exec (.restEnd i) s = .next s) ∧
      (¬ ran q.surge (1000 * c.surgeTime) → exec (.surgeEnd i) s = .next s) ∧
      (¬ ran q.minRun (1000 * c.minRun) → exec (.minRunExpiry i) s = .next s) ∧
      ((∀ oldest later, q.starts = oldest :: later → s.env.clock - oldest < 3600000) →
        exec (.startListEntryExpiry i) s = .next s) ∧
      exec (.runningFeedbackChange i (s.env.pins.feedback.get i)) s = .next s ∧
      exec (.thermalTrip i (s.env.pins.thermal.get i)) s = .next s ∧
      exec (.dryRunInputChange i (s.env.pins.dryRun.get i)) s = .next s) ∧
    (∀ i : PortalId,
      let q := s.plant.portals.get i
      let c := s.env.cfg.portals.get i
      (¬(q.seq = .warning ∧ ran q.warn (1000 * c.warningTime)) → exec (.warningExpiry i) s = .next s) ∧
      (¬(q.seq.motionStep = true ∧ q.permit = true ∧ ran q.travel (travelLimit c q)) → exec (.travelTimerExpiry i) s = .next s) ∧
      (¬(q.seq = .hand ∧ q.motion ≠ .none ∧ q.permit = true ∧ ran q.travel (travelLimit c q)) →
        exec (.handTravelExpiry i) s = .next s) ∧
      (¬(q.seq = .clearing ∧ ran q.confirm (1000 * c.clearConfirm)) → exec (.clearConfirmExpiry i) s = .next s) ∧
      (¬(q.seq = .clearing ∧ q.overdue = false ∧ ran q.limit (1000 * c.clearLimit)) → exec (.clearLimitExpiry i) s = .next s) ∧
      (¬(q.seq = .sealing ∧ ran q.retry (1000 * c.retryDelay)) → exec (.retryDelayExpiry i) s = .next s) ∧
      exec (.safetyEdgeChange i (s.env.portalPins i).edge) s = .next s ∧
      exec (.keySwitchChange i (s.env.pins.keys.get i)) s = .next s) ∧
    (∀ (l : Link) (b : BootIn), (s.port l).slot = .empty → exec (.replyStart l) s = .next s ∧ exec (.replyEnd l b) s = .next s) ∧
    (∀ how, s.store.inProgress = none → exec (.saveEnd how) s = .next s ∧ exec (.lockoutWriteEnd how) s = .next s) ∧
    (∀ n, (∀ o ∈ s.env.table, o.number = n → ∀ instant, o.expiresAt = some instant → s.env.clock < instant) →
      exec (.orderExpiry n) s = .next s) ∧
    (¬ ran s.plant.arb.spacing (1000 * s.env.cfg.supply.spacing) → exec .spacingExpiry s = .next s) ∧
    (∀ u, (∀ r ∈ s.plant.arb.queue, r.unit = u → ¬ ran r.wait (1000 * s.env.cfg.supply.waitLimit)) →
      exec (.waitLimitReached u) s = .next s) ∧
    (∀ u f, ¬ ran ((s.env.sumps.get u).float f).stable 2000 → exec (.floatDebounceExpiry u f) s = .next s) ∧
    (∀ u, ¬ ran (s.env.sumps.get u).hold (1000 * (s.env.cfg.sumps.get u).staging.hold) →
      exec (.stageHoldExpiry u) s = .next s) ∧
    (∀ d, (s.env.windows.get d).lost = true ∨ ¬ ran (s.env.windows.get d).loss 60000 → exec (.luminanceLoss d) s = .next s) ∧
    (∀ z,
      let q := s.plant.zones.get z
      let rate := if q.ramp = .up then (s.env.cfg.zones.get z).rampUp else (s.env.cfg.zones.get z).rampDown
      (q.ramp = .none ∨ ∀ start, q.step = .since start → (s.env.clock - start) * rate < 1000 * (q.steps + 1)) →
      exec (.rampStep z) s = .next s) ∧
    (∀ l,
      (∀ start, (s.changes l).timer = .since start →
        s.env.clock - start < 1000 * (s.env.cfg.reporting.get l).moderation) →
      exec (.moderationExpiry l) s = .next s)

/-! ### Start-up (R30, R158, R167, R189 to R191) -/

/-- State.reset is what a start-up gives that finds the store and the pins of log 3 and log 4 and quiet lines. And what start-up leaves, whatever
stood before it: the configuration of a sound image or the factory defaults, with every unit out
of service when the lockout area fails; the stored lockouts as PANEL LOCKOUT orders, in their order; every pump STOPPED with an
empty start list; no permit, no jam, an empty start queue; unprimed sections at stage 0; empty windows; ports that hunt with
empty slots; an idle store; empty changed sets; the two lost-store causes raised exactly when their area failed; and the relay by
its rule. The commands that wait and the characters on the lines stay (log 16). -/
def Obligations.StartUpGivesFreshState : Prop :=
  (∀ s : State, s.store = State.reset.store → s.pending = [] → s.links.lines = State.reset.links.lines →
    exec (.startUp idlePins false ⟨0, .succeeded⟩) s = .next State.reset) ∧
  ∀ (pins : Inputs) (cut : Bool) (b : BootIn) (s : State),
    ∃ t, exec (.startUp pins cut b) s = .next t ∧
      (let area := s.store.cut cut
       let loaded := area.image.getD factoryDefaults
       t.pending = s.pending ∧ t.env.pins = pins ∧ t.env.clock = 0 ∧
       t.env.cfg = (if area.lockArea.isSome then loaded
         else { loaded with
                pumpService := .all .outOfService, portalService := .all .outOfService, zoneService := .all .outOfService }) ∧
       t.env.table.map (fun o => { o with governance := Governance.outranked }) =
         (area.lockArea.getD []).map (fun k =>
           { number := k.number, issuer := .panel, holder := k.holder, unit := k.unit, rank := .lockout, verb := .lock,
             arg := none, yieldStage := none, expiresAt := none, revision := 0, governance := .outranked }) ∧
       t.env.counter = (match area.lockArea with
         | none | some [] => 1
         | some l => nextNumber ((l.map StoredLock.number).foldl max 0)) ∧
       t.env.keys = .all ⟨false, .since 0⟩ ∧
       (∀ u, (t.env.sumps.get u).level = none ∧ (t.env.sumps.get u).mode = .none ∧ (t.env.sumps.get u).stage = 0 ∧
         (t.env.sumps.get u).allowance = (t.env.cfg.sumps.get u).calibration.reload) ∧
       t.env.underpass = 0 ∧
       t.env.windows = .all ⟨[], .since 0, false⟩ ∧
       (∀ u, t.plant.units.get u = unitRecOf t.env.cfg t.env.table u) ∧
       (∀ i, (t.plant.pumps.get i).run = .stopped ∧ (t.plant.pumps.get i).starts = [] ∧ (t.plant.pumps.get i).fault = none) ∧
       (∀ u, (t.plant.duty.get u).lead = 1 ∧
         (t.plant.duty.get u).latches = List.replicate (t.env.cfg.sumps.get u).ring.length false) ∧
       (∀ i, (t.plant.portals.get i).permit = false ∧ (t.plant.portals.get i).jam = none) ∧
       t.plant.arb.queue = [] ∧ t.plant.arb.spacing = .stopped ∧
       t.plant.arb.supply = (if pins.gridOk then .grid else if pins.standbyOk then .standby else .transfer) ∧
       t.plant.attn.sets = .all ⟨[], false, .stopped⟩ ∧
       (Cause.configLost.isIn t.plant.attn.present = area.image.isNone) ∧
       (Cause.locksLost.isIn t.plant.attn.present = area.lockArea.isNone) ∧
       t.plant.attn.relayOn = relayRule t.plant.attn.present t.env.cfg.masks ∧
       t.links.ports = .all ⟨.hunting, .empty, false⟩ ∧ t.links.rateInUse = t.env.cfg.fieldRate ∧
       t.links.lines = s.links.lines ∧
       t.links.address = (if 1 ≤ b.straps.toNat ∧ b.straps.toNat ≤ 247 then b.straps else 247) ∧
       t.store.inProgress = none ∧ t.store.waiting = none ∧ t.store.restarting = false)

/-! ### Requests and replies (R157 to R168) -/

/-- R161: a request that completes while a reply is pending is discarded unanswered: OVERRUN is set, the receiver hunts again, and
nothing else changes. Every request of the table, and every request of an unlisted kind. -/
def Obligations.PendingReplyDiscardsRequest : Prop :=
  ∀ (c : Instr) (l : Link) (kind tag : Byte) (body : List Byte) (s : State) (r : Reply) (numbers : List Byte),
    requestOf c = some (l, kind, tag, body) →
    (s.port l).slot = .waiting r ∨ (s.port l).slot = .deferred r numbers →
    exec c s = .next (putPort l { rx := .hunting, slot := (s.port l).slot, overrun := true } s)

/-- A refused request changes nothing: whatever request is answered with an outcome other than DONE and ACCEPTED leaves only its
reply behind. -/
def Obligations.RefusedRequestChangesNothing : Prop :=
  ∀ (c : Instr) (l : Link) (kind tag : Byte) (body : List Byte) (s t : State) (r : Reply),
    requestOf c = some (l, kind, tag, body) → (s.port l).slot = .empty →
    exec c s = .next t → (t.port l).slot = .waiting r → r.code ≠ .done → r.code ≠ .accepted →
    r.kind = kind ∧ r.tag = tag ∧ t = replied l kind tag r.code r.payload s

/-- The requests reserved to the panel are answered NO_AUTHORITY on the field link once their length matches (R162); and while the
Configuration Store is SAVING, every request that writes the working configuration is answered BUSY once its length matches, on either
link, or on the panel link where it is reserved to the panel (R187). So is SAVE CONFIG, on either link, and also while an accepted
RESTART CONTROLLER waits for its start-up (R186); and RESTART CONTROLLER is BUSY on the panel link while the store is SAVING or
WRITING_LOCKS (R189). None of these changes anything else. -/
def Obligations.ReservedAndBusyRefusals : Prop :=
  (∀ (tag : Byte) (s : State), (s.port .field).slot = .empty →
    (∀ a b, exec (.setService .field tag [a, b]) s = .next (replied .field 0x11 tag .noAuthority [] s)) ∧
    (∀ a b c, exec (.handDrive .field tag [a, b, c]) s = .next (replied .field 0x12 tag .noAuthority [] s)) ∧
    (∀ u rest, settingsLengthFits (unitOf u) rest.length = true →
      exec (.setUnitConfig .field tag (u :: rest)) s = .next (replied .field 0x13 tag .noAuthority [] s)) ∧
    (∀ body, body.length = 20 → exec (.setAuthority .field tag body) s = .next (replied .field 0x06 tag .noAuthority [] s)) ∧
    (∀ u n rest, 1 ≤ n.toNat → n.toNat ≤ 4 → rest.length = n.toNat →
      exec (.setRingOrder .field tag (u :: n :: rest)) s = .next (replied .field 0x1B tag .noAuthority [] s)) ∧
    (∀ body, body.length = 9 → exec (.setSupplyConfig .field tag body) s = .next (replied .field 0x21 tag .noAuthority [] s)) ∧
    (∀ body, body.length = 4 → exec (.setLuminanceConfig .field tag body) s = .next (replied .field 0x22 tag .noAuthority [] s)) ∧
    (∀ a, exec (.setLinkConfig .field tag [a]) s = .next (replied .field 0x23 tag .noAuthority [] s)) ∧
    exec (.restartController .field tag []) s = .next (replied .field 0x31 tag .noAuthority [] s)) ∧
  (∀ (l : Link) (tag : Byte) (s : State), (s.port l).slot = .empty →
    (s.store.state = .saving →
      (∀ u g rest, groupLengthFits g.toNat rest.length = true →
        exec (.setSumpConfig l tag (u :: g :: rest)) s = .next (replied l 0x19 tag .busy [] s)) ∧
      (∀ a b, exec (.setAlertMasks l tag [a, b]) s = .next (replied l 0x2A tag .busy [] s)) ∧
      (∀ a b c, exec (.setReporting l tag [a, b, c]) s = .next (replied l 0x2D tag .busy [] s))) ∧
    (s.store.state = .saving ∨ s.store.restarting = true →
      exec (.saveConfig l tag []) s = .next (replied l 0x30 tag .busy [] s))) ∧
  (∀ (tag : Byte) (s : State), (s.port .panel).slot = .empty → s.store.state = .saving ∨ s.store.state = .writingLocks →
    exec (.restartController .panel tag []) s = .next (replied .panel 0x31 tag .busy [] s)) ∧
  (∀ (tag : Byte) (s : State), (s.port .panel).slot = .empty → s.store.state = .saving →
    (∀ a b, exec (.setService .panel tag [a, b]) s = .next (replied .panel 0x11 tag .busy [] s)) ∧
    (∀ u rest, settingsLengthFits (unitOf u) rest.length = true →
      exec (.setUnitConfig .panel tag (u :: rest)) s = .next (replied .panel 0x13 tag .busy [] s)) ∧
    (∀ u n rest, 1 ≤ n.toNat → n.toNat ≤ 4 → rest.length = n.toNat →
      exec (.setRingOrder .panel tag (u :: n :: rest)) s = .next (replied .panel 0x1B tag .busy [] s)) ∧
    (∀ body, body.length = 20 → exec (.setAuthority .panel tag body) s = .next (replied .panel 0x06 tag .busy [] s)) ∧
    (∀ body, body.length = 9 → exec (.setSupplyConfig .panel tag body) s = .next (replied .panel 0x21 tag .busy [] s)) ∧
    (∀ body, body.length = 4 → exec (.setLuminanceConfig .panel tag body) s = .next (replied .panel 0x22 tag .busy [] s)) ∧
    (∀ a, exec (.setLinkConfig .panel tag [a]) s = .next (replied .panel 0x23 tag .busy [] s)))

/-- A request of a kind that R171 does not list is answered UNKNOWN_KIND and nothing else is done with it (R162). A frame that fails a
check of R160, a late byte after a gap of more than 10 ms in a frame (log 46) and a faulty byte of a frame return the receiver to
HUNTING (or, for a late byte 5Ah, to a new frame) and change no record and no slot and no OVERRUN flag (R159, R160); the field port,
then hunting with an EMPTY slot, is at its configured rate (R168). A port that sends sees none of them (R157). And what a character
does when it ends (R159, log 17): in HUNTING 5Ah starts a frame and anything else is ignored; in ASSEMBLING a faulty character or a
late byte abandons the frame, a length byte above 200 too, the second check byte completes it, and any other byte is collected. -/
def Obligations.UnsoundFramesChangeOnlyReceiver : Prop :=
  (∀ (l : Link) (kind tag : Byte) (body : List Byte) (s : State), kindUnlisted kind = true → (s.port l).slot = .empty →
    exec (.unknownKind l kind tag body) s = .next (replied l kind tag .unknownKind [] s)) ∧
  (∀ (l : Link) (s : State) (c : Instr) (rx : Receiver),
    (∃ frame, c = .frameDiscarded l frame ∧ frameSound (stationByte s l) frame = false ∧ (s.port l).rx ≠ .off ∧ rx = .hunting) ∨
      (∃ late bytes quiet, c = .frameAbandoned l late ∧ (s.port l).rx = .assembling bytes quiet ∧ 10 < quiet ∧
        rx = if late = 0x5A then .assembling [0x5A] 0 else .hunting) ∨
      (∃ why bytes quiet, c = .faultyFrameByte l why ∧ (s.port l).rx = .assembling bytes quiet ∧ ¬(l = .panel ∧ why = .parity) ∧
        rx = .hunting) →
    exec c s = .next
      { s with
        links :=
          { s.links with
            ports := s.links.ports.set l { s.port l with rx := rx }
            rateInUse := if l = .field ∧ (s.port l).slot = .empty then s.env.cfg.fieldRate else s.links.rateInUse } }) ∧
  (∀ (l : Link) (s : State),
    (∀ frame, (s.port l).rx = .off → exec (.frameDiscarded l frame) s = .next s) ∧
    (∀ late, (∀ bytes quiet, (s.port l).rx = .assembling bytes quiet → quiet ≤ 10) → exec (.frameAbandoned l late) s = .next s) ∧
    (∀ why, (s.port l).rx = .off ∨ (s.port l).rx = .hunting → exec (.faultyFrameByte l why) s = .next s)) ∧
  ∀ (l : Link) (s : State) (c : LineChar) (later : List LineChar), s.links.lines.get l = c :: later →
    (arrivedChar s l = if c.idle = 0 ∧ c.lasts = 0 then some c else none) ∧
    (let s1 := { s with links := { s.links with lines := s.links.lines.set l later } }
     let hears := fun rx : Receiver =>
       Host.Outcome.next (φ := Fault) (ρ := Refusal)
         { s1 with links := { s1.links with ports := s.links.ports.set l { s.port l with rx := rx } } }
     (∀ why, readChar l c.bits = .faulty why →
       takeChar l c s =
         (match (s.port l).rx with
          | .assembling _ _ => exec (.faultyFrameByte l why) s1
          | _ => .next s1)) ∧
     ∀ b, readChar l c.bits = .byte b →
       takeChar l c s =
         (match (s.port l).rx with
          | .off => .next s1
          | .hunting => hears (if b = 0x5A then .assembling [0x5A] 0 else .hunting)
          | .assembling bytes quiet =>
            let frame := bytes ++ [b]
            if 10 < quiet then exec (.frameAbandoned l b) s1
            else if frame.length = 5 ∧ 200 < b.toNat then exec (.faultyFrameByte l .lengthOver200) s1
            else if frameComplete frame then exec (frameCommand s l frame) s1
            else hears (.assembling frame 0)))

/-- The check bytes of every frame that the part builds make it sound (R160, R171): worked over the station byte to the second check
byte the CRC gives 0000h, and a receiver whose station byte it carries takes it, if its kind is a request's: it is then the request of
its kind, tag and body. A HUNTING receiver that hears its bytes one after the other completes exactly this frame and hunts again
(R159). A character is a start bit, the 8 data bits least significant first, on the field link a parity bit that makes the number of
ones even, and a stop bit, 11 and 10 bits in all, and is read back as its byte; with a start or stop bit out of place it is a framing
error, and with an odd number of ones a parity error on the field link (R157). -/
def Obligations.FrameCheckIsSound : Prop :=
  (∀ (station kind tag : Byte) (body : List Byte),
    crc16 (checkedBytes station kind tag body ++ bytesOfWord (crc16 (checkedBytes station kind tag body))) = 0 ∧
    (kind < 0x80 → frameSound station (frameOf station kind tag body) = true) ∧
    (body.length ≤ 200 →
      frameComplete (frameOf station kind tag body) = true ∧
      hearAll .hunting (frameOf station kind tag body) = (.hunting, some (frameOf station kind tag body)))) ∧
  (∀ (l : Link) (s : State) (kind tag : Byte) (body : List Byte), kind < 0x80 → body.length ≤ 200 →
    requestOf (frameCommand s l (frameOf (stationByte s l) kind tag body)) = some (l, kind, tag, body)) ∧
  (∀ (l : Link) (s : State) (frame : List Byte), frameSound (stationByte s l) frame = false →
    frameCommand s l frame = .frameDiscarded l frame) ∧
  (∀ (l : Link) (b : Byte), readChar l (charBits l b) = .byte b) ∧
  (∀ b : Byte,
    let data := (List.range 8).map (fun n => b.getLsbD n)
    charBits .panel b = false :: data ++ [true] ∧ (charBits .panel b).length = 10 ∧ (charBits .field b).length = 11 ∧
    ∃ parity, charBits .field b = false :: data ++ [parity, true] ∧ (data ++ [parity]).countP (fun bit => bit) % 2 = 0) ∧
  ∀ (start stop parity : Bool) (data : List Bool), data.length = 8 →
    (start = true ∨ stop = false →
      readChar .field (start :: data ++ [parity, stop]) = .faulty .framing ∧
      readChar .panel (start :: data ++ [stop]) = .faulty .framing) ∧
    ((data ++ [parity]).countP (fun bit => bit) % 2 = 1 →
      readChar .field (false :: data ++ [parity, true]) = .faulty .parity)

/-- R157, R163 to R165, R168, R181, R189: a WAITING reply starts as one frame: 5Ah, the request's station byte, its kind plus 80h, its tag, the
body's length, the outcome, the link status with ATTENTION, OVERRUN and OVERFULL as they stand, the payload, and the check; OVERRUN clears
and the receiver is off. ATTENTION is set while the link's changed set holds as many entries as its threshold, while its moderation timer
has run out, and while OVERFULL is set (R181). When its last byte has been sent the slot is EMPTY and the receiver hunts, and the field port is at its
configured rate; but the end of the reply to an accepted RESTART CONTROLLER is a start-up. An accepted SET LINK CONFIG records the
new field bit rate, and the field port takes it up in the same event when it hunts with an EMPTY slot; an accepted RESTART
CONTROLLER is answered DONE, and the part works on until that reply has been sent. On each link the part drives the line only while it
sends, with the characters of the frame back to back, and the panel link runs at 19200 bit/s (R157). -/
def Obligations.ReplyIsSentAndEnds : Prop :=
  (∀ (l : Link) (s : State) (r : Reply), (s.port l).slot = .waiting r →
    exec (.replyStart l) s = .next
      (putPort l
        { rx := .off
          overrun := false
          slot := .sending
            (let checked : List Byte :=
              [stationByte s l, r.kind + 0x80, r.tag, BitVec.ofNat 8 (r.payload.length + 2), r.code.byte,
                (if (s.env.cfg.reporting.get l).threshold ≤ (s.changes l).entries.length ∨ (s.changes l).timer = .ranOut ∨
                      (s.changes l).overfull = true then 1 else 0) |||
                  (if (s.port l).overrun then 2 else 0) ||| (if (s.changes l).overfull then 4 else 0)] ++ r.payload
             0x5A :: (checked ++ bytesOfWord (crc16 checked))) } s)) ∧
  (∀ (l : Link) (b : BootIn) (s : State) (frame : List Byte), (s.port l).slot = .sending frame →
    ¬(l = .panel ∧ s.store.restarting = true) →
    exec (.replyEnd l b) s = .next
      { s with
        links :=
          { s.links with
            ports := s.links.ports.set l { rx := .hunting, slot := .empty, overrun := (s.port l).overrun }
            rateInUse := if l = .field then s.env.cfg.fieldRate else s.links.rateInUse } }) ∧
  (∀ (b : BootIn) (s : State) (frame : List Byte), (s.port .panel).slot = .sending frame → s.store.restarting = true →
    exec (.replyEnd .panel b) s = exec (.startUp s.env.pins false b) s) ∧
  (∀ (tag v : Byte) (s : State) (rate : BitRate), (s.port .panel).slot = .empty → s.store.state ≠ .saving →
    (v = 1 ∧ rate = .b9600 ∨ v = 2 ∧ rate = .b19200 ∨ v = 3 ∧ rate = .b38400) →
    exec (.setLinkConfig .panel tag [v]) s = .next
      (replied .panel 0x23 tag .done []
        { s with
          env := { s.env with cfg := { s.env.cfg with fieldRate := rate } }
          links :=
            { s.links with
              rateInUse := if (s.port .field).rx = .hunting ∧ (s.port .field).slot = .empty then rate else s.links.rateInUse } })) ∧
  (∀ (tag : Byte) (s : State), (s.port .panel).slot = .empty → s.store.state = .idle →
    exec (.restartController .panel tag []) s = .next
      (replied .panel 0x31 tag .done [] { s with store := { s.store with restarting := true } })) ∧
  ∀ (l : Link) (s : State),
    (∀ frame, (s.port l).slot = .sending frame →
      lineDriven s l = true ∧ lineBits s l = (frame.map (charBits l)).flatten) ∧
    ((∀ frame, (s.port l).slot ≠ .sending frame) → lineDriven s l = false ∧ lineBits s l = []) ∧
    lineRate s .panel = .b19200 ∧ lineRate s .field = s.links.rateInUse

/-! ### The Configuration Store (R184 to R188) -/

/-- R184 to R188: an accepted SAVE CONFIG fixes the working configuration as the image to be written, starts the write or lets it wait
behind the one in progress, and is answered ACCEPTED at once, from either link. A write that ends leaves its area with the new
content, with the old content, or failing its check; the waiting write starts; a failure raises STORE_FAULT; and the end of a lockout
write releases the panel's deferred reply: as it was for DONE, or with STORE_FAULT and the numbers alone (R28). -/
def Obligations.StoreWritesStartAndEnd : Prop :=
  (∀ (l : Link) (tag : Byte) (s : State), (s.port l).slot = .empty → s.store.state ≠ .saving → s.store.restarting = false →
    exec (.saveConfig l tag []) s = .next
      (replied l 0x30 tag .accepted []
        { s with
          store :=
            if s.store.inProgress = none then { s.store with inProgress := some (.image s.env.cfg) }
            else { s.store with waiting := some (.image s.env.cfg) }
          plant := report s.env .plant none s.plant })) ∧
  (∀ (how : WriteEnd) (c : WorkConfig) (s : State), s.store.inProgress = some (.image c) →
    ∃ t, exec (.saveEnd how) s = .next t ∧ t.env = s.env ∧ t.links = s.links ∧ t.plant.units = s.plant.units ∧
      t.store =
        { s.store with
          image := (match how with | .succeeded => some c | .notTaken => s.store.image | .readBackDiffers => none)
          inProgress := s.store.waiting
          waiting := none } ∧
      Cause.storeFault.isIn t.plant.attn.present =
        (Cause.storeFault.isIn s.plant.attn.present || how != .succeeded)) ∧
  (∀ (how : WriteEnd) (locks : List StoredLock) (s : State) (r : Reply) (numbers : List Byte),
    s.store.inProgress = some (.locks locks) → (s.port .panel).slot = .deferred r numbers →
    ∃ t, exec (.lockoutWriteEnd how) s = .next t ∧ t.env = s.env ∧ t.plant.units = s.plant.units ∧
      t.store =
        { s.store with
          lockArea := (match how with | .succeeded => some locks | .notTaken => s.store.lockArea | .readBackDiffers => none)
          inProgress := s.store.waiting
          waiting := none } ∧
      t.port .field = s.port .field ∧
      t.port .panel =
        { s.port .panel with
          slot := .waiting (if how = .succeeded then r else { r with code := .storeFault, payload := numbers }) } ∧
      Cause.storeFault.isIn t.plant.attn.present =
        (Cause.storeFault.isIn s.plant.attn.present || how != .succeeded))


/-! ### The Order Table (chapter 1) -/

/-- What stands after an event lets the plant's blocks act: they write nothing outside the plant, no unit record, no supply state, no
latch, no deficit and no hand level; they raise no cause but PUMP_FAULT and GATE_JAMMED, and acknowledge none (log 19). Each of the six
condition causes then stands exactly while its condition holds, and each change of the present set gives a PLANT entry in both changed
sets (R174). -/
def Obligations.PlantBlocksStayInThePlant : Prop :=
  ∀ s : State, let t := settle s
    t.pending = s.pending ∧ t.env = s.env ∧ t.links = s.links ∧ t.store = s.store ∧ t.plant.units = s.plant.units ∧
    t.plant.arb.supply = s.plant.arb.supply ∧ t.plant.arb.transfer = s.plant.arb.transfer ∧
    (∀ u, (t.plant.duty.get u).latches = (s.plant.duty.get u).latches) ∧
    (∀ z, (t.plant.zones.get z).deficit = (s.plant.zones.get z).deficit ∧ (t.plant.zones.get z).flag = (s.plant.zones.get z).flag ∧
      (t.plant.zones.get z).hand = (s.plant.zones.get z).hand) ∧
    (∀ c : Cause, c.latched = true → c.isIn s.plant.attn.present = true → c.isIn t.plant.attn.present = true) ∧
    (∀ c : Cause, c ≠ .pumpFault → c ≠ .gateJammed → t.plant.attn.count c = s.plant.attn.count c) ∧
    (let present := fun c : Cause => c.isIn t.plant.attn.present = true
     (present .stageSevere ↔ s.env.underpass = 4) ∧ (present .stageFlood ↔ 3 ≤ s.env.underpass) ∧
     (present .supplyNotGrid ↔ s.plant.arb.supply ≠ .grid) ∧
     (present .sensorSingle ↔ ∃ u, (s.env.sumps.get u).mode = .single) ∧
     (present .luminanceLost ↔ s.env.windows.east.lost = true ∨ s.env.windows.west.lost = true) ∧
     (present .lockoutPresent ↔ ∃ o ∈ s.env.table, o.rank = .lockout)) ∧
    (∀ c : Cause, c.isIn t.plant.attn.present ≠ c.isIn s.plant.attn.present →
      ∀ k, (t.changes k).overfull = true ∨ ∃ x ∈ (t.changes k).entries, x.key = .plant)

/-- R9: on a unit IN_SERVICE the order of highest rank governs, the latest in the table among equals; every other order on it is
OUTRANKED; on a unit out of service or in hand every order is DORMANT. The outfall is always IN_SERVICE. LOCKOUT is above OVERRIDE and
OVERRIDE above STANDING. And what the Unit Table takes from it (R11, R33): the lock flag stands exactly while a LOCKOUT stands on the
unit; the governing order is the one of highest rank, the latest among equals, on a unit IN_SERVICE, and none elsewhere; the demand
source is LOCK, HAND, OFF, ORDER or AUTOMATIC by the first that applies. A unit IN_SERVICE on which no order stands has the source
AUTOMATIC. -/
def Obligations.GovernanceIsByRankThenPlace : Prop :=
  (∀ (c : WorkConfig) (before after : List Order) (o : Order),
    ((before ++ o :: after).map Order.number).Nodup →
    governanceOf c (before ++ o :: after) o =
      if serviceOf c o.unit ≠ .inService then .dormant
      else if (∀ x ∈ before, x.unit = o.unit → x.rank.height ≤ o.rank.height) ∧
          (∀ x ∈ after, x.unit = o.unit → x.rank.height < o.rank.height) then .governing
      else .outranked) ∧
  (∀ c : WorkConfig, serviceOf c .outfall = .inService) ∧
  (Rank.height .standing < Rank.height .overriding ∧ Rank.height .overriding < Rank.height .lockout) ∧
  (∀ (c : WorkConfig) (table : List Order) (u : UnitId),
    let r := unitRecOf c table u
    (r.locked = true ↔ ∃ o ∈ table, o.unit = u ∧ o.rank = .lockout) ∧
    (∀ n, r.governing = some n ↔
      serviceOf c u = .inService ∧ ∃ before o after, table = before ++ o :: after ∧ o.unit = u ∧ o.number = n ∧
        (∀ x ∈ before, x.unit = u → x.rank.height ≤ o.rank.height) ∧ (∀ x ∈ after, x.unit = u → x.rank.height < o.rank.height)) ∧
    r.source =
      if r.locked = true then .lock
      else if serviceOf c u = .inHand then .hand
      else if serviceOf c u = .outOfService then .off
      else if r.governing.isSome = true then .order
      else .automatic) ∧
  (∀ (c : WorkConfig) (table : List Order) (u : UnitId), serviceOf c u = .inService → (∀ o ∈ table, o.unit ≠ u) →
    unitRecOf c table u = { locked := false, governing := none, source := .automatic })

/-- The checks of PLACE in their order (R12), the first that fails deciding the outcome, and a refused PLACE changing nothing. A rank or
verb code that names nothing is BAD_FIELD at step 4 (R170), unless step 3 fails already: a LOCKOUT without a verb that is LOCK, or a verb
that belongs to no STANDING order on the unit (the model's choice, log 7). And the tests that the checks are made of:
LOCK goes with LOCKOUT on every unit but the outfall, and each other verb with its kind of unit (R2); the ranges of holder, argument,
yield stage and expiry (step 4), where FFh is no argument and zero no yield stage and no expiry; the issuer's map (R7); the effective
yield stage, which is the order's own or else the map's default (R1). -/
def Obligations.PlaceChecksInOrder : Prop :=
  (∀ (U : UnitId) (R : Rank) (V : Verb),
    verbFits U R V = true ↔
      (R = .lockout ∧ V = .lock ∧ U ≠ .outfall) ∨
      (R ≠ .lockout ∧
        (((∃ i, U = .pump i) ∧ (V = .run ∨ V = .stop)) ∨ ((∃ i, U = .portal i) ∧ (V = .open ∨ V = .close ∨ V = .hold)) ∨
          ((∃ z, U = .zone z) ∧ V = .level) ∨ (U = .outfall ∧ V = .limit)))) ∧
  (∀ (l : Link) (h : Nat), holderFits l h = true ↔ (l = .field ∧ h = 0) ∨ (l = .panel ∧ 1 ≤ h ∧ h ≤ 15)) ∧
  (∀ (V : Verb) (a : Option Nat),
    argFits V a = true ↔
      (V = .level ∧ ∃ n ≤ 100, a = some n) ∨ (V = .limit ∧ ∃ n ≤ 8, a = some n) ∨ (V ≠ .level ∧ V ≠ .limit ∧ a = none)) ∧
  (∀ (R : Rank) (y : Option Nat), yieldFits R y = true ↔ y = none ∨ (R = .standing ∧ ∃ n, y = some n ∧ 1 ≤ n ∧ n ≤ 4)) ∧
  (∀ (R : Rank) (x : Option Nat), expiryFits R x = true ↔ (R = .lockout → x = none)) ∧
  (∀ (c : WorkConfig) (l : Link) (U : UnitId) (R : Rank),
    let m := (c.authority.get l).ranks.get U
    mapAllows c l U R = (match R with | .lockout => m.lockout | .overriding => m.overriding | .standing => m.standing)) ∧
  (∀ (c : WorkConfig) (l : Link) (y : Option Nat),
    effectiveYield c (issuerOfLink l) y = y.getD (c.authority.get l).defaultYield) ∧
  (∀ a : Byte, absentOnes a = if a = 0xFF then none else some a.toNat) ∧
  (∀ n : Nat, absentZero n = if n = 0 then none else some n) ∧
  ∀ (l : Link) (tag : Byte) (s : State), (s.port l).slot = .empty →
    (∀ body, body.length ≠ 8 → exec (.place l tag body) s = .next (replied l 0x01 tag .badLength [] s)) ∧
    ∀ u r v a y xh xl h : Byte,
      (unitOf u = none → exec (.place l tag [u, r, v, a, y, xh, xl, h]) s = .next (replied l 0x01 tag .noSuchUnit [] s)) ∧
      ∀ U, unitOf u = some U →
        (rankOf r = none ∨ verbOf v = none →
          let misfit := rankOf r = some .lockout ∨ ∃ V, verbOf v = some V ∧ verbFits U .standing V = false
          (misfit → exec (.place l tag [u, r, v, a, y, xh, xl, h]) s = .next (replied l 0x01 tag .verbMismatch [] s)) ∧
          (¬misfit → exec (.place l tag [u, r, v, a, y, xh, xl, h]) s = .next (replied l 0x01 tag .badField [] s))) ∧
        ∀ R V, rankOf r = some R → verbOf v = some V →
          let owned := fun o : Order => o.issuer == issuerOfLink l && o.holder == h.toNat && o.unit == U
          ∀ c : Code,
            (if verbFits U R V = false then some Code.verbMismatch
             else if ¬(holderFits l h.toNat = true ∧ argFits V (absentOnes a) = true ∧ yieldFits R (absentZero y.toNat) = true ∧
                expiryFits R (absentZero (word xh xl)) = true) then some .badField
             else if mapAllows s.env.cfg l U R = false then some .noAuthority
             else if R = .standing ∧
                effectiveYield s.env.cfg (issuerOfLink l) (absentZero y.toNat) ≤ s.env.relevantStage U then some .stageHigh
             else if serviceOf s.env.cfg U ≠ .inService ∧ (s.env.cfg.authority.get l).dormantAccept = false then some .unitDormant
             else if s.env.table.any owned = false ∧ 30 ≤ s.env.table.countP Order.fromLink then some .tableFull
             else none) = some c →
            exec (.place l tag [u, r, v, a, y, xh, xl, h]) s = .next (replied l 0x01 tag c [] s)

/-- R6, R13, R14, R27: a PLACE that passes every check takes the first free number from the counter and joins the end of the table with
revision 0, in place of the order of the same issuer, holder and unit if there is one; governance on the unit is resolved again, and
the unit's record follows; a change of the lockouts asks for the lockout write and defers the reply, with the new number and that of
the replaced order for its STORE_FAULT (R28). -/
def Obligations.PlaceAccepted : Prop :=
  ∀ (l : Link) (tag u r v a y xh xl h : Byte) (U : UnitId) (R : Rank) (V : Verb) (s : State),
    TableOk s → (s.port l).slot = .empty → unitOf u = some U → rankOf r = some R → verbOf v = some V →
    verbFits U R V = true → holderFits l h.toNat = true → argFits V (absentOnes a) = true →
    yieldFits R (absentZero y.toNat) = true → expiryFits R (absentZero (word xh xl)) = true →
    mapAllows s.env.cfg l U R = true →
    (R = .standing → s.env.relevantStage U < effectiveYield s.env.cfg (issuerOfLink l) (absentZero y.toNat)) →
    (serviceOf s.env.cfg U = .inService ∨ (s.env.cfg.authority.get l).dormantAccept = true) →
    let owned := fun o : Order => o.issuer == issuerOfLink l && o.holder == h.toNat && o.unit == U
    let old := s.env.table.find? owned
    let kept := s.env.table.filter (fun o => !owned o)
    let lockChange := R = .lockout ∨ old.any (fun o => o.rank == .lockout) = true
    (old.isSome = true ∨ s.env.table.countP Order.fromLink < 30) →
    ∃ (t : State) (k : Nat), exec (.place l tag [u, r, v, a, y, xh, xl, h]) s = .next t ∧ k ≤ 32 ∧
      let n := nextNumber^[k] s.env.counter
      let o : Order :=
        { number := n, issuer := issuerOfLink l, holder := h.toNat, unit := U, rank := R, verb := V, arg := absentOnes a
          yieldStage := absentZero y.toNat, expiresAt := (absentZero (word xh xl)).map (fun x => s.env.clock + 1000 * x)
          revision := 0, governance := .outranked }
      let numbers := byte2 n ++ (match old with | some x => byte2 x.number | none => [])
      let payload := numbers ++
        (match old with
         | some _ => []
         | none => byte1 (governanceOf s.env.cfg (kept ++ [o]) o).code)
      let reply : Reply := ⟨0x01, tag, .done, payload⟩
      (∀ x ∈ kept, x.number ≠ n) ∧ (∀ j < k, ∃ x ∈ kept, x.number = nextNumber^[j] s.env.counter) ∧
      t.env = { s.env with table := resolveTable s.env.cfg [U] (kept ++ [o]), counter := if n = 65535 then 1 else n + 1 } ∧
      t.plant.units.get U = unitRecOf s.env.cfg t.env.table U ∧ (∀ w, w ≠ U → t.plant.units.get w = s.plant.units.get w) ∧
      t.pending = s.pending ∧
      t.links =
        (putPort l
          { s.port l with rx := .hunting, slot := if lockChange then .deferred reply numbers else .waiting reply } s).links ∧
      t.store = (if lockChange then s.store.ask (.locks (lockouts t.env.table)) else s.store)

/-- R15 to R17: AMEND of a number that no order has, of another's order, or against another revision is refused; an empty mask confirms
the revision; and for every other mask the checks of steps 6 to 9 are made on the amended result in their order, the first that fails
deciding the outcome and nothing else changing: VERB_MISMATCH for a move to or from LOCKOUT or a verb that does not fit, BAD_FIELD for a
range or an argument marked for a verb without one, NO_AUTHORITY by the issuer's map, STAGE_HIGH for a STANDING result. A code that names
no rank or verb is BAD_FIELD at step 7, unless step 6 fails already (log 7), and a mask whose only bits stand above EXPIRY is too (log 8).
An accepted one takes every marked field into the order, whichever are marked, a LOCKOUT order too (EXPIRY 0, RANK or VERB with the value
it holds); it changes the order when a field differs or an expiry is set (R17), and is answered with the revision it leaves. And the five
fields one by one: each is taken into the order, which keeps its place and its other fields, and the revision rises by one exactly when
the order changes. An OVERRIDE loses its yield stage; an expiry starts its count afresh; a change of rank resolves governance again. -/
def Obligations.AmendFieldByField : Prop :=
  ∀ (l : Link) (tag nh nl h rev : Byte) (s : State), (s.port l).slot = .empty →
    (∀ body, body.length < 5 → exec (.amend l tag body) s = .next (replied l 0x02 tag .badLength [] s)) ∧
    (∀ mask values, values.length ≠ amendValueLength mask →
      exec (.amend l tag (nh :: nl :: h :: rev :: mask :: values)) s = .next (replied l 0x02 tag .badLength [] s)) ∧
    (∀ mask values, values.length = amendValueLength mask → (∀ o ∈ s.env.table, o.number ≠ word nh nl) →
      exec (.amend l tag (nh :: nl :: h :: rev :: mask :: values)) s = .next (replied l 0x02 tag .noSuchOrder [] s)) ∧
    ∀ o, s.env.table.find? (fun x => x.number == word nh nl) = some o →
      (∀ mask values, values.length = amendValueLength mask → ¬(o.issuer = issuerOfLink l ∧ o.holder = h.toNat) →
        exec (.amend l tag (nh :: nl :: h :: rev :: mask :: values)) s = .next (replied l 0x02 tag .notOwner [] s)) ∧
      (o.issuer = issuerOfLink l → o.holder = h.toNat →
        (∀ mask values, values.length = amendValueLength mask → o.revision ≠ rev →
          exec (.amend l tag (nh :: nl :: h :: rev :: mask :: values)) s =
            .next (replied l 0x02 tag .stale [o.revision] s)) ∧
        (o.revision = rev →
          exec (.amend l tag [nh, nl, h, rev, 0]) s = .next (replied l 0x02 tag .done [rev] s) ∧
          (∀ mask : Byte, mask ≠ 0 → mask.toNat % 32 = 0 → verbFits o.unit o.rank o.verb = true →
            exec (.amend l tag [nh, nl, h, rev, mask]) s = .next (replied l 0x02 tag .badField [] s)) ∧
          (∀ (ma mv mr my : Option Byte) (mx : Option (Byte × Byte)),
            let mask : Byte :=
              BitVec.ofNat 8
                (ma.isSome.toNat + 2 * mv.isSome.toNat + 4 * mr.isSome.toNat + 8 * my.isSome.toNat + 16 * mx.isSome.toNat)
            let body := [nh, nl, h, rev, mask] ++ ma.toList ++ mv.toList ++ mr.toList ++ my.toList ++
              (match mx with | none => [] | some (xh, xl) => [xh, xl])
            let rank := match mr with | none => some o.rank | some x => rankOf x
            let verb := match mv with | none => some o.verb | some x => verbOf x
            mask ≠ 0 →
            (rank = none ∨ verb = none →
              let misfit := (rank ≠ some o.rank ∧ (rank = some .lockout ∨ o.rank = .lockout)) ∨ rank = some .lockout ∨
                ∃ V, verb = some V ∧ verbFits o.unit .standing V = false
              (misfit → exec (.amend l tag body) s = .next (replied l 0x02 tag .verbMismatch [] s)) ∧
              (¬misfit → exec (.amend l tag body) s = .next (replied l 0x02 tag .badField [] s))) ∧
            ∀ R V c, rank = some R → verb = some V →
              let arg := match ma with | none => o.arg | some x => absentOnes x
              let y := match my with | none => if R = .overriding then none else o.yieldStage | some x => absentZero x.toNat
              let expiry := match mx with | none => o.expiresAt | some (xh, xl) => absentZero (word xh xl)
              (if (R ≠ o.rank ∧ (R = .lockout ∨ o.rank = .lockout)) ∨ verbFits o.unit R V = false then some Code.verbMismatch
               else if (ma ≠ none ∧ V.carriesArg = false) ∨
                  ¬(argFits V arg = true ∧ yieldFits R y = true ∧ expiryFits R expiry = true) then some .badField
               else if mapAllows s.env.cfg l o.unit R = false then some .noAuthority
               else if R = .standing ∧ effectiveYield s.env.cfg (issuerOfLink l) y ≤ s.env.relevantStage o.unit then some .stageHigh
               else none) = some c →
              exec (.amend l tag body) s = .next (replied l 0x02 tag c [] s)) ∧
          (∀ (ma mv mr my : Option Byte) (mx : Option (Byte × Byte)) (R : Rank) (V : Verb),
            let mask : Byte :=
              BitVec.ofNat 8
                (ma.isSome.toNat + 2 * mv.isSome.toNat + 4 * mr.isSome.toNat + 8 * my.isSome.toNat + 16 * mx.isSome.toNat)
            let body := [nh, nl, h, rev, mask] ++ ma.toList ++ mv.toList ++ mr.toList ++ my.toList ++
              (match mx with | none => [] | some (xh, xl) => [xh, xl])
            let given := fun (xh xl : Byte) => absentZero (word xh xl)
            let b : Order :=
              { o with
                rank := R, verb := V
                arg := (match ma with | none => o.arg | some x => absentOnes x)
                yieldStage := (match my with
                  | none => if R = .overriding then none else o.yieldStage
                  | some x => absentZero x.toNat)
                expiresAt := (match mx with
                  | none => o.expiresAt
                  | some (xh, xl) => (given xh xl).map (fun n => s.env.clock + 1000 * n)) }
            let next : Order := { b with revision := rev + 1 }
            let written :=
              { s with
                env := { s.env with table := s.env.table.map (fun x => if x.number == o.number then next else x) }
                plant := report s.env (.order o.number) none s.plant }
            let changes := R ≠ o.rank ∨ V ≠ o.verb ∨ b.arg ≠ o.arg ∨ b.yieldStage ≠ o.yieldStage ∨
              ∃ xh xl, mx = some (xh, xl) ∧ (given xh xl ≠ none ∨ o.expiresAt ≠ none)
            mask ≠ 0 → (match mr with | none => some o.rank | some x => rankOf x) = some R →
            (match mv with | none => some o.verb | some x => verbOf x) = some V →
            R = o.rank ∨ (R ≠ .lockout ∧ o.rank ≠ .lockout) → verbFits o.unit R V = true →
            ma = none ∨ V.carriesArg = true → argFits V b.arg = true → yieldFits R b.yieldStage = true →
            expiryFits R b.expiresAt = true → mapAllows s.env.cfg l o.unit R = true →
            (R = .standing → s.env.relevantStage o.unit < effectiveYield s.env.cfg o.issuer b.yieldStage) →
            (¬ changes → exec (.amend l tag body) s = .next (replied l 0x02 tag .done [rev] s)) ∧
            (changes → exec (.amend l tag body) s = .next
              (replied l 0x02 tag .done [rev + 1] (settle (if R = o.rank then written else resolve [o.unit] written))))) ∧
          (let written := fun b : Order =>
             { s with
               env := { s.env with table := s.env.table.map (fun x => if x.number == b.number then b else x) }
               plant := report s.env (.order b.number) none s.plant }
           let unchanged := replied l 0x02 tag .done [rev] s
           let changed := fun b : Order => replied l 0x02 tag .done [rev + 1] (settle (written { b with revision := rev + 1 }))
           verbFits o.unit o.rank o.verb = true → argFits o.verb o.arg = true → yieldFits o.rank o.yieldStage = true →
           expiryFits o.rank o.expiresAt = true → mapAllows s.env.cfg l o.unit o.rank = true →
           (o.rank = .standing → s.env.relevantStage o.unit < effectiveYield s.env.cfg o.issuer o.yieldStage) →
           (∀ x, o.verb.carriesArg = true → argFits o.verb (absentOnes x) = true →
             exec (.amend l tag [nh, nl, h, rev, 0x01, x]) s =
               .next (if o.arg = absentOnes x then unchanged else changed { o with arg := absentOnes x })) ∧
           (∀ x V, verbOf x = some V → verbFits o.unit o.rank V = true → argFits V o.arg = true →
             exec (.amend l tag [nh, nl, h, rev, 0x02, x]) s =
               .next (if o.verb = V then unchanged else changed { o with verb := V })) ∧
           (∀ x R, rankOf x = some R → o.rank ≠ .lockout → R ≠ .lockout → mapAllows s.env.cfg l o.unit R = true →
             (R = .standing → s.env.relevantStage o.unit < effectiveYield s.env.cfg o.issuer o.yieldStage) →
             exec (.amend l tag [nh, nl, h, rev, 0x04, x]) s =
               .next
                 (if o.rank = R then unchanged
                  else
                    replied l 0x02 tag .done [rev + 1] (settle (resolve [o.unit] (written
                      { o with
                        rank := R
                        yieldStage := if R = .overriding then none else o.yieldStage
                        revision := rev + 1 }))))) ∧
           (∀ x : Byte, yieldFits o.rank (absentZero x.toNat) = true →
             (o.rank = .standing → s.env.relevantStage o.unit < effectiveYield s.env.cfg o.issuer (absentZero x.toNat)) →
             exec (.amend l tag [nh, nl, h, rev, 0x08, x]) s =
               .next
                 (if o.yieldStage = absentZero x.toNat then unchanged
                  else changed { o with yieldStage := absentZero x.toNat })) ∧
           (∀ xh xl, o.rank ≠ .lockout →
             exec (.amend l tag [nh, nl, h, rev, 0x10, xh, xl]) s =
               .next
                 (if word xh xl = 0 then (if o.expiresAt = none then unchanged else changed { o with expiresAt := none })
                  else changed { o with expiresAt := some (s.env.clock + 1000 * word xh xl) })))))

/-- R18, R22: a WITHDRAW, and the expiry of an order whose remaining expiry has reached 0, take the order out of the table and close the gap; governance on its unit is resolved again and
the unit's record follows; every entry of a changed set that names the number carries the reason. A withdrawn lockout asks for the
lockout write and defers the reply. WITHDRAW of a number that no order has, or of another's order, is refused; an order whose expiry is
still to come, after an AMEND that restarted it too, is not removed. -/
def Obligations.OrdersLeaveTheTable : Prop :=
  ∀ s : State, TableOk s →
    (∀ (l : Link) (tag nh nl h : Byte), (s.port l).slot = .empty →
      ((∀ o ∈ s.env.table, o.number ≠ word nh nl) →
        exec (.withdraw l tag [nh, nl, h]) s = .next (replied l 0x03 tag .noSuchOrder [] s)) ∧
      ∀ o ∈ s.env.table, o.number = word nh nl →
        (¬(o.issuer = issuerOfLink l ∧ o.holder = h.toNat) →
          exec (.withdraw l tag [nh, nl, h]) s = .next (replied l 0x03 tag .notOwner [] s)) ∧
        (o.issuer = issuerOfLink l → o.holder = h.toNat →
          ∃ t, exec (.withdraw l tag [nh, nl, h]) s = .next t ∧
            t.env =
              { s.env with
                table := resolveTable s.env.cfg [o.unit] (s.env.table.filter (fun x => x.number != o.number)) } ∧
            t.plant.units.get o.unit = unitRecOf s.env.cfg t.env.table o.unit ∧
            (∀ w, w ≠ o.unit → t.plant.units.get w = s.plant.units.get w) ∧ t.pending = s.pending ∧
            (∀ k, ∀ x ∈ (t.changes k).entries, x.key = .order o.number → x.reason = some .withdrawn) ∧
            (let reply : Reply := ⟨0x03, tag, .done, byte2 o.number⟩
             t.links =
               (putPort l
                 { s.port l with
                   rx := .hunting
                   slot := if o.rank = .lockout then .deferred reply (byte2 o.number) else .waiting reply } s).links) ∧
            t.store = (if o.rank = .lockout then s.store.ask (.locks (lockouts t.env.table)) else s.store))) ∧
    (∀ o ∈ s.env.table, (∀ instant, o.expiresAt = some instant → s.env.clock < instant) →
      exec (.orderExpiry o.number) s = .next s) ∧
    (∀ o ∈ s.env.table, ∀ instant, o.expiresAt = some instant → instant ≤ s.env.clock →
      ∃ t, exec (.orderExpiry o.number) s = .next t ∧
        t.env =
          { s.env with table := resolveTable s.env.cfg [o.unit] (s.env.table.filter (fun x => x.number != o.number)) } ∧
        t.plant.units.get o.unit = unitRecOf s.env.cfg t.env.table o.unit ∧
        (∀ w, w ≠ o.unit → t.plant.units.get w = s.plant.units.get w) ∧ t.pending = s.pending ∧
        (∀ k, ∀ x ∈ (t.changes k).entries, x.key = .order o.number → x.reason = some .expired) ∧
        t.links = s.links ∧ t.store = s.store)

/-- R8, R24: an accepted SET AUTHORITY replaces the whole map of the issuer it names and nothing else of the configuration; the STANDING
orders that their new effective yield stage no longer keeps leave the table, and the other orders keep their order. -/
def Obligations.SetAuthorityAccepted : Prop :=
  ∀ (k : Link) (ranks : PerUnit RankSet) (dormant : Bool) (y : Nat) (tag : Byte) (s : State),
    (s.port .panel).slot = .empty → s.store.state ≠ .saving → 1 ≤ y → y ≤ 4 → ranks.outfall.lockout = false →
    (k = .field → ∀ u, (ranks.get u).lockout = false) →
    let body : List Byte :=
      BitVec.ofNat 8 (issuerOfLink k).code ::
        (UnitId.every.map (fun u =>
          BitVec.ofNat 8 ((ranks.get u).lockout.toNat + 2 * (ranks.get u).overriding.toNat + 4 * (ranks.get u).standing.toNat)) ++
        [if dormant then 1 else 2, BitVec.ofNat 8 y])
    let cfg := { s.env.cfg with authority := s.env.cfg.authority.set k ⟨ranks, dormant, y⟩ }
    let outrun := fun o : Order =>
      o.rank == .standing && decide (o.yieldStage.getD (defaultYieldOf cfg o.issuer) ≤ s.env.relevantStage o.unit)
    ∃ t, exec (.setAuthority .panel tag body) s = .next t ∧
      t.env =
        { s.env with
          cfg := cfg
          table := resolveTable cfg ((s.env.table.filter outrun).map Order.unit).eraseDups
            (s.env.table.filter (fun o => !outrun o)) } ∧
      t.links = (replied .panel 0x06 tag .done [] s).links ∧ t.store = s.store ∧ t.pending = s.pending

/-- R20: LIST ORDERS answers the count of the orders that match the filter, the index of the first match not returned or FFh, the number
of records returned, and up to eight records from the start index, in table order; and it changes nothing. -/
def Obligations.ListOrdersWalksTheTable : Prop :=
  ∀ (l : Link) (tag : Byte) (s : State), (s.port l).slot = .empty →
    (∀ body, body.length ≠ 3 → exec (.listOrders l tag body) s = .next (replied l 0x05 tag .badLength [] s)) ∧
    ∀ kind value start : Byte,
      (kind = 2 → ¬(1 ≤ value.toNat ∧ value.toNat ≤ 17) →
        exec (.listOrders l tag [kind, value, start]) s = .next (replied l 0x05 tag .noSuchUnit [] s)) ∧
      (¬(kind = 1 ∨ kind = 2 ∨ kind = 3) ∨ kind = 3 ∧ ¬(1 ≤ value.toNat ∧ value.toNat ≤ 3) →
        exec (.listOrders l tag [kind, value, start]) s = .next (replied l 0x05 tag .badField [] s)) ∧
      ∀ sel : Order → Bool,
        (kind = 1 ∧ (∀ o, sel o = true)) ∨
          (kind = 2 ∧ ∃ u : UnitId, u.number = value.toNat ∧ ∀ o, sel o = decide (o.unit = u)) ∨
          (kind = 3 ∧ ∃ i : Issuer, i.code = value.toNat ∧ ∀ o, sel o = decide (o.issuer = i)) →
        let hits := s.env.table.filter sel
        let shown := (hits.drop start.toNat).take 8
        let next := start.toNat + shown.length
        exec (.listOrders l tag [kind, value, start]) s = .next
          (replied l 0x05 tag .done
            ([BitVec.ofNat 8 hits.length, if next < hits.length then BitVec.ofNat 8 next else 0xFF, BitVec.ofNat 8 shown.length] ++
              (shown.map (orderBytes s.env.clock)).flatten) s)

/-- R25: each key switch has a debounced state and a stability timer of 1 s that restarts at every change of its input; the debounced
state takes the input's value exactly when the input has been stable for 1 s at the opposite value, so that a shorter change does not
move it; after start-up both are OFF with their timers running from the start. An expiry that comes before its time changes nothing
(log 1), and one that is due is taken by the idle step (log 2). -/
def Obligations.KeySwitchIsDebounced : Prop :=
  (∀ (k : PortalId) (on : Bool) (s : State), s.env.pins.keys.get k ≠ on →
    exec (.keySwitchChange k on) s = .next
      { s with
        env :=
          { s.env with
            pins := { s.env.pins with keys := s.env.pins.keys.set k on }
            keys := s.env.keys.set k ⟨(s.env.keys.get k).on, .since s.env.clock⟩ } }) ∧
  (∀ (k : PortalId) (s : State),
    s.env.pins.keys.get k = (s.env.keys.get k).on ∨
      ¬(∃ start, (s.env.keys.get k).stable = .since start ∧ 1000 ≤ s.env.clock - start) →
    exec (.keyDebounceExpiry k) s = .next s) ∧
  (∀ (k : PortalId) (s : State) (start : Nat), s.env.pins.keys.get k ≠ (s.env.keys.get k).on →
    (s.env.keys.get k).stable = .since start → 1000 ≤ s.env.clock - start →
    ∃ t, exec (.keyDebounceExpiry k) s = .next t ∧
      t.env.keys = s.env.keys.set k ⟨s.env.pins.keys.get k, .stopped⟩ ∧ t.env.pins = s.env.pins) ∧
  (∀ (k : PortalId) (s : State), Instr.keyDebounceExpiry k ∈ dueEvents s ↔
    s.env.pins.keys.get k ≠ (s.env.keys.get k).on ∧
      ∃ start, (s.env.keys.get k).stable = .since start ∧ 1000 ≤ s.env.clock - start) ∧
  (∀ (pins : Inputs) (cut : Bool) (b : BootIn) (s t : State), exec (.startUp pins cut b) s = .next t →
    ∀ k, t.env.keys.get k = ⟨false, .since t.env.clock⟩)

/-- R26: when a key switch's debounced state becomes ON, its KEY order joins the end of the table under the first free number, an
OVERRIDE CLOSE of its portal without argument, yield stage or expiry, and is resolved as any order; when it becomes OFF, that
order leaves. No check of map, stage, service or room is made, and no reply is sent. -/
def Obligations.KeyOrderJoinsAndLeaves : Prop :=
  ∀ (k : PortalId) (s : State), TableOk s →
    (∀ start, (s.env.keys.get k).stable = .since start → 1000 ≤ s.env.clock - start →
      s.env.pins.keys.get k = true → (s.env.keys.get k).on = false →
      ∃ (t : State) (j : Nat), exec (.keyDebounceExpiry k) s = .next t ∧ j ≤ 32 ∧
        let n := nextNumber^[j] s.env.counter
        let o : Order :=
          { number := n, issuer := .key, holder := (match k with | .pe => 1 | .pw => 2), unit := .portal k, rank := .overriding
            verb := .close, arg := none, yieldStage := none, expiresAt := none, revision := 0, governance := .outranked }
        (∀ x ∈ s.env.table, x.number ≠ n) ∧ (∀ i < j, ∃ x ∈ s.env.table, x.number = nextNumber^[i] s.env.counter) ∧
        t.env.table = resolveTable s.env.cfg [.portal k] (s.env.table ++ [o]) ∧
        t.env.counter = (if n = 65535 then 1 else n + 1) ∧
        t.plant.units.get (.portal k) = unitRecOf s.env.cfg t.env.table (.portal k) ∧ t.links = s.links ∧ t.store = s.store) ∧
    (∀ start, (s.env.keys.get k).stable = .since start → 1000 ≤ s.env.clock - start →
      s.env.pins.keys.get k = false → (s.env.keys.get k).on = true →
      ∃ t, exec (.keyDebounceExpiry k) s = .next t ∧
        t.env.table =
          resolveTable s.env.cfg [.portal k]
            (s.env.table.filter (fun o => !(o.issuer == .key && o.holder == (match k with | .pe => 1 | .pw => 2)))) ∧
        t.env.counter = s.env.counter ∧
        t.plant.units.get (.portal k) = unitRecOf s.env.cfg t.env.table (.portal k) ∧ t.links = s.links ∧ t.store = s.store)

/-! ### The Unit Table (chapter 2) -/

/-- R19, R48, R49, R73, R169, R172: the reads answer the record as it stands and change nothing. The order record, the unit record with the
part of its kind, the sump record and the plant record are written out field by field as the rules lay them out, with the codes that
R170 to R172 give or number. The model's choices: the numbering of names and the code of none (log 11), no count byte before the
latches (log 12), seconds that remain rounded up and seconds that have passed rounded down (log 13), 00h for the validity flags while
there is no last sample (log 49), the east side's three luminance fields before the west's (log 51), and FFFFh for the remaining time of a
pump or portal with no named timer running (log 52). -/
def Obligations.ReadsAnswerTheRecord : Prop :=
  (∀ (l : Link) (tag : Byte) (s : State), (s.port l).slot = .empty →
    let b := fun n : Nat => BitVec.ofNat 8 n
    let w := fun n : Nat => [b (n / 256), b n]
    let y := fun c : Bool => if c then (1 : Byte) else 0
    let now := s.env.clock
    let left := fun (limit : Nat) (t : Timer) =>
      match t with
      | .since start => some ((limit - (now - start) + 999) / 1000)
      | _ => none
    let first := fun timers : List (Nat × Option Nat) => timers.find? (fun x => x.2.isSome)
    (∀ body, body.length ≠ 2 → exec (.lookupOrder l tag body) s = .next (replied l 0x04 tag .badLength [] s)) ∧
    (∀ nh nl, (∀ o ∈ s.env.table, o.number ≠ word nh nl) →
      exec (.lookupOrder l tag [nh, nl]) s = .next (replied l 0x04 tag .noSuchOrder [] s)) ∧
    (∀ nh nl o, s.env.table.find? (fun x => x.number == word nh nl) = some o →
      exec (.lookupOrder l tag [nh, nl]) s = .next
        (replied l 0x04 tag .done
          (w o.number ++ [b o.issuer.code, b o.holder, b o.unit.number, b o.rank.code, b o.verb.code, b (o.arg.getD 255),
            b (o.yieldStage.getD 0)] ++
            (match o.expiresAt with
             | none => [0, 0]
             | some instant => w (max 1 ((instant - now + 999) / 1000))) ++
            [o.revision, b o.governance.code]) s)) ∧
    (∀ body, body.length ≠ 1 → exec (.readUnit l tag body) s = .next (replied l 0x10 tag .badLength [] s)) ∧
    (∀ c : Byte, ¬(1 ≤ c.toNat ∧ c.toNat ≤ 17) → exec (.readUnit l tag [c]) s = .next (replied l 0x10 tag .noSuchUnit [] s)) ∧
    (∀ u : UnitId,
      exec (.readUnit l tag [b u.number]) s = .next
        (replied l 0x10 tag .done
          ([b u.number, b (kindCode u), b (serviceOf s.env.cfg u).code, y (s.plant.locked u)] ++
            w (((s.plant.units.get u).governing).getD 0) ++ [b (s.plant.source u).code] ++
            (match u with
             | .pump i =>
               let q := s.plant.pumps.get i
               let c := s.env.cfg.pumps.get i
               let run := first [(1, left (1000 * c.confirmLimit) q.confirm), (2, left (1000 * c.surgeTime) q.surge),
                 (3, left (1000 * c.minRun) q.minRun), (4, left (1000 * q.restLength) q.minRest)]
               [b (sumpCode c.sump), b q.run.code, b ((q.fault.map FaultKind.code).getD 0), y q.dry, y q.starved,
                 if q.hand then 1 else 2, b q.starts.length] ++
               w ((q.starts.head?.map (fun t => (now - t) / 1000)).getD 65535) ++
               w ((run.bind Prod.snd).getD 65535) ++ [b ((run.map Prod.fst).getD 0)]
             | .portal i =>
               let q := s.plant.portals.get i
               let c := s.env.cfg.portals.get i
               let pins := s.env.portalPins i
               let run := first [(1, left (1000 * c.warningTime) q.warn), (2, left (travelLimit c q) q.travel),
                 (3, left (1000 * c.retryDelay) q.retry), (4, left (1000 * c.clearConfirm) q.confirm),
                 (5, left (1000 * c.clearLimit) q.limit)]
               [b q.seq.code, b ((q.resume.map Seq.code).getD 0), b ((q.jam.map JamCause.code).getD 0), b q.retries, y q.permit,
                 y q.starved, b q.signal.code, y pins.gateOpen, y pins.gateClosed, y pins.barrierRaised, y pins.barrierLowered,
                 y pins.edge, b q.motion.code, b ((q.result.map HandResult.code).getD 0), b ((run.map Prod.fst).getD 0)] ++
               w ((run.bind Prod.snd).getD 65535)
             | .zone z =>
               let q := s.plant.zones.get z
               [b q.target, b q.comp, b q.allowance, b q.output, b q.ramp.code, b q.deficit, y q.flag, b q.hand]
             | .outfall =>
               [b (((governingOrder s.env s.plant .outfall).bind Order.arg).getD 255),
                 b (PumpId.every.countP (fun i => (s.plant.pumps.get i).live))])) s)) ∧
    (∀ body, body.length ≠ 1 → exec (.readSump l tag body) s = .next (replied l 0x18 tag .badLength [] s)) ∧
    (∀ c : Byte, ¬(1 ≤ c.toNat ∧ c.toNat ≤ 3) → exec (.readSump l tag [c]) s = .next (replied l 0x18 tag .badField [] s)) ∧
    (∀ u : SumpId,
      let m := s.env.sumps.get u
      let level := fun f : Option Nat => w (f.getD 65535) ++ [y f.isSome]
      let d := s.plant.duty.get u
      exec (.readSump l tag [b (sumpCode u)]) s = .next
        (replied l 0x18 tag .done
          (w (m.level.getD 65535) ++ (match m.rate with | none => [0x80, 0x00] | some r => w (BitVec.ofInt 16 r).toNat) ++
            w (m.forecast.getD 0) ++ [b m.mode.code, b m.allowance, b m.invalidCount, b m.stage, b (m.candidate.getD 255)] ++
            w (match m.hold with | .stopped => 65535 | .held ms => ms / 1000 | .since start => (now - start) / 1000) ++
            w ((m.last.map Sample.countA).getD 65535) ++ w ((m.last.map Sample.countB).getD 65535) ++
            level (m.last.bind Sample.levelA) ++ level (m.last.bind Sample.levelB) ++
            [if m.high.active then 1 else 2, if m.extreme.active then 1 else 2, b (s.env.ring u).length] ++
            (s.env.ring u).map (fun i => b (UnitId.pump i).number) ++ [b d.lead] ++ d.latches.map y) s)) ∧
    (∀ body, body ≠ [] → exec (.readPlant l tag body) s = .next (replied l 0x20 tag .badLength [] s)) ∧
    (let p := s.plant
     let supply := s.env.cfg.supply
     let passed := fun t : Timer => match t with | .stopped => 0 | .held ms => ms | .since start => now - start
     let side := fun x : Window =>
       w (if x.samples = [] then 65535 else x.samples.sum / x.samples.length) ++ [b x.samples.length, y x.lost]
     exec (.readPlant l tag []) s = .next
       (replied l 0x20 tag .done
         ([s.links.address] ++ w (match s.env.cfg.fieldRate with | .b9600 => 9600 | .b19200 => 19200 | .b38400 => 38400) ++
           [b p.arb.supply.code] ++
           w (match p.arb.supply with | .grid => supply.grid | .standby => supply.standby | .transfer => 0 | .dark => 0) ++
           w (if p.arb.supply = .transfer then passed p.arb.transfer / 1000 else 65535) ++
           w (nonLampLoad s.env p) ++ w (lampLoad s.env p) ++ w (shedReservation s.env.cfg) ++
           [if p.arb.spacing = .stopped then 0 else b ((1000 * supply.spacing - passed p.arb.spacing + 999) / 1000),
            b s.env.underpass, b s.store.state.code] ++
           w p.attn.present.toNat ++
           [b s.env.table.length, b (s.env.table.countP (fun o => o.issuer == .field || o.issuer == .panel)),
            b (s.env.table.countP (fun o => o.issuer == .key)), b (grantOrderNow s.env p.arb.queue).length] ++
           (grantOrderNow s.env p.arb.queue).map (fun r => b r.unit.number) ++ [y p.portals.pe.permit, y p.portals.pw.permit] ++
           side s.env.windows.east ++ side s.env.windows.west) s))) ∧
  [Issuer.field, .panel, .key].map Issuer.code = [1, 2, 3] ∧
  [Rank.lockout, .overriding, .standing].map Rank.code = [1, 2, 3] ∧
  [Verb.run, .stop, .open, .close, .hold, .level, .limit, .lock].map Verb.code = [1, 2, 3, 4, 5, 6, 7, 8] ∧
  [Governance.governing, .outranked, .dormant].map Governance.code = [1, 2, 3] ∧
  [Service.inService, .inHand, .outOfService].map Service.code = [1, 2, 3] ∧
  [Source.lock, .hand, .order, .automatic, .off].map Source.code = [1, 2, 3, 4, 5] ∧
  [UnitId.pump .p1, .portal .pe, .zone .z1, .outfall].map kindCode = [1, 2, 3, 4] ∧
  [RunState.stopped, .queued, .starting, .running, .resting, .faulted].map RunState.code = [1, 2, 3, 4, 5, 6] ∧
  [FaultKind.thermal, .noStart, .lostRun].map FaultKind.code = [1, 2, 3] ∧
  [Seq.open, .warning, .barring, .clearing, .sealing, .sealed, .unsealing, .lifting, .held, .jammed, .unsettled, .out, .hand].map
    Seq.code = [1, 2, 3, 4, 5, 6, 7, 8, 9, 10, 11, 12, 13] ∧
  [JamCause.edge, .travel].map JamCause.code = [1, 2] ∧ [Aspect.dark, .amberFlash, .red].map Aspect.code = [1, 2, 3] ∧
  [HandMotion.none, .gateOpening, .gateClosing, .barrierRising, .barrierLowering].map HandMotion.code = [0, 1, 2, 3, 4] ∧
  [HandResult.limit, .travel, .edge, .guarding, .stop].map HandResult.code = [1, 2, 3, 4, 5] ∧
  [Ramp.none, .up, .down].map Ramp.code = [0, 1, 2] ∧
  [Mode.none, .dual, .corrected, .single, .float, .barred].map Mode.code = [1, 2, 3, 4, 5, 6] ∧
  [Supply.grid, .standby, .transfer, .dark].map Supply.code = [1, 2, 3, 4] ∧
  [StoreState.idle, .saving, .writingLocks].map StoreState.code = [1, 2, 3]

/-- R34: SET SERVICE with the present service state changes nothing; any other accepted one records the new service state of that unit
alone, resolves governance on it again, and its record follows. -/
def Obligations.SetServiceAccepted : Prop :=
  ∀ (tag ub vb : Byte) (u : UnitId) (v : Service) (s : State),
    (s.port .panel).slot = .empty → s.store.state ≠ .saving → unitOf ub = some u → u ≠ .outfall → serviceCode vb = some v →
    (serviceOf s.env.cfg u = v → exec (.setService .panel tag [ub, vb]) s = .next (replied .panel 0x11 tag .done [] s)) ∧
    (serviceOf s.env.cfg u ≠ v →
      ∃ (t : State) (c : WorkConfig), exec (.setService .panel tag [ub, vb]) s = .next t ∧
        serviceOf c u = v ∧ (∀ w, w ≠ u → serviceOf c w = serviceOf s.env.cfg w) ∧
        c = { s.env.cfg with pumpService := c.pumpService, portalService := c.portalService, zoneService := c.zoneService } ∧
        t.env = { s.env with cfg := c, table := resolveTable c [u] s.env.table } ∧
        t.plant.units.get u = unitRecOf c t.env.table u ∧ (∀ w, w ≠ u → t.plant.units.get w = s.plant.units.get w) ∧
        t.links = (replied .panel 0x11 tag .done [] s).links ∧ t.store = s.store ∧ t.pending = s.pending)

/-- R35, R36: a unit that enters OUT_OF_SERVICE has its outputs off and its hand settings at their off values: a pump that was not
FAULTED ends STOPPED; a portal is OUT and shows RED with no motion, permit, jam or timer; a zone is at output 0. A unit that enters
IN_HAND takes its hand settings from what its outputs do: a live pump is ON; a driven motor becomes the hand motion; a zone's output
becomes its hand level. A unit that enters IN_SERVICE (R37): a QUEUED pump loses its place and is STOPPED, any other pump stays as it
is, and the hand settings are kept (log 38); a portal's hand motion ends with STOP, its permit is released, and it settles; a budgeted zone that comes from OUT_OF_SERVICE first
has room made for its shed load (R104), and an unlocked zone ramps from its output toward the smaller of its compensated target and its
allowance. Governance on the unit is then resolved again, its report made, and the blocks act on its demand. And the lock flag (R38, R132,
R133, R136): when a unit's record takes up a lockout, a pump IN_HAND is OFF, a portal IN_HAND ends its motion with STOP and shows RED, a
zone IN_HAND has hand level 0, and a portal IN_SERVICE that is not SEALED, OPEN, JAMMED or HELD enters HELD; when it loses its last
lockout, a portal IN_SERVICE settles. -/
def Obligations.ServiceEntryActions : Prop :=
  (∀ (tag ub vb : Byte) (u : UnitId) (v : Service) (s t : State),
    GovernanceOk s → PumpsOk s → QueueOk s → PortalsOk s → LimitOk s → LockedStill s →
    (s.port .panel).slot = .empty → s.store.state ≠ .saving → unitOf ub = some u → serviceCode vb = some v →
    serviceOf s.env.cfg u ≠ v → exec (.setService .panel tag [ub, vb]) s = .next t →
    (∀ i, u = .pump i → v = .outOfService →
      (t.plant.pumps.get i).run = (if (s.plant.pumps.get i).run = .faulted then .faulted else .stopped) ∧
      (t.plant.pumps.get i).hand = false ∧ (t.plant.pumps.get i).starts = (s.plant.pumps.get i).starts) ∧
    (∀ i, u = .portal i → v = .outOfService →
      (t.plant.portals.get i).seq = .out ∧ (t.plant.portals.get i).signal = .red ∧ (t.plant.portals.get i).permit = false ∧
      (t.plant.portals.get i).motion = .none ∧ (t.plant.portals.get i).resume = none ∧ (t.plant.portals.get i).jam = none ∧
      (t.plant.portals.get i).retries = 0 ∧ (t.plant.portals.get i).warn = .stopped ∧ (t.plant.portals.get i).travel = .stopped ∧
      (t.plant.portals.get i).confirm = .stopped ∧ (t.plant.portals.get i).limit = .stopped ∧
      (t.plant.portals.get i).retry = .stopped) ∧
    (∀ z, u = .zone z → v = .outOfService →
      (t.plant.zones.get z).output = 0 ∧ (t.plant.zones.get z).hand = 0 ∧ (t.plant.zones.get z).ramp = .none) ∧
    (∀ i, u = .pump i → v = .inHand → (t.plant.pumps.get i).hand = (s.plant.pumps.get i).live) ∧
    (∀ i, u = .portal i → v = .inHand →
      (t.plant.portals.get i).seq = .hand ∧
      (t.plant.portals.get i).motion =
        (match (s.plant.portals.get i).motor with
         | none => .none
         | some .gateOpen => .gateOpening
         | some .gateClose => .gateClosing
         | some .barrierUp => .barrierRising
         | some .barrierDown => .barrierLowering) ∧
      (t.plant.portals.get i).result = none ∧ (t.plant.portals.get i).jam = (s.plant.portals.get i).jam) ∧
    (∀ z, u = .zone z → v = .inHand → (t.plant.zones.get z).hand = (s.plant.zones.get z).output ∧
      (t.plant.zones.get z).ramp = .none) ∧
    (v = .inService →
      let taken := fun (c : WorkConfig) (act : Env → Plant → Plant) =>
        let e := { s.env with cfg := c }
        let s1 := resolve [u] { s with env := e, plant := act e s.plant }
        { s1 with plant := report s1.env (.unit u) none s1.plant }
      (∀ i, u = .pump i →
        let c := { s.env.cfg with pumpService := s.env.cfg.pumpService.set i .inService }
        t = replied .panel 0x11 tag .done []
          (settle (taken c (fun e p => if (p.pumps.get i).run = .queued then unqueuePump e i p else p))) ∧
        (∀ e p, ((unqueuePump e i p).pumps.get i).run = .stopped ∧ (unqueuePump e i p).queued (.pump i) = false)) ∧
      (∀ i, u = .portal i →
        let c := { s.env.cfg with portalService := s.env.cfg.portalService.set i .inService }
        t = replied .panel 0x11 tag .done []
          (settle (taken c (fun e p =>
            settlePortal e i (letGo e i (if (p.portals.get i).motion = .none then p else endHand e i .stop p))))) ∧
        (∀ e p, ((letGo e i p).portals.get i).permit = false ∧ (letGo e i p).queued (.portal i) = false)) ∧
      (∀ z, u = .zone z →
        let c := { s.env.cfg with zoneService := s.env.cfg.zoneService.set z .inService }
        let s1 := taken c (fun _ p => p)
        t = replied .panel 0x11 tag .done []
          (settle
            (if z ≠ .z6 ∧ s.env.cfg.zoneService.get z = .outOfService then { s1 with plant := makeRoom s1.env 10 s1.plant }
             else s1)) ∧
        (z ≠ .z6 → t.plant.locked (.zone z) = false →
          let q := t.plant.zones.get z
          q.ramp =
            (if q.output < min q.comp q.allowance then .up
             else if min q.comp q.allowance < q.output then .down
             else .none))))) ∧
  ∀ (e : Env) (u : UnitId) (p : Plant),
    let p' := syncUnit e u p
    let lockout := ∃ o ∈ e.table, o.unit = u ∧ o.rank = .lockout
    p'.units = p.units.set u (unitRecOf e.cfg e.table u) ∧
    (p.locked u = false → lockout →
      (∀ i, u = .pump i →
        p'.pumps.get i =
          if e.cfg.pumpService.get i = .inHand then { p.pumps.get i with hand := false } else p.pumps.get i) ∧
      (∀ i, u = .portal i →
        let q := p.portals.get i
        let q' := p'.portals.get i
        (e.cfg.portalService.get i = .inHand →
          q'.seq = q.seq ∧ q'.signal = .red ∧ q'.motion = .none ∧
          (q.motion ≠ .none →
            q'.permit = false ∧ q'.result = some .stop ∧ q'.travel = .stopped ∧ p'.queued (.portal i) = false)) ∧
        (e.cfg.portalService.get i = .inService →
          (q.seq = .sealed ∨ q.seq = .open ∨ q.seq = .jammed ∨ q.seq = .held → q' = q) ∧
          (q.seq.motionStep = true ∨ q.seq = .warning ∨ q.seq = .clearing ∨ q.seq = .unsettled →
            q'.seq = .held ∧ q'.resume = some q.seq ∧ q'.signal = q.signal ∧ q'.permit = false ∧ q'.motor = none ∧
            p'.queued (.portal i) = false))) ∧
      (∀ z, u = .zone z →
        (p'.zones.get z).hand = if e.cfg.zoneService.get z = .inHand then 0 else (p.zones.get z).hand)) ∧
    (p.locked u = true → ¬ lockout → ∀ i, u = .portal i → e.cfg.portalService.get i = .inService →
      p' = settlePortal e i (report e (.unit u) none { p with units := p.units.set u (unitRecOf e.cfg e.table u) }))

/-- R39 to R43: an accepted HAND DRIVE records the hand setting of its drive and is answered DONE; the plant's blocks act on it. GATE_CLOSE
needs the barrier at its lowered limit and a RED signal, BARRIER_UP the gate at its open limit, and a SIGNAL other than RED no gate
closing in hand; a locked unit is UNIT_LOCKED, and a unit that is not IN_HAND WRONG_STATE. What a hand motion does at once: with its
target limit active it is over with LIMIT; else the old motion, if there was one, has ended with STOP, and the new one keeps the
permit or waits for one, its travel timer fresh (log 24; a drive that repeats the motion under way too, log 47); a closing gate starts so
even though the safety edge is active (log 25). A hand motion that ends releases the permit, leaves the start queue and records why. -/
def Obligations.HandDriveActs : Prop :=
  (∀ (tag ub : Byte) (s : State), (s.port .panel).slot = .empty →
    let answer := fun (c : Code) (t : State) => Host.Outcome.next (φ := Fault) (ρ := Refusal) (replied .panel 0x12 tag c [] t)
    let acted := fun p : Plant => answer .done (settle { s with plant := p })
    (∀ u d arg, unitOf ub = some u → u ≠ .outfall → (driveOf u d arg).isSome = true → s.plant.locked u = true →
      exec (.handDrive .panel tag [ub, d, arg]) s = answer .unitLocked s) ∧
    (∀ u d arg, unitOf ub = some u → u ≠ .outfall → (driveOf u d arg).isSome = true → s.plant.locked u = false →
      serviceOf s.env.cfg u ≠ .inHand → exec (.handDrive .panel tag [ub, d, arg]) s = answer .wrongState s) ∧
    (∀ i, unitOf ub = some (.pump i) → s.plant.locked (.pump i) = false → s.env.cfg.pumpService.get i = .inHand →
      exec (.handDrive .panel tag [ub, 1, 0]) s = acted (putPump s.env i { s.plant.pumps.get i with hand := true } s.plant) ∧
      exec (.handDrive .panel tag [ub, 2, 0]) s = acted (putPump s.env i { s.plant.pumps.get i with hand := false } s.plant)) ∧
    (∀ i, unitOf ub = some (.portal i) → s.plant.locked (.portal i) = false → s.env.cfg.portalService.get i = .inHand →
      exec (.handDrive .panel tag [ub, 1, 0]) s = acted (setHand s.env i .gateOpening s.plant) ∧
      exec (.handDrive .panel tag [ub, 2, 0]) s =
        (if (s.env.portalPins i).barrierLowered = true ∧ (s.plant.portals.get i).signal = .red then
           acted (setHand s.env i .gateClosing s.plant)
         else answer .wrongState s) ∧
      exec (.handDrive .panel tag [ub, 3, 0]) s =
        acted (if (s.plant.portals.get i).motion = .gateOpening ∨ (s.plant.portals.get i).motion = .gateClosing then
            endHand s.env i .stop s.plant else s.plant) ∧
      exec (.handDrive .panel tag [ub, 4, 0]) s =
        (if (s.env.portalPins i).gateOpen = true then acted (setHand s.env i .barrierRising s.plant) else answer .wrongState s) ∧
      exec (.handDrive .panel tag [ub, 5, 0]) s = acted (setHand s.env i .barrierLowering s.plant) ∧
      exec (.handDrive .panel tag [ub, 6, 0]) s =
        acted (if (s.plant.portals.get i).motion = .barrierRising ∨ (s.plant.portals.get i).motion = .barrierLowering then
            endHand s.env i .stop s.plant else s.plant) ∧
      (∀ arg a, aspectOf arg = some a →
        exec (.handDrive .panel tag [ub, 7, arg]) s =
          (if a = .red ∨ (s.plant.portals.get i).motion ≠ .gateClosing then
             acted (putPortal s.env i { s.plant.portals.get i with signal := a } s.plant)
           else answer .wrongState s))) ∧
    (∀ z (arg : Byte), unitOf ub = some (.zone z) → s.plant.locked (.zone z) = false → s.env.cfg.zoneService.get z = .inHand →
      arg.toNat ≤ 100 → (z = .z6 → arg.toNat = 0 ∨ arg.toNat = 100) →
      exec (.handDrive .panel tag [ub, 1, arg]) s =
        acted (putZone s.env z { s.plant.zones.get z with hand := arg.toNat } s.plant))) ∧
  ∀ (e : Env) (i : PortalId) (m : HandMotion) (why : HandResult) (p : Plant),
    (let q := (endHand e i why p).portals.get i
     q.motion = .none ∧ q.permit = false ∧ q.result = some why ∧ q.travel = .stopped ∧ q.motor = none) ∧
    (endHand e i why p).queued (.portal i) = false ∧
    (motionTarget (e.portalPins i) m = true → setHand e i m p = endHand e i .limit p) ∧
    (motionTarget (e.portalPins i) m = false →
      let p' := setHand e i m p
      (p'.portals.get i).motion = m ∧ (p'.portals.get i).permit = (p.portals.get i).permit ∧
      (p'.portals.get i).result = (if (p.portals.get i).motion = .none then (p.portals.get i).result else some .stop) ∧
      (p'.portals.get i).travel = (if (p.portals.get i).permit then .since e.clock else .held 0) ∧
      ((p.portals.get i).permit = false → p'.queued (.portal i) = true))

/-- R44, R77, R97, R156: an accepted SET UNIT CONFIG replaces the settings of that unit alone, byte by byte as R173 lays them out. A zone's
deficit and flag are cleared. A pump whose sump changes leaves its old ring and joins the end of the new one, whose new latch is
clear, the old ring's last latch vanishes, and its STANDING orders that the new sump's stage outruns leave the table; both leads stand
at position 1 when the walks are made again. -/
def Obligations.SetUnitConfigAccepted : Prop :=
  ∀ (tag ub : Byte) (s : State), (s.port .panel).slot = .empty → s.store.state ≠ .saving →
    (∀ i cs wt bt gh gl cc lh ll rd rc kw, unitOf ub = some (.portal i) → s.env.cfg.portalService.get i = .outOfService →
      let v : PortalCfg :=
        { closureStage := BitVec.toNat cs, warningTime := BitVec.toNat wt, barrierTravel := BitVec.toNat bt, gateTravel := word gh gl
          clearConfirm := BitVec.toNat cc, clearLimit := word lh ll, retryDelay := BitVec.toNat rd, retryCount := BitVec.toNat rc
          motorKw := BitVec.toNat kw }
      portalCfgFits v = true →
      ∃ t, exec (.setUnitConfig .panel tag [ub, cs, wt, bt, gh, gl, cc, lh, ll, rd, rc, kw]) s = .next t ∧
        t.env = { s.env with cfg := { s.env.cfg with portals := s.env.cfg.portals.set i v } } ∧
        t.links = (replied .panel 0x13 tag .done [] s).links ∧ t.store = s.store ∧ t.plant.units = s.plant.units) ∧
    (∀ z ro sd ik lh ll fl al sh k f up dn tol fh fsl role side, unitOf ub = some (.zone z) →
      s.env.cfg.zoneService.get z = .outOfService → roleOf ro = some role → sideOf sd = some side →
      let v : ZoneCfg :=
        { role := role, side := side, installed := BitVec.toNat ik, lmax := word lh ll, floor := BitVec.toNat fl
          alertFloor := BitVec.toNat al, shed := BitVec.toNat sh, k := BitVec.toNat k, f := BitVec.toNat f
          rampUp := BitVec.toNat up, rampDown := BitVec.toNat dn, tolerance := BitVec.toNat tol, fullScale := word fh fsl }
      let c := { s.env.cfg with zones := s.env.cfg.zones.set z v }
      zoneCfgFits z v = true → shedOfAll c ≤ min c.supply.grid c.supply.standby →
      ∃ t, exec (.setUnitConfig .panel tag [ub, ro, sd, ik, lh, ll, fl, al, sh, k, f, up, dn, tol, fh, fsl]) s = .next t ∧
        t.env = { s.env with cfg := c } ∧ (t.plant.zones.get z).deficit = 0 ∧ (t.plant.zones.get z).flag = false ∧
        t.links = (replied .panel 0x13 tag .done [] s).links ∧ t.store = s.store ∧ t.plant.units = s.plant.units) ∧
    (∀ i us ld sh sl st mh ml rh rl sp cf new, unitOf ub = some (.pump i) → s.env.cfg.pumpService.get i = .outOfService →
      sumpOf us = some new →
      let v : PumpCfg :=
        { sump := new, load := BitVec.toNat ld, surge := word sh sl, surgeTime := BitVec.toNat st, minRun := word mh ml
          minRest := word rh rl, startsPerHour := BitVec.toNat sp, confirmLimit := BitVec.toNat cf }
      let c := { s.env.cfg with pumps := s.env.cfg.pumps.set i v }
      let old := (s.env.cfg.pumps.get i).sump
      let body := [ub, us, ld, sh, sl, st, mh, ml, rh, rl, sp, cf]
      pumpCfgFits v = true →
      (new = old →
        ∃ t, exec (.setUnitConfig .panel tag body) s = .next t ∧ t.env = { s.env with cfg := c } ∧
          t.links = (replied .panel 0x13 tag .done [] s).links ∧ t.store = s.store ∧ t.plant.units = s.plant.units) ∧
      (new ≠ old → (s.env.ring old).length = 1 ∨ 4 ≤ (s.env.ring new).length →
        exec (.setUnitConfig .panel tag body) s = .next (replied .panel 0x13 tag .badField [] s)) ∧
      (new ≠ old → (s.env.ring old).length ≠ 1 → (s.env.ring new).length < 4 →
        ∃ t, exec (.setUnitConfig .panel tag body) s = .next t ∧
          t.env.cfg =
            { c with
              sumps :=
                (c.sumps.set old { c.sumps.get old with ring := (c.sumps.get old).ring.filter (fun j => j != i) }).set new
                  { c.sumps.get new with ring := (c.sumps.get new).ring ++ [i] } } ∧
          (t.plant.duty.get old).latches = (s.plant.duty.get old).latches.dropLast ∧
          (t.plant.duty.get new).latches = (s.plant.duty.get new).latches ++ [false] ∧
          (∀ o ∈ t.env.table, o.unit = .pump i → o.rank = .standing →
            (s.env.sumps.get new).stage < effectiveYield c o.issuer o.yieldStage) ∧
          t.links = (replied .panel 0x13 tag .done [] s).links ∧ t.store = s.store ∧
          ∃ s1, t = replied .panel 0x13 tag .done [] (settle s1) ∧ (s1.plant.duty.get old).lead = 1 ∧
            (s1.plant.duty.get new).lead = 1))

/-- R45 to R47: a reset of a unit without a fault, or whose cause input is still active, is WRONG_STATE. An accepted one of a pump or a
portal makes the unit's UNIT entry in both changed sets and clears no latched cause. A pump's fault is cleared and it rests from the reset
for its min rest, or is STOPPED in the event where the min rest is 0; a jammed portal in service takes up its resume state with a fresh
travel timer, or, while it is locked, goes to HELD with it (log 40); a jam kept in hand is discarded with its resume state, and the
portal remains in HAND with its hand motion none, a motion under way ended with STOP (log 45). -/
def Obligations.ResetFaultActs : Prop :=
  ∀ (l : Link) (tag ub : Byte) (s : State), (s.port l).slot = .empty →
    (∀ u, unitOf ub = some u → hasFault s.env s.plant u = false ∨ causeGone s.env s.plant u = false →
      exec (.resetFault l tag [ub]) s = .next (replied l 0x14 tag .wrongState [] s)) ∧
    (∀ u, unitOf ub = some u → hasFault s.env s.plant u = true → causeGone s.env s.plant u = true →
      ∃ t, exec (.resetFault l tag [ub]) s = .next t ∧ t.env = s.env ∧ t.plant.units = s.plant.units ∧
        t.links = (replied l 0x14 tag .done [] s).links ∧ t.store = s.store ∧ t.pending = s.pending ∧
        (∀ c : Cause, c.latched = true → c.isIn s.plant.attn.present = true → c.isIn t.plant.attn.present = true) ∧
        (∀ k, (t.changes k).overfull = true ∨ ∃ x ∈ (t.changes k).entries, x.key = .unit u)) ∧
    (∀ i, (hasFault s.env s.plant (.pump i) = true ↔ (s.plant.pumps.get i).run = .faulted) ∧
      (causeGone s.env s.plant (.pump i) = true ↔
        ¬((s.plant.pumps.get i).fault = some .thermal ∧ s.env.pins.thermal.get i = true))) ∧
    (∀ i, unitOf ub = some (.pump i) → hasFault s.env s.plant (.pump i) = true → causeGone s.env s.plant (.pump i) = true →
      let q := s.plant.pumps.get i
      let rest := (s.env.cfg.pumps.get i).minRest
      let p := resetPump s.env i s.plant
      exec (.resetFault l tag [ub]) s =
        .next (replied l 0x14 tag .done [] (settle { s with plant := report s.env (.unit (.pump i)) none p })) ∧
      p.pumps.get i =
        { q with
          fault := none
          run := if rest = 0 then .stopped else .resting
          minRest := if rest = 0 then .stopped else .since s.env.clock
          restLength := rest } ∧
      (∀ j, j ≠ i → p.pumps.get j = s.plant.pumps.get j) ∧ p.portals = s.plant.portals ∧ p.zones = s.plant.zones ∧
      p.duty = s.plant.duty ∧ p.arb = s.plant.arb ∧ p.attn.present = s.plant.attn.present ∧
      (PumpsOk s → 0 < rest → ∀ t, exec (.resetFault l tag [ub]) s = .next t →
        (t.plant.pumps.get i).run = .resting ∧ (t.plant.pumps.get i).fault = none ∧
        (t.plant.pumps.get i).minRest = .since s.env.clock ∧ (t.plant.pumps.get i).restLength = rest ∧
        (t.plant.pumps.get i).dry = q.dry ∧ (t.plant.pumps.get i).starts = q.starts)) ∧
    (∀ i, (hasFault s.env s.plant (.portal i) = true ↔
        (s.plant.portals.get i).seq = .jammed ∨
          (s.env.cfg.portalService.get i = .inHand ∧ (s.plant.portals.get i).jam ≠ none)) ∧
      (causeGone s.env s.plant (.portal i) = true ↔
        ¬((s.plant.portals.get i).jam = some .edge ∧ (s.env.portalPins i).edge = true))) ∧
    (∀ i, unitOf ub = some (.portal i) → hasFault s.env s.plant (.portal i) = true → causeGone s.env s.plant (.portal i) = true →
      exec (.resetFault l tag [ub]) s = .next (replied l 0x14 tag .done []
        (settle { s with plant := report s.env (.unit (.portal i)) none (resetPortal s.env i s.plant) })) ∧
      ((s.plant.portals.get i).seq = .hand →
        let p := resetPortal s.env i s.plant
        let q := p.portals.get i
        q.seq = .hand ∧ q.motion = .none ∧ q.jam = none ∧ q.resume = none ∧ q.retries = 0 ∧
        ((s.plant.portals.get i).motion ≠ .none →
          q.permit = false ∧ q.result = some .stop ∧ p.queued (.portal i) = false)) ∧
      ((s.plant.portals.get i).seq ≠ .jammed → (s.plant.portals.get i).seq ≠ .hand →
        resetPortal s.env i s.plant =
          putPortal s.env i { s.plant.portals.get i with jam := none, resume := none, retries := 0 } s.plant) ∧
      (∀ st, (s.plant.portals.get i).seq = .jammed → (s.plant.portals.get i).resume = some st →
        s.plant.locked (.portal i) = false →
        resetPortal s.env i s.plant =
          toStep s.env i st (.held 0)
            (putPortal s.env i { s.plant.portals.get i with jam := none, resume := none, retries := 0 } s.plant)) ∧
      (∀ st, (s.plant.portals.get i).seq = .jammed → (s.plant.portals.get i).resume = some st → st.motionStep = true →
        s.plant.locked (.portal i) = true →
        resetPortal s.env i s.plant =
          putPortal s.env i
            { s.plant.portals.get i with
              seq := .held, resume := some st, jam := none, retries := 0, travel := .held 0
              signal := if st = .lifting then .amberFlash else .red } s.plant))

/-! ### Sump Measurement (chapter 3) -/

/-- R52: at every sample event, in every mode, the section records the two raw counts and their levels: a count of 205 to 4060 is valid and
its level is the difference from the zero, times the gain, divided by 1024 and rounded down, within 0 to 9999 mm; any other count has
no level. With the default calibration 205 scales to 0 mm and 4060 to 4946 mm. -/
def Obligations.SampleIsScaledAndRecorded : Prop :=
  (∀ (u : SumpId) (a b : Nat) (s : State),
    ∃ t, exec (.sumpSample u a b) s = .next t ∧
      let c := (s.env.cfg.sumps.get u).calibration
      let scaled := fun (z k count : Nat) =>
        if 205 ≤ count ∧ count ≤ 4060 then
          some (if count < z then 0 else min 9999 ((count - z) * k / 1024))
        else none
      (t.env.sumps.get u).last =
        some { countA := a, countB := b, levelA := scaled c.za c.ka a, levelB := scaled c.zb c.kb b }) ∧
  levelOfCount 819 1563 205 = some 0 ∧ levelOfCount 819 1563 4060 = some 4946 ∧
  (factoryDefaults.sumps.get .c).calibration.za = 819 ∧ (factoryDefaults.sumps.get .c).calibration.ka = 1563

/-- R53 to R56: the vote of two valid counts, of one and of none, in every mode: the sample's level, the mode, the allowance, the invalid
count, and what FLOAT and BARRED freeze and clear. -/
def Obligations.VoteOfEverySample : Prop :=
  ∀ (u : SumpId) (a b : Nat) (s t : State), exec (.sumpSample u a b) s = .next t →
    let c := s.env.cfg.sumps.get u
    let x := sampleOf c.calibration a b
    let m := s.env.sumps.get u
    let m' := t.env.sumps.get u
    let seeded := fun L : Nat =>
      some (match m.level with
            | none => L
            | some f => filterLevel c.staging.w L f)
    let frozen := m'.level = m.level ∧ m'.level10 = m.level10 ∧ m'.rateCount = m.rateCount
    (m.mode = .barred →
      m'.mode = .barred ∧ frozen ∧ m'.rate = m.rate ∧ m'.forecast = m.forecast ∧ m'.invalidCount = m.invalidCount ∧
        m'.allowance = m.allowance) ∧
    (m.mode ≠ .barred → ∀ A B, x.levelA = some A → x.levelB = some B →
      m'.invalidCount = 0 ∧
      (max A B - min A B ≤ c.calibration.d →
        m'.mode = .dual ∧ m'.allowance = m.allowance ∧ m'.level = seeded ((A + B) / 2)) ∧
      (c.calibration.d < max A B - min A B → 1 < m.allowance →
        m'.mode = .corrected ∧ m'.allowance = m.allowance - 1 ∧
        m'.level = seeded (match m.level with
          | none => A
          | some f => if max A f - min A f ≤ max B f - min B f then A else B)) ∧
      (c.calibration.d < max A B - min A B → m.allowance ≤ 1 →
        m'.mode = .barred ∧ m'.allowance = 0 ∧ frozen ∧ m'.rate = none ∧ m'.forecast = none ∧
        Cause.sensorBarred.isIn t.plant.attn.present = true)) ∧
    (m.mode ≠ .barred → ∀ L, (x.levelA = some L ∧ x.levelB = none) ∨ (x.levelA = none ∧ x.levelB = some L) →
      m'.mode = .single ∧ m'.invalidCount = 0 ∧ m'.allowance = m.allowance ∧ m'.level = seeded L) ∧
    (m.mode ≠ .barred → x.levelA = none → x.levelB = none →
      frozen ∧ m'.allowance = m.allowance ∧
      (m.invalidCount < 7 → m'.invalidCount = m.invalidCount + 1 ∧ m'.mode = m.mode ∧ m'.rate = m.rate ∧ m'.forecast = m.forecast) ∧
      (7 ≤ m.invalidCount → m'.invalidCount = 8 ∧ m'.mode = .float ∧ m'.rate = none ∧ m'.forecast = none))

/-- R57: the first level seeds F and is no rate instant; each later level L is filtered with the weight w as the rule's steps 1 to 4 say;
F never passes L and stays in 0 to 9999; with w = 4 a difference of 1 mm moves F by nothing and one of 2 mm by 1 mm, and with w = 16
F takes L at once. -/
def Obligations.FilterFollowsTheLevel : Prop :=
  (∀ (u : SumpId) (a b : Nat) (s t : State) (L : Nat),
    exec (.sumpSample u a b) s = .next t →
    let c := s.env.cfg.sumps.get u
    let m := s.env.sumps.get u
    let m' := t.env.sumps.get u
    (vote c.calibration.d (sampleOf c.calibration a b) m).2 = some L →
    (m.level = none →
      m'.level = some L ∧ m'.rateCount = m.rateCount ∧ m'.level10 = m.level10 ∧
        (m'.mode = .dual ∨ m'.mode = .corrected ∨ m'.mode = .single)) ∧
    (∀ f, m.level = some f → m'.level = some (filterLevel c.staging.w L f))) ∧
  (∀ w L f : Nat, 1 ≤ w → w ≤ 16 → L ≤ 9999 → f ≤ 9999 →
    let d : Int := ((L : Int) - f) * w
    let r : Int := if 0 < d then d + 8 else if d < 0 then d - 8 else d
    (filterLevel w L f : Int) = f + r.tdiv 16 ∧ min L f ≤ filterLevel w L f ∧ filterLevel w L f ≤ max L f ∧
      filterLevel w L f ≤ 9999) ∧
  (∀ f, filterLevel 4 (f + 1) f = min 9999 f ∧ (f + 2 ≤ 9999 → filterLevel 4 (f + 2) f = f + 1) ∧
    (f + 1 ≤ 9999 → filterLevel 4 f (f + 1) = f + 1) ∧ (f + 2 ≤ 9999 → filterLevel 4 f (f + 2) = f + 1)) ∧
  ∀ L f, L ≤ 9999 → filterLevel 16 L f = L

/-- R58, R59: of a level-producing sample of a primed section: the first after the seed and the one that ends FLOAT start a new rate
interval without a rate; the fortieth after a rate instant gives the rate; any other one counts; and the forecast to T3 follows. -/
def Obligations.RateAndForecastFollow : Prop :=
  ∀ (u : SumpId) (a b : Nat) (s t : State) (L f : Nat), exec (.sumpSample u a b) s = .next t →
    let c := s.env.cfg.sumps.get u
    let m := s.env.sumps.get u
    let m' := t.env.sumps.get u
    let f' := filterLevel c.staging.w L f
    (vote c.calibration.d (sampleOf c.calibration a b) m).2 = some L → m.level = some f →
    (m.level10 = none ∨ m.mode = .float → m'.level10 = some f' ∧ m'.rateCount = 0 ∧ m'.rate = m.rate) ∧
    (∀ f10, m.level10 = some f10 → m.mode ≠ .float → 39 ≤ m.rateCount →
      m'.level10 = some f' ∧ m'.rateCount = 0 ∧
        m'.rate = some (max (-9999) (min 9999 (((f' : Int) - f10) * 6)))) ∧
    (∀ f10, m.level10 = some f10 → m.mode ≠ .float → m.rateCount < 39 →
      m'.level10 = some f10 ∧ m'.rateCount = m.rateCount + 1 ∧ m'.rate = m.rate) ∧
    m'.forecast =
      (match m'.rate with
       | none => none
       | some r =>
         if 0 < r ∧ f' < c.staging.t3 then
           some (max 1 (min 9999 ((c.staging.t3 - f' + (r.toNat - 1)) / r.toNat)))
         else none)

/-- R61 to R64, R67: the stage s_raw by the table, and s_down by the same table with F + H for F, in the forecast too (with the T3 that
stands, log 60); after each sample the stage rises at once to s_raw, or the hold timer runs on a lower s_down, or the hold is stopped; and
the conflict condition is worked out. -/
def Obligations.StageFollowsTheTable : Prop :=
  (∀ (st : Staging) (m : Section) (f : Nat), m.mode = .dual ∨ m.mode = .corrected ∨ m.mode = .single → m.level = some f →
    (stageRaw st m = 4 ↔ st.t4 ≤ f ∨ m.extreme.active = true) ∧
    (3 ≤ stageRaw st m ↔ st.t4 ≤ f ∨ m.extreme.active = true ∨ st.t3 ≤ f ∨ m.high.active = true) ∧
    (2 ≤ stageRaw st m ↔ st.t4 ≤ f ∨ m.extreme.active = true ∨ st.t3 ≤ f ∨ m.high.active = true ∨ st.t2 ≤ f ∨
      (st.t1 ≤ f ∧ st.rateThreshold ≠ 0 ∧ ∃ r, m.rate = some r ∧ (st.rateThreshold : Int) ≤ r) ∨
      ∃ n, m.forecast = some n ∧ n ≤ st.lead) ∧
    (1 ≤ stageRaw st m ↔ 2 ≤ stageRaw st m ∨ st.t1 ≤ f) ∧ stageRaw st m ≤ 4 ∧
    (let g := f + st.h
     ∃ d, stageDown st m = some d ∧ d ≤ 4 ∧
      (d = 4 ↔ st.t4 ≤ g ∨ m.extreme.active = true) ∧
      (3 ≤ d ↔ st.t4 ≤ g ∨ m.extreme.active = true ∨ st.t3 ≤ g ∨ m.high.active = true) ∧
      (2 ≤ d ↔ st.t4 ≤ g ∨ m.extreme.active = true ∨ st.t3 ≤ g ∨ m.high.active = true ∨ st.t2 ≤ g ∨
        (st.t1 ≤ g ∧ st.rateThreshold ≠ 0 ∧ ∃ r, m.rate = some r ∧ (st.rateThreshold : Int) ≤ r) ∨
        ∃ r, m.rate = some r ∧ 0 < r ∧ g < st.t3 ∧ max 1 (min 9999 ((st.t3 - g + (r.toNat - 1)) / r.toNat)) ≤ st.lead) ∧
      (1 ≤ d ↔ 2 ≤ d ∨ st.t1 ≤ g))) ∧
  (∀ (st : Staging) (m : Section), m.mode = .float ∨ m.mode = .barred →
    stageRaw st m = (if m.extreme.active then 4 else if m.high.active then 3 else 2) ∧ stageDown st m = some (stageRaw st m)) ∧
  (∀ (st : Staging) (m : Section), m.mode = .none →
    stageRaw st m = (if m.extreme.active then 4 else if m.high.active then 3 else 0) ∧ stageDown st m = none) ∧
  (∀ (u : SumpId) (a b : Nat) (s t : State), exec (.sumpSample u a b) s = .next t →
    let st := (s.env.cfg.sumps.get u).staging
    let m := s.env.sumps.get u
    let m' := t.env.sumps.get u
    (m.stage < stageRaw st m' → m'.stage = stageRaw st m' ∧ m'.hold = .stopped ∧ m'.candidate = none) ∧
    (stageRaw st m' ≤ m.stage →
      m'.stage = m.stage ∧
      (∀ d, stageDown st m' = some d → d < m.stage →
        m'.candidate = some d ∧ m'.hold = (if m.hold = .stopped then .since s.env.clock else m.hold)) ∧
      ((∀ d, stageDown st m' = some d → m.stage ≤ d) → m'.candidate = none ∧ m'.hold = .stopped)) ∧
    (m'.conflict = true ↔ m'.high.active = true ∧ (m'.mode = .dual ∨ m'.mode = .single) ∧ ∃ f, m'.level = some f ∧ f < st.t2) ∧
    (m'.conflict = true → m.conflict = false → Cause.sensorConflict.isIn t.plant.attn.present = true) ∧
    t.env.underpass = underpassOf t.env.sumps ∧ (∀ x, x ≠ u → t.env.sumps.get x = s.env.sumps.get x))

/-- R60, R64: a float is active while its contact is closed under NORMALLY_OPEN, and while it is open under NORMALLY_CLOSED. A float's
contact restarts its stability timer; an opposite value that has been stable for 2 s is taken and the section
evaluates its stage; and when the hold time has run the stage becomes the candidate. -/
def Obligations.FloatAndHoldEvents : Prop :=
  (∀ (u : SumpId) (f : FloatId) (closed : Bool) (s : State), contactOf s.env u f ≠ closed →
    exec (.floatInputChange u f closed) s = .next
      { s with
        env :=
          { s.env with
            pins :=
              { s.env.pins with
                floats := s.env.pins.floats.set u
                  (match f with
                   | .high => { s.env.pins.floats.get u with high := closed }
                   | .extreme => { s.env.pins.floats.get u with extreme := closed }) }
            sumps := s.env.sumps.set u
              (match f with
               | .high =>
                 { s.env.sumps.get u with high := ⟨(s.env.sumps.get u).high.active, .since s.env.clock⟩ }
               | .extreme =>
                 { s.env.sumps.get u with extreme := ⟨(s.env.sumps.get u).extreme.active, .since s.env.clock⟩ }) } }) ∧
  (∀ (u : SumpId) (f : FloatId) (s : State),
    let m := s.env.sumps.get u
    let closed := match f with | .high => (s.env.pins.floats.get u).high | .extreme => (s.env.pins.floats.get u).extreme
    let polarity := match f with
      | .high => (s.env.cfg.sumps.get u).floats.high
      | .extreme => (s.env.cfg.sumps.get u).floats.extreme
    let active := match polarity with | .normallyOpen => closed | .normallyClosed => !closed
    let was := match f with | .high => m.high.active | .extreme => m.extreme.active
    let m1 := match f with
      | .high => { m with high := ⟨active, .stopped⟩ }
      | .extreme => { m with extreme := ⟨active, .stopped⟩ }
    let stable := match f with | .high => m.high.stable | .extreme => m.extreme.stable
    (active = was → exec (.floatDebounceExpiry u f) s = .next s) ∧
    (∀ start, stable = .since start → 2000 ≤ s.env.clock - start → active ≠ was → ∃ t, exec (.floatDebounceExpiry u f) s = .next t ∧
      t.env.sumps = s.env.sumps.set u (evaluate s.env.clock (s.env.cfg.sumps.get u).staging m1) ∧
      t.env.underpass = underpassOf t.env.sumps ∧ t.env.cfg = s.env.cfg ∧ t.links = s.links ∧ t.store = s.store)) ∧
  (∀ (u : SumpId) (s : State) (start c : Nat), (s.env.sumps.get u).hold = .since start → (s.env.sumps.get u).candidate = some c →
    1000 * (s.env.cfg.sumps.get u).staging.hold ≤ s.env.clock - start →
    ∃ t, exec (.stageHoldExpiry u) s = .next t ∧
      t.env.sumps = s.env.sumps.set u { s.env.sumps.get u with stage := c, hold := .stopped, candidate := none } ∧
      t.env.underpass = underpassOf t.env.sumps ∧ t.env.cfg = s.env.cfg ∧ t.links = s.links ∧ t.store = s.store)

/-- R69 to R72, R78, R79: an accepted SET SUMP CONFIG replaces one group of one sump and acts: CALIBRATION restarts the section under the
new reload; STAGING evaluates the stage and then steps down if the new hold time has run (in this order, log 61); FLOATS restarts the
timer of each float whose polarity changed; POSITIONS evaluates the latches against F. RESTART SECTION restarts the section, keeping its
stage, floats, last sample and latches, but for a stage that the floats raise. A restart sets the ring's lead to position 1 before the
walk is made again (R72, R75). -/
def Obligations.SumpRequestsAct : Prop :=
  ∀ (l : Link) (tag ub : Byte) (u : SumpId) (s : State), (s.port l).slot = .empty → sumpOf ub = some u →
    let m := s.env.sumps.get u
    let c := s.env.cfg.sumps.get u
    let restarted := fun reload : Nat =>
      let raw := if m.extreme.active then 4 else if m.high.active then 3 else 0
      { m with
        level := none, rate := none, forecast := none, level10 := none, rateCount := 0, mode := .none, invalidCount := 0
        hold := .stopped, candidate := none, conflict := false, allowance := reload, stage := max m.stage raw }
    let same := fun (kind : Byte) (t : State) =>
      t.links = (replied l kind tag .done [] s).links ∧ t.store = s.store ∧ t.pending = s.pending ∧
        t.env.underpass = underpassOf t.env.sumps ∧
        ∀ x, (x ≠ u ∨ kind = 0x1A) → (t.plant.duty.get x).latches = (s.plant.duty.get x).latches
    (∃ t, exec (.restartSection l tag [ub]) s = .next t ∧ same 0x1A t ∧ t.env.cfg = s.env.cfg ∧
      t.env.sumps = s.env.sumps.set u (restarted c.calibration.reload) ∧
      ∃ s1, t = replied l 0x1A tag .done [] (settle s1) ∧ (s1.plant.duty.get u).lead = 1) ∧
    (s.store.state ≠ .saving →
      (∀ body v, readGroup 1 body = some (.calibration v) → groupFits (.calibration v) = true →
        ∃ t, exec (.setSumpConfig l tag (ub :: 1 :: body)) s = .next t ∧ same 0x19 t ∧
          t.env.cfg = { s.env.cfg with sumps := s.env.cfg.sumps.set u { c with calibration := v } } ∧
          t.env.sumps = s.env.sumps.set u (restarted v.reload) ∧
          ∃ s1, t = replied l 0x19 tag .done [] (settle s1) ∧ (s1.plant.duty.get u).lead = 1) ∧
      (∀ body v, readGroup 2 body = some (.staging v) → groupFits (.staging v) = true →
        ∃ t, exec (.setSumpConfig l tag (ub :: 2 :: body)) s = .next t ∧ same 0x19 t ∧
          t.env.cfg = { s.env.cfg with sumps := s.env.cfg.sumps.set u { c with staging := v } } ∧
          t.env.sumps = s.env.sumps.set u
            (let m1 := evaluate s.env.clock v m
             match m1.hold, m1.candidate with
             | .since start, some x =>
               if 1000 * v.hold ≤ s.env.clock - start then { m1 with stage := x, hold := .stopped, candidate := none } else m1
             | _, _ => m1)) ∧
      (∀ body v, readGroup 3 body = some (.floats v) →
        s.env.underpass = underpassOf s.env.sumps →
        ∃ t, exec (.setSumpConfig l tag (ub :: 3 :: body)) s = .next t ∧ same 0x19 t ∧
          t.env.cfg = { s.env.cfg with sumps := s.env.cfg.sumps.set u { c with floats := v } } ∧
          t.env.sumps = s.env.sumps.set u
            { m with
              high := if c.floats.high = v.high then m.high else ⟨m.high.active, .since s.env.clock⟩
              extreme := if c.floats.extreme = v.extreme then m.extreme else ⟨m.extreme.active, .since s.env.clock⟩ }) ∧
      (∀ body v, readGroup 4 body = some (.positions v) → groupFits (.positions v) = true →
        s.env.underpass = underpassOf s.env.sumps →
        ∃ t, exec (.setSumpConfig l tag (ub :: 4 :: body)) s = .next t ∧ same 0x19 t ∧
          t.env.cfg = { s.env.cfg with sumps := s.env.cfg.sumps.set u { c with positions := v } } ∧
          t.env.sumps = s.env.sumps ∧
          (t.plant.duty.get u).latches =
            (match m.level with
             | none => (s.plant.duty.get u).latches
             | some f =>
               List.zipWith (fun pos on => if pos.start ≤ f then true else if f < pos.stop then false else on) v
                 (s.plant.duty.get u).latches)))

/-! ### Pump Duty (chapter 4) -/

/-- R76: SET RING ORDER with the ring's own pumps in some order replaces the order of the ring and nothing else of the configuration, keeps
the latches with their positions, and sets the lead to position 1 before the walk is made again; any other list is BAD_FIELD. -/
def Obligations.SetRingOrderActs : Prop :=
  ∀ (tag : Byte) (u : SumpId) (ring : List PumpId) (s : State), (s.port .panel).slot = .empty → s.store.state ≠ .saving →
    1 ≤ ring.length → ring.length ≤ 4 →
    let body := BitVec.ofNat 8 (sumpCode u) :: BitVec.ofNat 8 ring.length :: ring.map (fun i => BitVec.ofNat 8 (UnitId.pump i).number)
    (ring.Perm (s.env.ring u) →
      exec (.setRingOrder .panel tag body) s = .next
        (replied .panel 0x1B tag .done []
          (settle
            { s with
              env :=
                { s.env with
                  cfg := { s.env.cfg with sumps := s.env.cfg.sumps.set u { s.env.cfg.sumps.get u with ring := ring } } }
              plant := { s.plant with duty := s.plant.duty.set u { s.plant.duty.get u with lead := 1 } } }))) ∧
    (¬ ring.Perm (s.env.ring u) →
      exec (.setRingOrder .panel tag body) s = .next (replied .panel 0x1B tag .badField [] s))

/-- R75, R91 to R93: a stop opens the contactor, ends every timer of the run and keeps the start list; it takes the pump to its rest (or
to STOPPED when the min rest is 0), straight to STOPPED, or to FAULTED with its kind; and the ring's lead advances by one position,
from the last back to the first, exactly when the ring's last STARTING or RUNNING pump has stopped: the count is judged at this stop
(log 21). The rest is given the min rest as it stands now (R97). Nothing else of Pump Duty moves. -/
def Obligations.StopsFollowTheTable : Prop :=
  ∀ (e : Env) (i : PumpId) (k : Stop) (p : Plant),
    let q := p.pumps.get i
    let p' := haltPump e i k p
    let q' := p'.pumps.get i
    let rest := (e.cfg.pumps.get i).minRest
    let rests := q'.run = (if rest = 0 then .stopped else .resting) ∧
      q'.minRest = (if rest = 0 then .stopped else .since e.clock) ∧ q'.restLength = rest
    let own := q.hand && !(e.cfg.pumpService.get i == .inHand)
    q'.live = false ∧ pumpLoad e p' i = 0 ∧ q'.starts = q.starts ∧ q'.confirm = .stopped ∧ q'.surge = .stopped ∧
    q'.minRun = .stopped ∧ q'.dryTimer = .stopped ∧ q'.lostTimer = .stopped ∧
    (k = .rest → rests ∧ q'.hand = q.hand ∧ q'.dry = q.dry ∧ q'.fault = q.fault) ∧
    (k = .dry → rests ∧ q'.hand = own ∧ q'.dry = true ∧ q'.fault = q.fault) ∧
    (k = .off → q'.run = .stopped ∧ q'.hand = q.hand ∧ q'.dry = q.dry ∧ q'.fault = q.fault) ∧
    (∀ f, k = .fault f →
      q'.run = .faulted ∧ q'.fault = some f ∧ q'.hand = own ∧ Cause.pumpFault.isIn p'.attn.present = true) ∧
    (∀ j, j ≠ i → p'.pumps.get j = p.pumps.get j) ∧ (∀ u, u ≠ e.sumpOf i → p'.duty.get u = p.duty.get u) ∧
    (p'.duty.get (e.sumpOf i)).latches = (p.duty.get (e.sumpOf i)).latches ∧
    (let u := e.sumpOf i
     let lead := (p.duty.get u).lead
     (p'.duty.get u).lead =
       if 0 < ringLive e p u ∧ ringLive e p' u = 0 then (if (e.ring u).length ≤ lead then 1 else lead + 1) else lead) ∧
    p'.portals = p.portals ∧ p'.zones = p.zones ∧ p'.arb = p.arb ∧ p'.units = p.units

/-- R87, R88: a STARTING pump whose confirm timer runs out, a RUNNING pump without feedback for 1 s, and a STARTING or RUNNING pump whose
thermal trip becomes active end FAULTED with their kind, the contactor open and PUMP_FAULT present; a pump IN_HAND is OFF. In the
other run states a thermal trip changes its input and nothing else. -/
def Obligations.FaultsStopThePump : Prop :=
  ∀ (i : PumpId) (s : State), PumpsOk s →
    let q := s.plant.pumps.get i
    let faulted := fun (k : FaultKind) (t : State) =>
      let q' := t.plant.pumps.get i
      q'.run = .faulted ∧ q'.fault = some k ∧ q'.live = false ∧ q'.starts = q.starts ∧ q'.surge = .stopped ∧ q'.minRun = .stopped ∧
      q'.confirm = .stopped ∧ (s.env.cfg.pumpService.get i = .inHand → q'.hand = false) ∧
      Cause.pumpFault.isIn t.plant.attn.present = true ∧ t.links = s.links ∧ t.store = s.store ∧ t.plant.units = s.plant.units
    (∀ start, q.run = .starting → q.confirm = .since start →
      1000 * (s.env.cfg.pumps.get i).confirmLimit ≤ s.env.clock - start →
      ∃ t, exec (.noStart i) s = .next t ∧ faulted .noStart t ∧ t.env = s.env) ∧
    (∀ start, q.run = .running → q.lostTimer = .since start → 1000 ≤ s.env.clock - start →
      ∃ t, exec (.lostRun i) s = .next t ∧ faulted .lostRun t ∧ t.env = s.env) ∧
    (q.live = true → s.env.pins.thermal.get i = false →
      ∃ t, exec (.thermalTrip i true) s = .next t ∧ faulted .thermal t ∧
        t.env = { s.env with pins := { s.env.pins with thermal := s.env.pins.thermal.set i true } }) ∧
    (∀ active, s.env.pins.thermal.get i ≠ active → q.live = false ∨ active = false →
      exec (.thermalTrip i active) s = .next
        { s with env := { s.env with pins := { s.env.pins with thermal := s.env.pins.thermal.set i active } } })

/-- R81, R86, R87, R89, R90, R92, R94: what each other event of a pump changes before the plant's blocks act. The dry-run input is timed
while the pump is RUNNING, and a dry-run stop leaves the pump RESTING with its dry flag set; feedback makes a STARTING pump RUNNING
and starts or cancels the count of a RUNNING one; the surge window and the min run end; a rest ends in STOPPED after the min rest that
it was given (R97); the oldest entry leaves the start list after 3600 s. -/
def Obligations.PumpEventsAct : Prop :=
  ∀ (i : PumpId) (s : State),
    let q := s.plant.pumps.get i
    let written := fun q' : Pump => settle { s with plant := putPump s.env i q' s.plant }
    (∀ active, s.env.pins.dryRun.get i ≠ active →
      let e := { s.env with pins := { s.env.pins with dryRun := s.env.pins.dryRun.set i active } }
      exec (.dryRunInputChange i active) s = .next (settle
        { s with
          env := e
          plant :=
            if q.run = .running then
              putPump e i { q with dryTimer := if active then .since s.env.clock else .stopped } s.plant
            else s.plant })) ∧
    (∀ start, q.run = .running → q.dryTimer = .since start → 5000 ≤ s.env.clock - start →
      ∃ t, exec (.dryRunStop i) s = .next t ∧ t.env = s.env ∧ t.links = s.links ∧ t.store = s.store ∧
        (PumpsOk s → 0 < (s.env.cfg.pumps.get i).minRest →
          (t.plant.pumps.get i).run = .resting ∧ (t.plant.pumps.get i).dry = true ∧
          (t.plant.pumps.get i).minRest = .since s.env.clock ∧ (t.plant.pumps.get i).starts = q.starts ∧
          (s.env.cfg.pumpService.get i = .inHand → (t.plant.pumps.get i).hand = false))) ∧
    (∀ active, s.env.pins.feedback.get i ≠ active →
      let e := { s.env with pins := { s.env.pins with feedback := s.env.pins.feedback.set i active } }
      exec (.runningFeedbackChange i active) s = .next (settle
        { s with
          env := e
          plant :=
            if q.run = .starting ∧ active = true then
              putPump e i
                { q with
                  run := .running, confirm := .stopped, lostTimer := .stopped
                  dryTimer := if s.env.pins.dryRun.get i then .since s.env.clock else .stopped } s.plant
            else if q.run = .running then
              putPump e i { q with lostTimer := if active then .stopped else .since s.env.clock } s.plant
            else s.plant })) ∧
    (∀ start, q.surge = .since start → 1000 * (s.env.cfg.pumps.get i).surgeTime ≤ s.env.clock - start →
      exec (.surgeEnd i) s = .next (written { q with surge := .stopped })) ∧
    (∀ start, q.minRun = .since start → 1000 * (s.env.cfg.pumps.get i).minRun ≤ s.env.clock - start →
      exec (.minRunExpiry i) s = .next (written { q with minRun := .stopped })) ∧
    (∀ start, q.run = .resting → q.minRest = .since start → 1000 * q.restLength ≤ s.env.clock - start →
      exec (.restEnd i) s = .next (written { q with run := .stopped, minRest := .stopped, restLength := 0 })) ∧
    (∀ oldest others, q.starts = oldest :: others → 3600000 ≤ s.env.clock - oldest →
      exec (.startListEntryExpiry i) s = .next (written { q with starts := others }))

/-- R79, R80, R82, R83: the latches follow F at a level-producing sample and stand at any other; the wanted count is the ring's length at
stage 3 or 4, 1 in FLOAT or BARRED below that, and else the number of set latches; the automatic wanted pumps are the first available
ones of the walk from the lead, as many as that, whose demand source is AUTOMATIC; and an available pump governed by RUN is wanted
whatever the count. And what Pump Duty does with them (R40, R83, R84, R90): a RUNNING pump of the ring whose min run has elapsed makes a
standing stop when it is IN_SERVICE and not wanted, or when it is IN_HAND and OFF, and rests; the pumps that are so stop in one round,
the wanted pumps are worked out again and the next round follows, until none is so; any other pump goes on as it was. A STOPPED pump that is
wanted, or ON in hand, joins the end of the start queue and becomes QUEUED, in walk order from the lead; a QUEUED one that is not
leaves the queue and becomes STOPPED (log 23 for the dry-run input of a QUEUED hand pump). A lock, or an OVERRIDE STOP in service,
stops a pump at once. While more pumps are STARTING or RUNNING than the limit in force on the outfall allows, the one whose latest grant is
the most recent makes an immediate stop into its rest, until the count is at the limit (R95). -/
def Obligations.WantedPumpsFollowTheWater : Prop :=
  (∀ (u : SumpId) (a b : Nat) (s t : State), exec (.sumpSample u a b) s = .next t →
    let c := s.env.cfg.sumps.get u
    (∀ L f, (vote c.calibration.d (sampleOf c.calibration a b) (s.env.sumps.get u)).2 = some L →
      (t.env.sumps.get u).level = some f →
      (t.plant.duty.get u).latches =
        List.zipWith (fun pos on => if pos.start ≤ f then true else if f < pos.stop then false else on) c.positions
          (s.plant.duty.get u).latches) ∧
    ((vote c.calibration.d (sampleOf c.calibration a b) (s.env.sumps.get u)).2 = none →
      (t.plant.duty.get u).latches = (s.plant.duty.get u).latches)) ∧
  (∀ (e : Env) (p : Plant) (u : SumpId),
    let wanted :=
      if 3 ≤ (e.sumps.get u).stage then (e.ring u).length
      else if (e.sumps.get u).mode = .float ∨ (e.sumps.get u).mode = .barred then 1
      else (p.duty.get u).latches.countP (fun on => on)
    let lead := (p.duty.get u).lead
    let inTurn := (e.ring u).drop (lead - 1) ++ (e.ring u).take (lead - 1)
    let free := fun i : PumpId =>
      let q := p.pumps.get i
      e.cfg.pumpService.get i = .inService ∧ p.locked (.pump i) = false ∧ q.run ≠ .faulted ∧
      (∀ o, governingOrder e p (.pump i) = some o → o.verb ≠ .stop) ∧
      (q.live = true ∨
        (q.run ≠ .resting ∧ e.pins.dryRun.get i = false ∧
          (q.starts.length < (e.cfg.pumps.get i).startsPerHour ∨ 4 ≤ (e.sumps.get (e.cfg.pumps.get i).sump).stage)))
    ∀ i, i ∈ wantedPumps e p u ↔
      (i ∈ e.ring u ∧ free i ∧ ∃ o, governingOrder e p (.pump i) = some o ∧ o.verb = .run) ∨
      ∃ before after, inTurn = before ++ i :: after ∧ free i ∧ p.source (.pump i) = .automatic ∧
        (before.filter (fun j => available e p j && p.source (.pump j) == .automatic)).length < wanted) ∧
  (∀ (e : Env) (p : Plant) (u : SumpId), (e.ring u).Nodup → (e.ring u).length ≤ 4 →
    (∀ i ∈ e.ring u, (p.pumps.get i).run = .queued ↔ p.queued (.pump i) = true) →
    let p1 := standingStops e u 5 p
    let p' := dutySump e u p
    let lead := (p1.duty.get u).lead
    let inTurn := (e.ring u).drop (lead - 1) ++ (e.ring u).take (lead - 1)
    let wants := fun i : PumpId =>
      let q := p1.pumps.get i
      match e.cfg.pumpService.get i with
      | .inService => (wantedPumps e p1 u).contains i
      | .inHand =>
        !p1.locked (.pump i) && q.hand && (q.run == .queued || !e.pins.dryRun.get i) &&
          (decide (q.starts.length < (e.cfg.pumps.get i).startsPerHour) ||
            decide (4 ≤ (e.sumps.get (e.cfg.pumps.get i).sump).stage))
      | .outOfService => false
    let joins := fun i => (p1.pumps.get i).run == .stopped && wants i
    let leaves := fun i => (p1.pumps.get i).run == .queued && !wants i
    let due := fun (q : Plant) (i : PumpId) =>
      (q.pumps.get i).run == .running && (q.pumps.get i).minRun == .stopped &&
        ((e.cfg.pumpService.get i == .inService && !(wantedPumps e q u).contains i) ||
          (e.cfg.pumpService.get i == .inHand && !(q.pumps.get i).hand))
    (∀ n q, (∀ i ∈ e.ring u, due q i = false) → standingStops e u n q = q) ∧
    (∀ n q,
      let turn := (e.ring u).drop ((q.duty.get u).lead - 1) ++ (e.ring u).take ((q.duty.get u).lead - 1)
      let stopped := (turn.filter (due q)).foldl (fun a i => haltPump e i .rest a) q
      (∃ i ∈ e.ring u, due q i = true) →
        standingStops e u (n + 1) q = standingStops e u n stopped ∧
        (∀ i, i ∈ e.ring u → due q i = true →
          (stopped.pumps.get i).run = if (e.cfg.pumps.get i).minRest = 0 then .stopped else .resting) ∧
        (∀ i, ¬(i ∈ e.ring u ∧ due q i = true) → stopped.pumps.get i = q.pumps.get i)) ∧
    (∀ i, p1.pumps.get i = p.pumps.get i ∨
      (i ∈ e.ring u ∧ (p.pumps.get i).run = .running ∧ (p.pumps.get i).minRun = .stopped ∧
        (p1.pumps.get i).run = if (e.cfg.pumps.get i).minRest = 0 then .stopped else .resting)) ∧
    (∀ i ∈ e.ring u, (p1.pumps.get i).run = .running → (p1.pumps.get i).minRun = .stopped →
      (e.cfg.pumpService.get i = .inService → i ∈ wantedPumps e p1 u) ∧
      (e.cfg.pumpService.get i = .inHand → (p1.pumps.get i).hand = true)) ∧
    (∀ i ∈ e.ring u,
      (p'.pumps.get i).run = if joins i then .queued else if leaves i then .stopped else (p1.pumps.get i).run) ∧
    (∀ i, i ∉ e.ring u → p'.pumps.get i = p.pumps.get i) ∧
    p'.arb.queue.map Request.unit =
      (p.arb.queue.map Request.unit).filter (fun x => !inTurn.any (fun i => x == .pump i && leaves i)) ++
        (inTurn.filter joins).map UnitId.pump) ∧
  (∀ (e : Env) (i : PumpId) (p : Plant),
    let called := p.locked (.pump i) = true ∨ (e.cfg.pumpService.get i = .inService ∧
      ∃ o, governingOrder e p (.pump i) = some o ∧ o.verb = .stop ∧ o.rank = .overriding)
    (called → (p.pumps.get i).live = true → immediateStop e i p = haltPump e i .rest p) ∧
    (called → (p.pumps.get i).run = .queued → immediateStop e i p = unqueuePump e i p) ∧
    (¬ called ∨ ((p.pumps.get i).live = false ∧ (p.pumps.get i).run ≠ .queued) → immediateStop e i p = p)) ∧
  ∀ (e : Env) (n : Nat) (p : Plant),
    let limit := (governingOrder e p .outfall).bind Order.arg
    let latest := fun i : PumpId =>
      (p.pumps.get i).live = true ∧ ∃ before after, p.arb.grantOrder = before ++ .pump i :: after ∧
        ∀ j, UnitId.pump j ∈ after → (p.pumps.get j).live = false
    ((∀ m, limit = some m → liveCount p ≤ m) → outfallStops e n p = p) ∧
    (∀ m i, limit = some m → m < liveCount p → latest i →
      outfallStops e (n + 1) p = outfallStops e n (haltPump e i .rest p)) ∧
    (∀ m, limit = some m → (∀ i, (p.pumps.get i).live = true → UnitId.pump i ∈ p.arb.grantOrder) →
      liveCount (outfallStops e 8 p) = min m (liveCount p))

/-! ### Supply and the Start Arbiter (chapter 5) -/

/-- R98: the supply state follows GRID_OK and STANDBY_OK by the table; the transfer timer starts at each entry to TRANSFER, runs on while
the state stays, and stops when it leaves; when it has run for the transfer limit the state becomes DARK; an input change that leaves
the state has no effect on the loads; and start-up takes the state from the inputs. An expiry that comes before its time changes nothing
(log 1), one that is due is taken by the idle step (log 2), and inputs that are given as they stand are no event (log 14). -/
def Obligations.SupplyStateFollowsTheInputs : Prop :=
  (∀ (g b : Bool) (s : State),
    (s.env.pins.gridOk = g ∧ s.env.pins.standbyOk = b → exec (.supplyInputChange g b) s = .next s) ∧
    (¬(s.env.pins.gridOk = g ∧ s.env.pins.standbyOk = b) →
      ∃ t, exec (.supplyInputChange g b) s = .next t ∧
        t.env = { s.env with pins := { s.env.pins with gridOk := g, standbyOk := b } } ∧
        t.plant.arb.supply =
          (if g then .grid else if b then .standby else if s.plant.arb.supply = .dark then .dark else .transfer) ∧
        (t.plant.arb.supply = s.plant.arb.supply → t.plant = s.plant) ∧
        (t.plant.arb.supply ≠ s.plant.arb.supply →
          t.plant.arb.transfer = if t.plant.arb.supply = .transfer then .since s.env.clock else .stopped))) ∧
  (∀ s : State,
    (∀ start, s.plant.arb.supply = .transfer → s.plant.arb.transfer = .since start →
      1000 * s.env.cfg.supply.transferLimit ≤ s.env.clock - start →
      ∃ t, exec .transferTimeout s = .next t ∧ t.env = s.env ∧ t.plant.arb.supply = .dark ∧ t.plant.arb.transfer = .stopped) ∧
    (¬(s.plant.arb.supply = .transfer ∧ ∃ start, s.plant.arb.transfer = .since start ∧
        1000 * s.env.cfg.supply.transferLimit ≤ s.env.clock - start) →
      exec .transferTimeout s = .next s) ∧
    (Instr.transferTimeout ∈ dueEvents s ↔
      s.plant.arb.supply = .transfer ∧
        ∃ start, s.plant.arb.transfer = .since start ∧ 1000 * s.env.cfg.supply.transferLimit ≤ s.env.clock - start)) ∧
  ∀ (pins : Inputs) (cut : Bool) (b : BootIn) (s t : State), exec (.startUp pins cut b) s = .next t →
    t.plant.arb.supply = (if pins.gridOk then .grid else if pins.standbyOk then .standby else .transfer) ∧
      t.plant.arb.transfer = (if t.plant.arb.supply = .transfer then .since t.env.clock else .stopped)

/-- R93, R99 to R101, R105: every change of supply state, by the inputs, by the transfer timer or by a SET SUPPLY CONFIG whose transfer
limit the timer has already reached, drops every budgeted load before any is admitted: a pump that is live afterwards was
granted in that very event; into TRANSFER and DARK, whose budget is 0, no pump is live, no permit is held, Z1 .. Z5 are at 0, the
start lists and the spacing timer stand (but for a spacing that a SET SUPPLY CONFIG has ended), and a RESTING or FAULTED pump stays as
it was. The loads of R97 and 6.10 are at least 1 kW. A change by the inputs records the new state, drops pumps, permits and zones in this
order, and then lets the blocks act (R100, R101). A portal whose permit is withdrawn keeps its step and its travel time, paused, and joins
the queue's end with a new request (R121); the permits go in the order of their grants, the earlier first. And room-making (R104): while the
non-lamp load and the shed reservation are above the budget, the most recently granted live pump makes an immediate stop into its rest; with
none left, the most recently granted permit is withdrawn; where that is not enough, both are, and the portals join the queue's end in the
order of their grants, the earlier first (R100, step 2); and then there is room. -/
def Obligations.SupplyChangeDropsEveryLoad : Prop :=
  (∀ (c : Instr) (s t : State), GrantsNoted s → (∀ i, 1 ≤ (s.env.cfg.pumps.get i).load) →
    (∀ i, 1 ≤ (s.env.cfg.portals.get i).motorKw) →
    (c = .transferTimeout ∨ (∃ g b, c = .supplyInputChange g b) ∨ ∃ l tag body, c = .setSupplyConfig l tag body) →
    exec c s = .next t →
    t.plant.arb.supply ≠ s.plant.arb.supply →
    (∀ i, (t.plant.pumps.get i).live = true → (t.plant.pumps.get i).starts.getLast? = some s.env.clock) ∧
    (t.plant.arb.supply = .transfer ∨ t.plant.arb.supply = .dark →
      committedLoad t = 0 ∧
      (t.plant.arb.spacing = s.plant.arb.spacing ∨
        t.plant.arb.spacing = .stopped ∧ ∃ l tag body, c = .setSupplyConfig l tag body) ∧
      (∀ i, (t.plant.pumps.get i).live = false ∧ (t.plant.pumps.get i).starts = (s.plant.pumps.get i).starts) ∧
      (∀ i, (s.plant.pumps.get i).run = .resting ∨ (s.plant.pumps.get i).run = .faulted →
        (t.plant.pumps.get i).run = (s.plant.pumps.get i).run ∧ (t.plant.pumps.get i).minRest = (s.plant.pumps.get i).minRest) ∧
      (∀ i, (t.plant.portals.get i).permit = false) ∧
      ∀ z ∈ budgetZones, (t.plant.zones.get z).output = 0 ∧ (t.plant.zones.get z).allowance = 0)) ∧
  (∀ (g b : Bool) (s : State), ¬(s.env.pins.gridOk = g ∧ s.env.pins.standbyOk = b) →
    let e := { s.env with pins := { s.env.pins with gridOk := g, standbyOk := b } }
    let v : Supply := if g then .grid else if b then .standby else if s.plant.arb.supply = .dark then .dark else .transfer
    v ≠ s.plant.arb.supply →
    exec (.supplyInputChange g b) s = .next (settle
      { s with env := e, plant := dropZones e (dropPermits e (dropPumps e (setSupply e v s.plant))) })) ∧
  (∀ (e : Env) (i : PortalId) (p : Plant),
    let q := p.portals.get i
    let paused := match q.travel with | .since start => .held (e.clock - start) | t => t
    (q.permit = false → withdrawPermit e i p = p) ∧
    (q.permit = true → p.queued (.portal i) = false →
      (withdrawPermit e i p).portals.get i = { q with permit := false, travel := paused } ∧
      (withdrawPermit e i p).arb.queue =
        p.arb.queue ++ [⟨.portal i, e.clock, if p.arb.supply = .transfer then .held 0 else .since e.clock⟩])) ∧
  (∀ (e : Env) (p : Plant), p.arb.grantOrder.Nodup →
    let holders := p.arb.grantOrder.filter (fun u =>
      match u with
      | .portal i => (p.portals.get i).permit
      | _ => false)
    (∀ u ∈ holders, p.queued u = false) →
    (dropPermits e p).arb.queue.map Request.unit = p.arb.queue.map Request.unit ++ holders ∧
    ∀ i, UnitId.portal i ∈ holders →
      (dropPermits e p).portals.get i = (withdrawPermit e i p).portals.get i) ∧
  ∀ (e : Env) (n : Nat) (p : Plant),
    let full := p.arb.supply.powered = true ∧ budget e p < nonLampLoad e p + shedReservation e.cfg
    (¬ full → makeRoom e n p = p) ∧
    (∀ i before after, full → p.arb.grantOrder = before ++ .pump i :: after → (p.pumps.get i).live = true →
      (∀ j, UnitId.pump j ∈ after → (p.pumps.get j).live = false) →
      makeRoom e (n + 1) p = makeRoom e n (haltPump e i .rest p)) ∧
    (∀ i before after, full → p.arb.grantOrder.Nodup → (∀ j, (p.pumps.get j).live = false) →
      p.arb.grantOrder = before ++ .portal i :: after → (p.portals.get i).permit = true →
      (∀ j, UnitId.portal j ∈ after → (p.portals.get j).permit = false) →
      let p1 := withdrawPermit e i p
      (nonLampLoad e p1 + shedReservation e.cfg ≤ budget e p ∨ (∀ j, UnitId.portal j ∈ before → (p.portals.get j).permit = false) →
        makeRoom e (n + 1) p = p1) ∧
      (∀ j, budget e p < nonLampLoad e p1 + shedReservation e.cfg → UnitId.portal j ∈ before → (p.portals.get j).permit = true →
        p.queued (.portal i) = false → p.queued (.portal j) = false →
        let p2 := makeRoom e (n + 1) p
        p2.portals.get i = (withdrawPermit e i p).portals.get i ∧ p2.portals.get j = (withdrawPermit e j p).portals.get j ∧
        p2.arb.queue.map Request.unit = p.arb.queue.map Request.unit ++ [.portal j, .portal i])) ∧
    ((∀ i, (p.pumps.get i).live = true → UnitId.pump i ∈ p.arb.grantOrder) →
      (∀ i, (p.portals.get i).permit = true → UnitId.portal i ∈ p.arb.grantOrder) →
      shedReservation e.cfg ≤ budget e p →
      p.arb.supply.powered = true → nonLampLoad e (makeRoom e 10 p) + shedReservation e.cfg ≤ budget e p)

/-- R105, R109, R111: an accepted SET SUPPLY CONFIG replaces the group, with a running transfer timer that has reached the new limit making
the state DARK, and every request that has waited for the new wait limit STARVED; the end of the spacing lets the blocks act and a
grant pass be made; a request that reaches the wait limit outside TRANSFER becomes STARVED and raises START_STARVED. -/
def Obligations.ArbiterTimersAct : Prop :=
  (∀ (tag gh gl sh sl th tl sp wh wl : Byte) (s : State), (s.port .panel).slot = .empty → s.store.state ≠ .saving →
    let v : SupplyCfg :=
      { grid := word gh gl, standby := word sh sl, transferLimit := word th tl, spacing := sp.toNat, waitLimit := word wh wl }
    v.grid ≤ 2000 → v.standby ≤ 2000 → 10 ≤ v.transferLimit → v.transferLimit ≤ 300 → v.spacing ≤ 60 → 30 ≤ v.waitLimit →
    v.waitLimit ≤ 600 → shedOfAll s.env.cfg ≤ min v.grid v.standby →
    (s.plant.arb.supply = .grid → nonLampLoad s.env s.plant + shedReservation s.env.cfg ≤ v.grid) →
    (s.plant.arb.supply = .standby → nonLampLoad s.env s.plant + shedReservation s.env.cfg ≤ v.standby) →
    ∃ t, exec (.setSupplyConfig .panel tag [gh, gl, sh, sl, th, tl, sp, wh, wl]) s = .next t ∧
      t.env = { s.env with cfg := { s.env.cfg with supply := v } } ∧
      t.links = (replied .panel 0x21 tag .done [] s).links ∧ t.store = s.store ∧ t.plant.units = s.plant.units ∧
      t.plant.arb.supply =
        (match s.plant.arb.supply, s.plant.arb.transfer with
         | .transfer, .since start => if 1000 * v.transferLimit ≤ s.env.clock - start then .dark else .transfer
         | now, _ => now) ∧
      ∀ r ∈ t.plant.arb.queue, 1000 * v.waitLimit ≤ r.wait.elapsed s.env.clock →
        (∀ i, r.unit = .pump i → (t.plant.pumps.get i).starved = true) ∧
        (∀ i, r.unit = .portal i → (t.plant.portals.get i).starved = true)) ∧
  ∀ s : State,
    (∀ start, s.plant.arb.spacing = .since start → 1000 * s.env.cfg.supply.spacing ≤ s.env.clock - start →
      exec .spacingExpiry s = .next (settle { s with plant := { s.plant with arb := { s.plant.arb with spacing := .stopped } } })) ∧
    (∀ i joined start, ⟨.pump i, joined, .since start⟩ ∈ s.plant.arb.queue →
      1000 * s.env.cfg.supply.waitLimit ≤ s.env.clock - start → s.plant.arb.supply ≠ .transfer →
      (s.plant.pumps.get i).starved = false →
      exec (.waitLimitReached (.pump i)) s = .next
        { s with
          plant := raiseCause s.env .startStarved (putPump s.env i { s.plant.pumps.get i with starved := true } s.plant) }) ∧
    (∀ i joined start, ⟨.portal i, joined, .since start⟩ ∈ s.plant.arb.queue →
      1000 * s.env.cfg.supply.waitLimit ≤ s.env.clock - start → s.plant.arb.supply ≠ .transfer →
      (s.plant.portals.get i).starved = false →
      exec (.waitLimitReached (.portal i)) s = .next
        { s with
          plant :=
            raiseCause s.env .startStarved (putPortal s.env i { s.plant.portals.get i with starved := true } s.plant) })

/-- R107 to R109, R86: the queue is considered MOTION requests first, in joining order, then PUMP requests by their sump's stage, highest
first, in joining order among equals; the two tests of fit; a head that does not fit holds back all the rest; and what a pump's grant
does: STARTING, or RUNNING at once with its feedback present, or FAULTED with a thermal trip present, its start list longer by this grant,
the spacing timer running. And a MOTION grant (R112, R119): the portal takes the permit and drives its motor, its travel timer counting
on; but a portal in SEALING whose lowered limit is inactive enters BARRING afresh (R126), and one whose edge is active is obstructed
(R127; with both at once the guard comes first, the model's choice, log 50); one in LIFTING whose gate is not open enters UNSEALING with
its permit (R130); and a hand closing without the lowered limit ends with GUARD (R41), while with it the gate is driven even though the
safety edge is active (log 25). The trim and the grant are one event: after a grant the committed load is within the budget (R108). -/
def Obligations.GrantsTakeTheHeadOfTheLine : Prop :=
  (∀ (e : Env) (q : List Request),
    let l := grantOrderNow e q
    l.Perm q ∧ l.filter Request.motion = q.filter Request.motion ∧
    (∀ st, l.filter (fun r => !r.motion && min 4 (r.stage e) == st) = q.filter (fun r => !r.motion && min 4 (r.stage e) == st)) ∧
    l.Pairwise (fun a b => a.motion = true ∨ (b.motion = false ∧ min 4 (b.stage e) ≤ min 4 (a.stage e)))) ∧
  (∀ (e : Env) (p : Plant) (r : Request),
    let room := nonLampLoad e p + shedReservation e.cfg
    (∀ i, r.unit = .portal i → (fits e p r = true ↔ room + (e.cfg.portals.get i).motorKw ≤ budget e p)) ∧
    (∀ i, r.unit = .pump i →
      (fits e p r = true ↔ room + (e.cfg.pumps.get i).load + (e.cfg.pumps.get i).surge ≤ budget e p ∧ p.arb.spacing = .stopped ∧
        ∀ n, limitInForce e p = some n → liveCount p < n))) ∧
  (∀ (e : Env) (p : Plant) (n : Nat),
    (∀ r, (grantOrderNow e p.arb.queue).head? = some r → fits e p r = false) → grantPass e n p = p) ∧
  (∀ (e : Env) (p : Plant) (n : Nat) (r : Request), (grantOrderNow e p.arb.queue).head? = some r → fits e p r = true →
    grantPass e (n + 1) p = grantPass e n (ownersAct e (grantRequest e r p))) ∧
  (∀ (e : Env) (i : PumpId) (p : Plant),
    let p' := grantPump e i p
    let q := p.pumps.get i
    let q' := p'.pumps.get i
    p'.queued (.pump i) = false ∧ q'.starved = false ∧ q'.dry = false ∧
    q'.starts = (if 12 ≤ q.starts.length then q.starts.drop 1 else q.starts) ++ [e.clock] ∧
    q'.run = (if e.pins.thermal.get i then .faulted else if e.pins.feedback.get i then .running else .starting) ∧
    (e.pins.thermal.get i = false →
      q'.surge = .since e.clock ∧
      q'.minRun = (if (e.cfg.pumps.get i).minRun = 0 then .stopped else .since e.clock) ∧
      q'.confirm = (if e.pins.feedback.get i then .stopped else .since e.clock)) ∧
    (e.pins.thermal.get i = true → q'.fault = some .thermal ∧ Cause.pumpFault.isIn p'.attn.present = true) ∧
    p'.arb.spacing = (if e.cfg.supply.spacing = 0 then .stopped else .since e.clock) ∧
    p'.arb.grantOrder.getLast? = some (.pump i)) ∧
  (∀ (e : Env) (i : PortalId) (p : Plant),
    let q := p.portals.get i
    let pins := e.portalPins i
    let p' := grantPortal e i p
    let q' := p'.portals.get i
    let counting := match q.travel with | .held ms => .since (e.clock - ms) | t => t
    let driven := fun m : Motor =>
      q' = { q with permit := true, starved := false, travel := counting } ∧ q'.motor = some m ∧ p'.queued (.portal i) = false
    p'.arb.grantOrder.getLast? = some (.portal i) ∧
    (q.seq = .barring → driven .barrierDown) ∧ (q.seq = .unsealing → driven .gateOpen) ∧
    (q.seq = .sealing → pins.barrierLowered = true → pins.edge = false → driven .gateClose) ∧
    (q.seq = .sealing → pins.barrierLowered = false →
      q'.seq = .barring ∧ q'.signal = .red ∧ q'.permit = false ∧ q'.retries = q.retries ∧ q'.travel = .held 0 ∧
      p'.queued (.portal i) = true) ∧
    (q.seq = .sealing → pins.barrierLowered = true → pins.edge = true →
      q'.permit = false ∧ p'.queued (.portal i) = false ∧
      (q.retries < (e.cfg.portals.get i).retryCount →
        q'.seq = .sealing ∧ q'.retries = q.retries + 1 ∧ q'.retry = .since e.clock) ∧
      ((e.cfg.portals.get i).retryCount ≤ q.retries →
        q'.seq = .jammed ∧ q'.jam = some .edge ∧ q'.resume = some .sealing ∧ Cause.gateJammed.isIn p'.attn.present = true)) ∧
    (q.seq = .lifting → pins.gateOpen = true → driven .barrierUp) ∧
    (q.seq = .lifting → pins.gateOpen = false →
      q'.seq = .unsealing ∧ q'.signal = .red ∧ q'.permit = true ∧ q'.motor = some .gateOpen ∧ q'.travel = .since e.clock ∧
      p'.queued (.portal i) = false) ∧
    (q.seq = .hand →
      (q.motion = .gateOpening → driven .gateOpen) ∧ (q.motion = .barrierRising → driven .barrierUp) ∧
      (q.motion = .barrierLowering → driven .barrierDown) ∧
      (q.motion = .gateClosing → pins.barrierLowered = true → driven .gateClose) ∧
      (q.motion = .gateClosing → pins.barrierLowered = false →
        q'.motion = .none ∧ q'.result = some .guarding ∧ q'.permit = false ∧ p'.queued (.portal i) = false))) ∧
  ∀ (e : Env) (p : Plant) (r : Request), (∀ z, (e.cfg.zones.get z).shed ≤ 100) → p.arb.supply.powered = true →
    fits e p r = true →
    let p' := grantRequest e r p
    nonLampLoad e p' + lampLoad e p' ≤ budget e p'

/-! ### The Lighting Controller (chapter 7) and the lamp allocation (R113, R114) -/

/-- R102, R113, R114: in GRID and STANDBY, with the non-lamp load beside the shed reservation within the budget, the allowances and the
outputs of an allocation keep the committed load within the budget; an allowance is never above the compensated target nor below
the smaller of it and the shed percentage; a zone IN_SERVICE and unlocked is never below its protected level; a zone IN_HAND follows
the smaller of its hand level and its allowance. In TRANSFER and DARK every allowance is 0. The walk (R113): Z1, Z5, Z2, Z4, Z3, passing
over zones out of service; each takes of the extra what it needs above its shed load, as far as the extra goes, and its allowance is the
largest percentage up to its compensated target whose load fits its shed load and that. And the output (R114, R153): a zone locked or out
of service is at 0; under modifier 1 an AUTOMATIC zone takes its allowance at once; any other zone in service drops to its allowance at
once, but for one whose allowance is its whole compensated target, which keeps its output and ramps down while the load leaves room for
every such zone (the model's reading of R114, R148, R152 and R153 together, log 44); in GRID and STANDBY it rises to its protected level at
once; and the ramp runs toward the smaller of compensated target and allowance. -/
def Obligations.AllocationKeepsTheBudget : Prop :=
  ∀ (e : Env) (p : Plant), (∀ z, (e.cfg.zones.get z).shed ≤ 100) →
    let p' := lampPass e p
    nonLampLoad e p' = nonLampLoad e p ∧
    (p.arb.supply.powered = true → nonLampLoad e p + shedReservation e.cfg ≤ budget e p →
      nonLampLoad e p' + lampLoad e p' ≤ budget e p' ∧
      nonLampLoad e p' + (budgetZones.map (fun z => zoneLoad e z (p'.zones.get z).allowance)).sum ≤ budget e p' ∧
      ∀ z ∈ budgetZones,
        let q := p'.zones.get z
        q.allowance ≤ q.comp ∧
        (e.cfg.zoneService.get z ≠ .outOfService → min (e.cfg.zones.get z).shed q.comp ≤ q.allowance) ∧
        (e.cfg.zoneService.get z = .inService → p.locked (.zone z) = false → min (e.cfg.zones.get z).shed q.comp ≤ q.output) ∧
        (e.cfg.zoneService.get z = .inHand → p.locked (.zone z) = false → q.output = min q.hand q.allowance)) ∧
    (p.arb.supply.powered = false → ∀ z ∈ budgetZones, (p'.zones.get z).allowance = 0) ∧
    (p.arb.supply.powered = true →
      let ceil := fun a : Nat => (a + 99) / 100
      let kw := fun z => (e.cfg.zones.get z).installed
      let shed := fun z => ceil (kw z * (e.cfg.zones.get z).shed)
      let need := fun z => ceil (kw z * (p'.zones.get z).comp) - shed z
      let extra := budget e p - nonLampLoad e p - shedReservation e.cfg
      ∀ before z after, [ZoneId.z1, .z5, .z2, .z4, .z3] = before ++ z :: after →
        let q := p'.zones.get z
        let left := extra - ((before.filter (fun y => e.cfg.zoneService.get y != .outOfService)).map need).sum
        let most := shed z + min (need z) left
        (e.cfg.zoneService.get z = .outOfService → q.allowance = 0) ∧
        (e.cfg.zoneService.get z ≠ .outOfService →
          q.allowance ≤ q.comp ∧ ceil (kw z * q.allowance) ≤ most ∧
            ∀ n, q.allowance < n → n ≤ q.comp → most < ceil (kw z * n))) ∧
    (let active := fun z => e.cfg.zoneService.get z == .inService && !p.locked (.zone z)
     let moving := [p.portals.pe, p.portals.pw].any (fun q => q.seq == .warning || q.seq == .barring || q.seq == .clearing)
     let follows := fun z => moving && p.source (.zone z) == .automatic
     let whole := fun z => (p'.zones.get z).allowance == (p'.zones.get z).comp
     let kept := fun z =>
       if active z && whole z && !follows z then max (p.zones.get z).output (p'.zones.get z).allowance
       else (p'.zones.get z).allowance
     let room := nonLampLoad e p + (budgetZones.map (fun z => zoneLoad e z (kept z))).sum ≤ budget e p
     ∀ z ∈ budgetZones,
       let q := p'.zones.get z
       let before := (p.zones.get z).output
       let least := if p.arb.supply.powered then min (e.cfg.zones.get z).shed q.comp else 0
       (p.locked (.zone z) = true ∨ e.cfg.zoneService.get z = .outOfService → q.output = 0 ∧ q.ramp = .none) ∧
       (active z = true →
         (follows z = true → q.output = min 100 q.allowance) ∧
         (follows z = false → room → whole z = true → q.output = max before least) ∧
         (follows z = false → ¬ room ∨ whole z = false → q.output = max (min q.allowance before) least) ∧
         q.ramp =
           (if q.output < min q.comp q.allowance then .up else if min q.comp q.allowance < q.output then .down else .none)))

/-- R145 to R148, R151, R154: after every event that lets the blocks act, each zone's graded target, target and compensated target are
those that its settings, the luminance, the portals' states, the underpass stage and its demand source give; and Z6 is on exactly
while its target is 100 and it is unlocked and not out of service. -/
def Obligations.TargetsFollowTheirSources : Prop :=
  ∀ (s : State) (z : ZoneId),
    let t := settle s
    let c := s.env.cfg.zones.get z
    let q := t.plant.zones.get z
    let mean := (s.env.windows.get c.side).mean
    let ceil := fun a b : Nat => (a + (b - 1)) / b
    let graded := fun (x : ZoneCfg) (a : Nat) => max x.floor (min (ceil (100 * ceil (a * x.k) 1000) x.lmax) 100)
    let threshold := budgetZones.filter (fun y =>
      (s.env.cfg.zones.get y).role == .threshold && (s.env.cfg.zones.get y).side == c.side)
    let moving := fun i => (t.plant.portals.get i).seq = .warning ∨ (t.plant.portals.get i).seq = .barring ∨
      (t.plant.portals.get i).seq = .clearing
    q.graded =
      (match c.role, mean with
       | .threshold, none => 100
       | .threshold, some a => graded c a
       | .transition, none => 100
       | .transition, some a =>
         let most := if threshold.isEmpty then 100 else (threshold.map (fun y => graded (s.env.cfg.zones.get y) a)).foldl max 0
         max c.floor (min (ceil (most * c.f) 100) 100)
       | .interior, _ => c.floor
       | .egress, _ => 100) ∧
    (t.plant.source (.zone z) = .automatic →
      q.target =
        if z = .z6 then 100
        else if moving .pe ∨ moving .pw then 100
        else if (t.plant.portals.get .pe).seq = .sealed ∧ (t.plant.portals.get .pw).seq = .sealed then c.alertFloor
        else if 2 ≤ s.env.underpass then max q.graded c.alertFloor
        else q.graded) ∧
    (t.plant.source (.zone z) = .hand → q.target = q.hand) ∧
    (t.plant.source (.zone z) = .lock ∨ t.plant.source (.zone z) = .off → q.target = 0) ∧
    (∀ o a, t.plant.source (.zone z) = .order → governingOrder s.env t.plant (.zone z) = some o → o.arg = some a →
      q.target = if z = .z6 then (if a = 0 then 0 else 100) else a) ∧
    q.comp =
      (if z ≠ .z6 ∧ (t.plant.source (.zone z) = .automatic ∨ t.plant.source (.zone z) = .order) ∧ q.deficit ≤ 50 then
         min 100 (ceil (q.target * 100) (100 - q.deficit))
       else q.target) ∧
    (z = .z6 →
      q.output =
        if q.target = 100 ∧ t.plant.locked (.zone .z6) = false ∧ s.env.cfg.zoneService.get .z6 ≠ .outOfService then 100 else 0)

/-- R142, R143, R149, R150, R152: a valid luminance count joins the window, of which the eight latest samples are kept, and ends a loss;
an invalid one changes nothing; a loss empties the window; a measurement at an output of 20 % or more, steady for 5 s, gives the
deficit and the flag, and raises LAMP_DEFICIT each time the flag is set; and a step of a ramp moves the output by 1 % toward the
smaller of the compensated target and the allowance, the nth step n / rate seconds after the ramp's start, so that no part of an
interval is lost (the clock counts whole milliseconds, log 32). -/
def Obligations.LightingEventsAct : Prop :=
  (∀ (d : Side) (count : Nat) (s : State),
    let w := s.env.windows.get d
    (20 ≤ count → count ≤ 4090 →
      let l := w.samples ++ [count * s.env.cfg.luminanceScale.get d / 4095]
      exec (.luminanceSample d count) s = .next (settle
        { s with
          env :=
            { s.env with
              windows := s.env.windows.set d
                { samples := if 8 < l.length then l.drop 1 else l, loss := .since s.env.clock, lost := false } } })) ∧
    (count < 20 ∨ 4090 < count → exec (.luminanceSample d count) s = .next s) ∧
    (∀ start, w.lost = false → w.loss = .since start → 60000 ≤ s.env.clock - start →
      exec (.luminanceLoss d) s = .next (settle
        { s with
          env := { s.env with windows := s.env.windows.set d { samples := [], loss := .held 60000, lost := true } } }))) ∧
  (∀ (z : ZoneId) (m : Nat) (s : State),
    let q := s.plant.zones.get z
    let fs := (s.env.cfg.zones.get z).fullScale
    let deficit := if q.output * fs ≤ 100 * m then 0 else (q.output * fs - 100 * m) * 100 / (q.output * fs)
    let flag := decide ((s.env.cfg.zones.get z).tolerance < deficit)
    (q.output < 20 ∨ s.env.clock - q.steadySince < 5000 → exec (.deficitMeasurement z m) s = .next s) ∧
    (20 ≤ q.output → 5000 ≤ s.env.clock - q.steadySince →
      ∃ t, exec (.deficitMeasurement z m) s = .next t ∧ t.env = s.env ∧ t.links = s.links ∧ t.store = s.store ∧
        t.plant.units = s.plant.units ∧ t.plant.pumps = s.plant.pumps ∧ t.plant.portals = s.plant.portals ∧
        (t.plant.zones.get z).deficit = deficit ∧ (t.plant.zones.get z).flag = flag ∧
        t.plant.attn.count .lampDeficit =
          (if flag = true ∧ q.flag = false then min 255 (s.plant.attn.count .lampDeficit + 1)
           else s.plant.attn.count .lampDeficit) ∧
        (flag = true → q.flag = false → Cause.lampDeficit.isIn t.plant.attn.present = true) ∧
        (flag ≠ q.flag → ∀ l, (t.changes l).overfull = true ∨ ∃ x ∈ (t.changes l).entries, x.key = .unit (.zone z)))) ∧
  ∀ (z : ZoneId) (s : State),
    let q := s.plant.zones.get z
    let goal := min q.comp q.allowance
    let stepped := fun (o : Nat) (r : Ramp) =>
      { q with
        output := o, steadySince := s.env.clock, ramp := if o = goal then .none else r
        step := if o = goal then .stopped else q.step, steps := if o = goal then 0 else q.steps + 1 }
    let ran := fun rate : Nat => ∃ start, q.step = .since start ∧ 1000 * (q.steps + 1) ≤ (s.env.clock - start) * rate
    (q.ramp = .up → q.output < goal → ran (s.env.cfg.zones.get z).rampUp →
      exec (.rampStep z) s = .next { s with plant := putZone s.env z (stepped (q.output + 1) .up) s.plant }) ∧
    (q.ramp = .down → goal < q.output → ran (s.env.cfg.zones.get z).rampDown →
      exec (.rampStep z) s = .next { s with plant := putZone s.env z (stepped (q.output - 1) .down) s.plant })

/-- R144: the checks of SET LUMINANCE CONFIG in their order, the first that fails deciding the outcome and a refused one changing
nothing; an accepted one replaces both scales, empties the window of each sensor whose scale changed, without touching its loss timer
or lost state, and grades a side without samples at 100. -/
def Obligations.SetLuminanceConfigChecksAndActs : Prop :=
  ∀ (l : Link) (tag : Byte) (s : State), (s.port l).slot = .empty →
    (∀ body, body.length ≠ 4 → exec (.setLuminanceConfig l tag body) s = .next (replied l 0x22 tag .badLength [] s)) ∧
    (∀ eh el wh wl : Byte,
      let east := word eh el
      let west := word wh wl
      let inRange := 1000 ≤ east ∧ east ≤ 20000 ∧ 1000 ≤ west ∧ west ≤ 20000
      (l = .field → exec (.setLuminanceConfig l tag [eh, el, wh, wl]) s = .next (replied l 0x22 tag .noAuthority [] s)) ∧
      (l = .panel → s.store.state = .saving →
        exec (.setLuminanceConfig l tag [eh, el, wh, wl]) s = .next (replied l 0x22 tag .busy [] s)) ∧
      (l = .panel → s.store.state ≠ .saving → ¬ inRange →
        exec (.setLuminanceConfig l tag [eh, el, wh, wl]) s = .next (replied l 0x22 tag .badField [] s)) ∧
      (l = .panel → s.store.state ≠ .saving → inRange →
        let old := s.env.cfg.luminanceScale
        let w := s.env.windows
        ∃ t, exec (.setLuminanceConfig l tag [eh, el, wh, wl]) s = .next t ∧
          t.env =
            { s.env with
              cfg := { s.env.cfg with luminanceScale := ⟨east, west⟩ }
              windows :=
                ⟨if old.east = east then w.east else { w.east with samples := [] },
                 if old.west = west then w.west else { w.west with samples := [] }⟩ } ∧
          t.links = (replied l 0x22 tag .done [] s).links ∧ t.store = s.store ∧ t.pending = s.pending ∧
          (∀ d, (t.env.windows.get d).samples = [] → (t.env.windows.get d).mean = none ∧
            ∀ z, (t.env.cfg.zones.get z).side = d →
              (t.env.cfg.zones.get z).role = .threshold ∨ (t.env.cfg.zones.get z).role = .transition →
              (t.plant.zones.get z).graded = 100))) ∧
    factoryDefaults.luminanceScale = ⟨8000, 8000⟩

/-! ### The Portal Sequencers (chapter 6) -/

/-- R41, R120, R122, R124, R125, R127, R135: the timers of a portal, each when it has run out. The warning's end enters BARRING; a driven
step that reaches its travel limit ends JAMMED, with the step as its resume state, no permit and no timer, a RED signal and GATE_JAMMED
present; a driven hand motion ends with TRAVEL and no jam; the clear-confirm time enters SEALING; the clear limit sets the overdue flag
and raises CLEAR_OVERDUE, its timer then standing at the limit (log 37); the retry delay's end queues the portal again, or ends the
step at an active closed limit. R132 to R134: HELD pauses the timers, releases the permit, withdraws the request and keeps the signal;
the portal that leaves it takes up its resume state with them: WARNING and CLEARING count on (the clear-confirm timer only while the
loops are clear, log 29), a motion step is entered with its travel time, whatever the demand (log 56), and UNSETTLED waits. -/
def Obligations.PortalTimersAct : Prop :=
  (∀ (i : PortalId) (s : State),
    let q := s.plant.portals.get i
    let c := s.env.cfg.portals.get i
    let acted := fun p : Plant => settle { s with plant := p }
    let ran := fun (t : Timer) (ms : Nat) => ∃ start, t = .since start ∧ ms ≤ s.env.clock - start
    (q.seq = .warning → ran q.warn (1000 * c.warningTime) →
      exec (.warningExpiry i) s = .next (acted (toBarring s.env i (.held 0) s.plant))) ∧
    (q.seq = .barring ∨ q.seq = .sealing ∨ q.seq = .unsealing ∨ q.seq = .lifting → q.permit = true →
      ran q.travel (1000 * if q.seq = .barring ∨ q.seq = .lifting then c.barrierTravel else c.gateTravel) →
      ∃ t, exec (.travelTimerExpiry i) s = .next t ∧ t.env = s.env ∧ t.links = s.links ∧ t.store = s.store ∧
        (let q' := t.plant.portals.get i
         q'.seq = .jammed ∧ q'.resume = some q.seq ∧ q'.jam = some .travel ∧ q'.permit = false ∧ q'.motor = none ∧
         q'.signal = .red ∧ q'.warn = .stopped ∧ q'.travel = .stopped ∧ q'.confirm = .stopped ∧ q'.limit = .stopped ∧
         q'.retry = .stopped) ∧
        t.plant.queued (.portal i) = false ∧ Cause.gateJammed.isIn t.plant.attn.present = true) ∧
    (q.seq = .hand → q.motion ≠ .none → q.permit = true →
      ran q.travel (1000 * if q.motion = .barrierRising ∨ q.motion = .barrierLowering then c.barrierTravel else c.gateTravel) →
      ∃ t, exec (.handTravelExpiry i) s = .next t ∧ t.env = s.env ∧ t.links = s.links ∧ t.store = s.store ∧
        (s.env.cfg.portalService.get i = .inHand →
          let q' := t.plant.portals.get i
          q'.seq = .hand ∧ q'.motion = .none ∧ q'.result = some .travel ∧ q'.permit = false ∧ q'.jam = q.jam)) ∧
    (q.seq = .clearing → ran q.confirm (1000 * c.clearConfirm) →
      exec (.clearConfirmExpiry i) s = .next (acted (toSealing s.env i (.held 0) s.plant))) ∧
    (q.seq = .clearing → q.overdue = false → ran q.limit (1000 * c.clearLimit) →
      exec (.clearLimitExpiry i) s = .next (acted (raiseCause s.env .clearOverdue
        (putPortal s.env i { q with overdue := true, limit := .held (1000 * c.clearLimit) } s.plant)))) ∧
    (q.seq = .sealing → ran q.retry (1000 * c.retryDelay) →
      let p := putPortal s.env i { q with retry := .stopped } s.plant
      exec (.retryDelayExpiry i) s = .next (acted
        (if (s.env.portalPins i).gateClosed then toSealed s.env i p else joinQueue s.env (.portal i) p)))) ∧
  ∀ (e : Env) (i : PortalId) (p : Plant),
    let q := p.portals.get i
    let paused := fun t : Timer => match t with | .since start => .held (e.clock - start) | t => t
    let resumed := fun t : Timer => match t with | .held ms => .since (e.clock - ms) | t => t
    let left := leaveHeld e i p
    let q' := left.portals.get i
    (toHeld e i p).portals.get i =
      { q with
        seq := .held, resume := some q.seq, permit := false, starved := false, retry := .stopped, warn := paused q.warn
        travel := paused q.travel, confirm := paused q.confirm, limit := paused q.limit } ∧
    (toHeld e i p).queued (.portal i) = false ∧ ((toHeld e i p).portals.get i).motor = none ∧
    (q.resume = some .warning → q' = { q with seq := .warning, resume := none, signal := .amberFlash, warn := resumed q.warn }) ∧
    (q.resume = some .clearing →
      q' =
        { q with
          seq := .clearing, resume := none, signal := .red
          limit := if q.overdue then q.limit else resumed q.limit
          confirm :=
            if e.loopsClear then (match q.confirm with | .stopped => .since e.clock | t => resumed t) else .stopped }) ∧
    (q.resume = some .unsettled →
      q'.seq = .unsettled ∧ q'.resume = none ∧ q'.signal = .red ∧ q'.overdue = false ∧ q'.retries = q.retries) ∧
    (let travel := match q.travel with | .stopped => .held 0 | t => t
     let p0 := putPortal e i { q with resume := none } p
     (q.resume = some .barring → left = toBarring e i travel p0) ∧ (q.resume = some .sealing → left = toSealing e i travel p0) ∧
     (q.resume = some .unsealing → left = toUnsealing e i travel p0) ∧
     (q.resume = some .lifting → left = toLifting e i travel p0))

/-- R116, R119, R123, R124, R126, R127, R130: the inputs of a portal, its demand, and the states they enter. A target limit that becomes
active ends the step that drives or waits: BARRING enters CLEARING, SEALING SEALED, UNSEALING LIFTING, LIFTING OPEN, each without permit
or request. The lowered limit lost while the gate is driven closed starts BARRING afresh; the open limit lost while the barrier is driven
up enters UNSEALING with its permit. The edge stops a gate driven closed, for a retry while retries are left and else as a jam. An
occupied loop stops the clear-confirm timers of CLEARING, and the last clear one starts them; in HELD it returns a paused one to zero
(R132, log 59). A hand motion ends with LIMIT at its target and with GUARD when the lowered limit is lost under a closing gate (R41). The
demand (R117, R118, R125): the verb of the governing order, or CLOSE from the closure stage on; what it does in each state, an OPEN or
HOLD demand coming before the forced sealing of an overdue CLEARING (log 58); the reversals (R131), which keep permit, request and retries
and start a fresh travel timer; and settling (R136), by a kept jam, by the return from HELD, or by the limits. A step whose target limit
is active at entry ends at once without permit or request (R119): BARRING in CLEARING, SEALING in SEALED, LIFTING in OPEN, UNSEALING in
LIFTING with a new request at the queue's end (log 53), and so on through every step that ends (log 57). An unchanged limit has no effect
(log 14); SEALING tests the lowered limit and LIFTING the open limit before the target (log 26); an edge active where a kept permit drives
the gate closed obstructs it (log 27), unless the lowered limit is inactive, which comes first (log 50). -/
def Obligations.PortalInputsAct : Prop :=
  (∀ (i : PortalId) (sw : LimitId) (active : Bool) (s : State),
    let pins := s.env.portalPins i
    let now := match sw with
      | .gateOpen => pins.gateOpen
      | .gateClosed => pins.gateClosed
      | .barrierRaised => pins.barrierRaised
      | .barrierLowered => pins.barrierLowered
    let next : PortalPins := match sw with
      | .gateOpen => { pins with gateOpen := active }
      | .gateClosed => { pins with gateClosed := active }
      | .barrierRaised => { pins with barrierRaised := active }
      | .barrierLowered => { pins with barrierLowered := active }
    let e := { s.env with pins := { s.env.pins with portals := s.env.pins.portals.set i next } }
    let q := s.plant.portals.get i
    let p := s.plant
    let open_ := q.permit = true ∨ p.queued (.portal i) = true
    (now = active → exec (.limitSwitchChange i sw active) s = .next s) ∧
    (now ≠ active → exec (.limitSwitchChange i sw active) s = .next (settle { s with env := e, plant := onLimit e i p })) ∧
    (q.seq = .barring → open_ → next.barrierLowered = true → onLimit e i p = toClearing e i p) ∧
    (q.seq = .sealing → open_ → next.gateClosed = true → onLimit e i p = toSealed e i p) ∧
    (q.seq = .unsealing → open_ → next.gateOpen = true → onLimit e i p = toLifting e i (.held 0) (letGo e i p)) ∧
    (q.seq = .lifting → open_ → next.barrierRaised = true → onLimit e i p = toOpen e i p) ∧
    (q.seq = .sealing → q.permit = true → next.gateClosed = false → next.barrierLowered = false →
      onLimit e i p = toBarring e i (.held 0) (letGo e i p)) ∧
    (q.seq = .lifting → q.permit = true → next.barrierRaised = false → next.gateOpen = false →
      ((onLimit e i p).portals.get i).seq = .unsealing ∧ ((onLimit e i p).portals.get i).permit = true) ∧
    (q.seq = .hand →
      onLimit e i p =
        if (q.motion = .gateOpening ∧ next.gateOpen = true) ∨ (q.motion = .gateClosing ∧ next.gateClosed = true) ∨
            (q.motion = .barrierRising ∧ next.barrierRaised = true) ∨
            (q.motion = .barrierLowering ∧ next.barrierLowered = true) then endHand e i .limit p
        else if q.motion = .gateClosing ∧ next.barrierLowered = false then endHand e i .guarding p
        else p) ∧
    (q.seq.motionStep = false → q.seq ≠ .hand → onLimit e i p = p)) ∧
  (∀ (e : Env) (i : PortalId) (p : Plant),
    (let q := (toClearing e i p).portals.get i
     q.seq = .clearing ∧ q.signal = .red ∧ q.permit = false ∧ q.limit = .since e.clock ∧ q.overdue = false ∧
     q.confirm = if e.loopsClear then .since e.clock else .stopped) ∧
    (let q := (toSealed e i p).portals.get i
     q.seq = .sealed ∧ q.signal = .red ∧ q.permit = false ∧ q.retries = 0) ∧
    (let q := (toOpen e i p).portals.get i
     q.seq = .open ∧ q.signal = .dark ∧ q.permit = false ∧ q.retries = 0) ∧
    ((e.portalPins i).barrierLowered = false →
      let q := (toBarring e i (.held 0) p).portals.get i
      q.seq = .barring ∧ q.signal = .red ∧ q.permit = (p.portals.get i).permit ∧
        (toBarring e i (.held 0) p).queued (.portal i) = (!(p.portals.get i).permit || p.queued (.portal i))) ∧
    ((p.portals.get i).retries < (e.cfg.portals.get i).retryCount →
      let q := (obstruct e i p).portals.get i
      q.seq = (p.portals.get i).seq ∧ q.permit = false ∧ q.retry = .since e.clock ∧ q.retries = (p.portals.get i).retries + 1 ∧
        q.travel = (p.portals.get i).travel.pause e.clock) ∧
    ((e.cfg.portals.get i).retryCount ≤ (p.portals.get i).retries →
      let q := (obstruct e i p).portals.get i
      q.seq = .jammed ∧ q.jam = some .edge ∧ q.resume = some (p.portals.get i).seq ∧ q.permit = false ∧
        Cause.gateJammed.isIn (obstruct e i p).attn.present = true)) ∧
  (∀ (i : PortalId) (active : Bool) (s : State), (s.env.portalPins i).edge ≠ active →
    let e := { s.env with pins := { s.env.pins with portals := s.env.pins.portals.set i { s.env.portalPins i with edge := active } } }
    let q := s.plant.portals.get i
    exec (.safetyEdgeChange i active) s = .next (settle
      { s with
        env := e
        plant :=
          if active = true ∧ q.seq = .sealing ∧ q.permit = true then obstruct e i s.plant
          else if active = true ∧ q.seq = .hand ∧ q.motion = .gateClosing then endHand e i .edge s.plant
          else s.plant })) ∧
  (∀ (lp : LoopId) (occupied : Bool) (s : State),
    let now := match lp with
      | .l1 => s.env.pins.loops.l1
      | .l2 => s.env.pins.loops.l2
      | .l3 => s.env.pins.loops.l3
      | .l4 => s.env.pins.loops.l4
    let next : LoopPins := match lp with
      | .l1 => { s.env.pins.loops with l1 := occupied }
      | .l2 => { s.env.pins.loops with l2 := occupied }
      | .l3 => { s.env.pins.loops with l3 := occupied }
      | .l4 => { s.env.pins.loops with l4 := occupied }
    let clear := next.l1 = false ∧ next.l2 = false ∧ next.l3 = false ∧ next.l4 = false
    now ≠ occupied →
      ∃ portals, exec (.occupancyLoopChange lp occupied) s = .next (settle
        { s with
          env := { s.env with pins := { s.env.pins with loops := next } }
          plant := { s.plant with portals := portals } }) ∧
        ∀ i,
          ((s.plant.portals.get i).seq = .clearing →
            portals.get i =
              { s.plant.portals.get i with
                confirm :=
                  if occupied then .stopped else if clear then .since s.env.clock else (s.plant.portals.get i).confirm }) ∧
          ((s.plant.portals.get i).seq = .held →
            portals.get i =
              { s.plant.portals.get i with
                confirm :=
                  if occupied = true ∧ (s.plant.portals.get i).confirm ≠ .stopped then .held 0
                  else (s.plant.portals.get i).confirm }) ∧
          ((s.plant.portals.get i).seq ≠ .clearing → (s.plant.portals.get i).seq ≠ .held →
            portals.get i = s.plant.portals.get i)) ∧
  (∀ (e : Env) (i : PortalId) (p : Plant),
    let q := p.portals.get i
    let demand : Option Verb :=
      match p.source (.portal i) with
      | .order => (governingOrder e p (.portal i)).map Order.verb
      | .automatic => if (e.cfg.portals.get i).closureStage ≤ e.underpass then some .close else none
      | _ => none
    let forced := q.overdue = true ∧ (e.underpass = 4 ∨ p.source (.portal i) = .order ∧
      ∃ o, governingOrder e p (.portal i) = some o ∧ o.verb = .close ∧ o.rank = .overriding)
    let fresh : Timer := .held 0
    let p' := applyDemand e i p
    let onHold := fun r : Plant => p' = if demand = some .hold then toHeld e i p else r
    (e.cfg.portalService.get i ≠ .inService ∨ p.locked (.portal i) = true → p' = p) ∧
    (e.cfg.portalService.get i = .inService → p.locked (.portal i) = false →
      (q.seq = .open → p' = if demand = some .close then toWarning e i p else p) ∧
      (q.seq = .warning → onHold (if demand = some .open then toOpen e i p else p)) ∧
      (q.seq = .barring → onHold (if demand = some .open then toLifting e i fresh p else p)) ∧
      (q.seq = .clearing → demand ≠ some .open → forced → onHold (toSealing e i fresh p)) ∧
      (q.seq = .clearing → demand = some .open ∨ ¬ forced →
        onHold (if demand = some .open then toLifting e i fresh p else p)) ∧
      (q.seq = .sealing → onHold (if demand = some .open then toUnsealing e i fresh p else p)) ∧
      (q.seq = .sealed → p' = if demand = some .open then toUnsealing e i fresh p else p) ∧
      (q.seq = .unsealing → onHold (if demand = some .close then toSealing e i fresh p else p)) ∧
      (q.seq = .lifting → onHold (if demand = some .close then toBarring e i fresh p else p)) ∧
      (q.seq = .unsettled →
        onHold (if demand = some .close then toBarring e i fresh p
          else if demand = some .open then toUnsealing e i fresh p else p)) ∧
      (q.seq = .held → p' = if demand = some .hold then p else leaveHeld e i p) ∧
      (q.seq = .jammed → p' = p))) ∧
  ∀ (e : Env) (i : PortalId) (p : Plant),
    let q := p.portals.get i
    let pins := e.portalPins i
    let turned := fun (st : Seq) (a : Aspect) (p' : Plant) =>
      let q' := p'.portals.get i
      q'.seq = st ∧ q'.signal = a ∧ q'.permit = q.permit ∧ q'.retries = q.retries ∧ q'.overdue = false ∧
      p'.queued (.portal i) = (!q.permit || p.queued (.portal i)) ∧
      q'.travel = (if q.permit then .since e.clock else .held 0) ∧ q'.warn = .stopped ∧ q'.confirm = .stopped ∧
      q'.limit = .stopped ∧ q'.retry = .stopped
    (pins.barrierLowered = false → turned .barring .red (toBarring e i (.held 0) p)) ∧
    (pins.gateOpen = true → pins.barrierRaised = false → turned .lifting .amberFlash (toLifting e i (.held 0) p)) ∧
    (pins.gateOpen = false →
      turned .unsealing .red (toUnsealing e i (.held 0) p) ∧ turned .unsealing .red (toLifting e i (.held 0) p)) ∧
    (let ended := fun (st : Seq) (a : Aspect) (p' : Plant) =>
       let q' := p'.portals.get i
       q'.seq = st ∧ q'.signal = a ∧ q'.permit = false ∧ q'.starved = false ∧ p'.queued (.portal i) = false ∧
       q'.travel = .stopped
     (pins.barrierLowered = true →
       let p' := toBarring e i (.held 0) p
       ended .clearing .red p' ∧ (p'.portals.get i).limit = .since e.clock ∧
       (p'.portals.get i).confirm = if e.loopsClear then .since e.clock else .stopped) ∧
     (pins.barrierLowered = true → pins.gateClosed = true →
       ended .sealed .red (toSealing e i (.held 0) p) ∧ ((toSealing e i (.held 0) p).portals.get i).retries = 0) ∧
     (pins.gateOpen = true → pins.barrierRaised = true →
       ended .open .dark (toLifting e i (.held 0) p) ∧ ((toLifting e i (.held 0) p).portals.get i).retries = 0 ∧
       ended .open .dark (toUnsealing e i (.held 0) p))) ∧
    (pins.barrierLowered = true → pins.gateClosed = false → q.permit = true → pins.edge = true →
      toSealing e i (.held 0) p = obstruct e i (putPortal e i { q.enter .sealing with travel := .held 0 } p)) ∧
    (pins.gateOpen = true → pins.barrierRaised = false →
      let p' := toUnsealing e i (.held 0) p
      let q' := p'.portals.get i
      q'.seq = .lifting ∧ q'.signal = .amberFlash ∧ q'.permit = false ∧ q'.starved = false ∧
      p'.arb.queue.map Request.unit = (p.arb.queue.map Request.unit).filter (fun u => u != .portal i) ++ [.portal i]) ∧
    (pins.barrierLowered = true → pins.gateClosed = false → q.permit = false ∨ pins.edge = false →
      turned .sealing .red (toSealing e i (.held 0) p)) ∧
    (pins.barrierLowered = false →
      let q' := (toSealing e i (.held 0) p).portals.get i
      q'.seq = .barring ∧ q'.permit = false ∧ (toSealing e i (.held 0) p).queued (.portal i) = true) ∧
    (let q' := (toWarning e i p).portals.get i
     q'.seq = .warning ∧ q'.signal = .amberFlash ∧ q'.permit = false ∧ q'.warn = .since e.clock) ∧
    (let q' := (settlePortal e i p).portals.get i
     (q.jam ≠ none →
       q'.seq = .jammed ∧ q'.signal = .red ∧ q'.jam = q.jam ∧ q'.resume = q.resume ∧ q'.retries = q.retries) ∧
     (q.jam = none → q.seq = .held → q.resume ≠ none → settlePortal e i p = leaveHeld e i p) ∧
     (q.jam = none → q.seq ≠ .held ∨ q.resume = none →
       q'.seq =
         (if pins.gateClosed = true ∧ pins.barrierLowered = true then .sealed
          else if pins.gateOpen = true ∧ pins.barrierRaised = true then .open
          else .unsettled) ∧
       q'.signal = (if q'.seq = .open then .dark else .red) ∧ q'.resume = none ∧ q'.retries = 0 ∧ q'.overdue = false ∧
       q'.warn = .stopped ∧ q'.travel = .stopped ∧ q'.confirm = .stopped ∧ q'.limit = .stopped ∧ q'.retry = .stopped))

/-! ### The Attention Unit (chapter 9) -/

/-- R174 to R178, R181: READ ALERTS lists the present causes in priority order and changes nothing; ACK ALERTS clears the named latched
causes that are present, and no other, with their counts, and answers what it cleared; SET ALERT MASKS replaces the masks and sets the
relay; a moderation timer runs out when the moderation time has passed. The codes of a cause's type are 1 for a condition and 2 for a
latched cause (log 11), and the counts in the ACK ALERTS answer follow the set without a count byte of their own (log 12). -/
def Obligations.AlertRequestsAct : Prop :=
  (∀ (l : Link) (tag : Byte) (s : State), (s.port l).slot = .empty →
    (∀ body, body ≠ [] → exec (.readAlerts l tag body) s = .next (replied l 0x28 tag .badLength [] s)) ∧
    (let listed := Cause.every.filter (fun c => c.isIn s.plant.attn.present)
     exec (.readAlerts l tag []) s = .next
       (replied l 0x28 tag .done
         ([if s.plant.attn.relayOn then 1 else 0, BitVec.ofNat 8 listed.length] ++
           (listed.map (fun c : Cause =>
             [BitVec.ofNat 8 (c.index.val + 1), if c.latched then 2 else 1, if c.isIn s.env.cfg.masks then 1 else 0,
              BitVec.ofNat 8 (s.plant.attn.count c)])).flatten) s)) ∧
    (∀ body, body.length ≠ 2 →
      exec (.ackAlerts l tag body) s = .next (replied l 0x29 tag .badLength [] s) ∧
      exec (.setAlertMasks l tag body) s = .next (replied l 0x2A tag .badLength [] s)) ∧
    (∀ hi lo : Byte,
      let cleared := Cause.every.filter (fun c => c.latched && c.isIn (hi ++ lo) && c.isIn s.plant.attn.present)
      ∃ t r, exec (.ackAlerts l tag [hi, lo]) s = .next t ∧ (t.port l).slot = .waiting r ∧
        (∀ c : Cause, c.isIn t.plant.attn.present = (c.isIn s.plant.attn.present && !cleared.contains c)) ∧
        (∀ c : Cause, t.plant.attn.count c = if c ∈ cleared then 0 else s.plant.attn.count c) ∧
        (cleared = [] → t.plant = s.plant) ∧
        (cleared ≠ [] →
          t.plant.attn.relayOn = relayRule t.plant.attn.present s.env.cfg.masks ∧
          ∀ k, (t.changes k).overfull = true ∨ ∃ x ∈ (t.changes k).entries, x.key = .plant) ∧
        (∃ w : Word16, (∀ c : Cause, c.isIn w = cleared.contains c) ∧
          r = ⟨0x29, tag, .done,
            bytesOfWord w ++ (cleared.map (fun c => BitVec.ofNat 8 (s.plant.attn.count c))) ++
              bytesOfWord t.plant.attn.present⟩) ∧
        t.env = s.env ∧ t.store = s.store ∧ t.plant = { s.plant with attn := t.plant.attn }) ∧
    (∀ hi lo : Byte, s.store.state ≠ .saving →
      exec (.setAlertMasks l tag [hi, lo]) s = .next
        (replied l 0x2A tag .done []
          { s with
            env := { s.env with cfg := { s.env.cfg with masks := hi ++ lo } }
            plant :=
              { s.plant with
                attn := { s.plant.attn with relayOn := (s.plant.attn.present &&& ~~~(hi ++ lo)) == 0 } } }))) ∧
  ∀ (l : Link) (start : Nat) (s : State), (s.changes l).timer = .since start →
    1000 * (s.env.cfg.reporting.get l).moderation ≤ s.env.clock - start →
    exec (.moderationExpiry l) s = .next
      { s with
        plant :=
          { s.plant with
            attn := { s.plant.attn with sets := s.plant.attn.sets.set l { s.changes l with timer := .ranOut } } } }

/-- R179 to R183: a report reaches both changed sets. A record that has an entry keeps it in its place, with the reason of a removal; a new
entry joins at the end and starts the moderation timer if the set was empty; a 65th empties the set, sets OVERFULL and stops the timer. READ
CHANGES answers whether OVERFULL was set, the count, the number returned and up to 20 entries, oldest first, each with its kind, UNIT 1, SUMP
2, PLANT 3 or ORDER 4 (log 11), and what it names, an ORDER entry with its removal reason; it clears OVERFULL, and in CLEAR_ON_READ mode
removes the entries returned; CLEAR CHANGES removes the oldest entries and answers how many are
left; SET REPORTING replaces the settings of its own link, and a running moderation timer that has reached the new time runs out. The
entries of READ CHANGES follow the number returned without a further count byte (log 12). -/
def Obligations.ChangeRequestsAct : Prop :=
  (∀ (now : Nat) (k : RecordKey) (why : Option Reason) (c : ChangedSet),
    ((∃ x ∈ c.entries, x.key = k) →
      c.take now k why =
        { c with entries := c.entries.map (fun x => if x.key = k then { x with reason := why.or x.reason } else x) }) ∧
    ((∀ x ∈ c.entries, x.key ≠ k) →
      c.take now k why =
        if c.entries.length < 64 then
          { c with entries := c.entries ++ [⟨k, why⟩], timer := if c.entries = [] then .since now else c.timer }
        else { entries := [], overfull := true, timer := .stopped })) ∧
  (∀ (e : Env) (k : RecordKey) (why : Option Reason) (p : Plant) (l : Link),
    (report e k why p).attn.sets.get l = (p.attn.sets.get l).take e.clock k why) ∧
  ∀ (l : Link) (tag : Byte) (s : State), (s.port l).slot = .empty →
    let set := s.changes l
    let laid := fun x : Entry =>
      match x.key with
      | .unit u => [1, BitVec.ofNat 8 u.number]
      | .sump u => [2, match u with | .c => (1 : Byte) | .e => 2 | .w => 3]
      | .plant => [3]
      | .order n =>
        [4, BitVec.ofNat 8 (n / 256), BitVec.ofNat 8 n,
          match x.reason with
          | none => 0 | some .withdrawn => 1 | some .expired => 2 | some .replaced => 3 | some .stoodDown => 4]
    let written := fun c : ChangedSet =>
      { s with plant := { s.plant with attn := { s.plant.attn with sets := s.plant.attn.sets.set l c } } }
    let dropped := fun n : Nat =>
      { set with
        entries := set.entries.drop n, timer := if (set.entries.drop n).isEmpty then .stopped else set.timer }
    (∀ body, body ≠ [] → exec (.readChanges l tag body) s = .next (replied l 0x2B tag .badLength [] s)) ∧
    exec (.readChanges l tag []) s = .next
      (replied l 0x2B tag .done
        ([if set.overfull then 1 else 0, BitVec.ofNat 8 set.entries.length, BitVec.ofNat 8 (min 20 set.entries.length)] ++
          ((set.entries.take 20).map laid).flatten)
        (written
          (if (s.env.cfg.reporting.get l).clearOnRead then { dropped 20 with overfull := false }
           else { set with overfull := false }))) ∧
    (∀ body, body.length ≠ 1 → exec (.clearChanges l tag body) s = .next (replied l 0x2C tag .badLength [] s)) ∧
    (∀ n : Byte, 64 < n.toNat → exec (.clearChanges l tag [n]) s = .next (replied l 0x2C tag .badField [] s)) ∧
    (∀ n : Byte, n.toNat ≤ 64 →
      exec (.clearChanges l tag [n]) s = .next
        (replied l 0x2C tag .done [BitVec.ofNat 8 (set.entries.length - n.toNat)] (written (dropped n.toNat)))) ∧
    (∀ body, body.length ≠ 3 → exec (.setReporting l tag body) s = .next (replied l 0x2D tag .badLength [] s)) ∧
    (∀ a m mode : Byte,
      let fits := 1 ≤ a.toNat ∧ a.toNat ≤ 64 ∧ 1 ≤ m.toNat ∧ m.toNat ≤ 60 ∧ (mode = 1 ∨ mode = 2)
      (s.store.state = .saving → exec (.setReporting l tag [a, m, mode]) s = .next (replied l 0x2D tag .busy [] s)) ∧
      (s.store.state ≠ .saving → ¬ fits → exec (.setReporting l tag [a, m, mode]) s = .next (replied l 0x2D tag .badField [] s)) ∧
      (s.store.state ≠ .saving → fits →
        exec (.setReporting l tag [a, m, mode]) s = .next
          (replied l 0x2D tag .done []
            { written
                { set with
                  timer :=
                    (match set.timer with
                     | .since start => if 1000 * m.toNat ≤ s.env.clock - start then .ranOut else .since start
                     | other => other) } with
              env :=
                { s.env with
                  cfg :=
                    { s.env.cfg with
                      reporting := s.env.cfg.reporting.set l
                        { threshold := a.toNat, moderation := m.toNat, clearOnRead := mode == 1 } } } }))) ∧
    factoryDefaults.reporting = ⟨⟨8, 5, true⟩, ⟨8, 5, true⟩⟩

/-! ### The invariants of the whole block -/

/-- R177, R179, R180, R181: no command and no passing of time unsets the relay's rule, or lets a changed set hold more than 64 entries, two
alike, or a moderation timer beside no entry. -/
def Obligations.AttentionInvariantKept : Prop :=
  ∀ s t : State, RelayOk s → ChangesOk s → step s = .next t → RelayOk t ∧ ChangesOk t

/-- R23, R24, R50, R66: every step keeps the ranges of the sections, the underpass stage as the greatest of the sump stages, and the order
table free of STANDING orders that their relevant stage has reached. -/
def Obligations.StageInvariantKept : Prop :=
  ∀ s t : State, SectionsOk s → YieldOk s → step s = .next t → SectionsOk t ∧ YieldOk t

/-- R5, R6, R9, R11, R26, R30, R33: every step keeps the order table within its limits, its numbers apart, its KEY orders with their
switches, its lockouts with the panel, and every unit's lock flag, governing order and demand source as the table gives them. -/
def Obligations.OrderInvariantKept : Prop :=
  ∀ s t : State, TableOk s → GovernanceOk s → step s = .next t → TableOk t ∧ GovernanceOk t

/-- R74, R77, R79: every step keeps the duty rings: each pump in the ring of its sump and in no other, 1 .. 4 pumps in each, the lead and
the latches fitting. -/
def Obligations.RingInvariantKept : Prop :=
  ∀ s t : State, RingsOk s → step s = .next t → RingsOk t

/-- R85, R94, R95, R106: every step keeps each pump's state consistent with its fault, its start list and the start queue, and the number
of pumps STARTING or RUNNING within the outfall limit in force. -/
def Obligations.PumpInvariantKept : Prop :=
  ∀ s t : State, TableOk s → GovernanceOk s → PumpsOk s → QueueOk s → GrantsNoted s → LimitOk s → step s = .next t →
    PumpsOk t ∧ QueueOk t ∧ GrantsNoted t ∧ LimitOk t

/-- R11, R42, R116, R126, R130, R132: every step keeps the portals consistent: no gate is driven toward closed unless its barrier is at
the lowered limit and the signal is RED, no barrier is raised by LIFTING unless the gate is open, and every locked unit is still. -/
def Obligations.GuardInvariantKept : Prop :=
  ∀ s t : State, TableOk s → GovernanceOk s → PumpsOk s → QueueOk s → PortalsOk s → LockedStill s → step s = .next t →
    PortalsOk t ∧ LockedStill t

/-- R102 to R105, R113: every step keeps the committed load within the budget in force, through every grant, ramp, change of supply and
change of settings. -/
def Obligations.BudgetInvariantKept : Prop :=
  ∀ s t : State, TableOk s → GovernanceOk s → PumpsOk s → QueueOk s → GrantsNoted s → PortalsOk s → LoadOk s → step s = .next t →
    LoadOk t ∧ BudgetOk t

/-- Every invariant holds at State.reset (with the store content and the pins of log 3 and log 4). -/
def Obligations.InvariantsHoldAtReset : Prop :=
  RelayOk State.reset ∧ ChangesOk State.reset ∧ SectionsOk State.reset ∧ YieldOk State.reset ∧ TableOk State.reset ∧
    GovernanceOk State.reset ∧ RingsOk State.reset ∧ PumpsOk State.reset ∧ QueueOk State.reset ∧ GrantsNoted State.reset ∧
    LimitOk State.reset ∧ PortalsOk State.reset ∧ LockedStill State.reset ∧ LoadOk State.reset ∧ BudgetOk State.reset

/-- Whatever commands and characters arrive, with whatever content and at whatever moments, every state reached from reset, with the store
and the pins of log 3 and log 4, is safe. A schedule says after how many more steps each lot of commands joins the queue and of characters
the lines; the steps between run the commands that wait and then let the block idle, through due events and milliseconds (log 2), so
that events of the plant come after any passage of time. The run always answers a next state, and in it the committed load is within the
budget (R102), no gate is driven closed unguarded (R42), every locked unit is still (R11), and no more pumps run than the outfall limit
allows (R95). A lot that is empty lets time pass, so this speaks of every state of the run. -/
def Obligations.EveryRunFromResetIsSafe : Prop :=
  ∀ schedule : List Arrival, ∃ t : State, runSchedule schedule State.reset = .next t ∧ Safe t
end

