-- ==== Sys2Proof/Laws/State.lean ====
section
/-! SUPPORT. Small lemmas of the records: a value read after it is written, and what each update of State leaves as it was. -/

namespace Sys2Proof

variable {α : Type}

/-! ### A value read after it is written -/

@[simp] theorem PerPump.get_set (t : PerPump α) (i : PumpId) (v : α) : (t.set i v).get i = v := by cases i <;> rfl
@[simp] theorem PerPortal.get_set (t : PerPortal α) (i : PortalId) (v : α) : (t.set i v).get i = v := by cases i <;> rfl
@[simp] theorem PerZone.get_set (t : PerZone α) (z : ZoneId) (v : α) : (t.set z v).get z = v := by cases z <;> rfl
@[simp] theorem PerSump.get_set (t : PerSump α) (u : SumpId) (v : α) : (t.set u v).get u = v := by cases u <;> rfl
@[simp] theorem PerLink.get_set (t : PerLink α) (l : Link) (v : α) : (t.set l v).get l = v := by cases l <;> rfl
@[simp] theorem PerSide.get_set (t : PerSide α) (d : Side) (v : α) : (t.set d v).get d = v := by cases d <;> rfl
@[simp] theorem PerUnit.get_set (t : PerUnit α) (u : UnitId) (v : α) : (t.set u v).get u = v := by
  cases u <;> simp [PerUnit.get, PerUnit.set]

theorem PerPump.get_set_ne (t : PerPump α) {i j : PumpId} (v : α) (h : j ≠ i) : (t.set i v).get j = t.get j := by
  cases i <;> cases j <;> first | rfl | exact absurd rfl h
theorem PerPortal.get_set_ne (t : PerPortal α) {i j : PortalId} (v : α) (h : j ≠ i) : (t.set i v).get j = t.get j := by
  cases i <;> cases j <;> first | rfl | exact absurd rfl h
theorem PerZone.get_set_ne (t : PerZone α) {i j : ZoneId} (v : α) (h : j ≠ i) : (t.set i v).get j = t.get j := by
  cases i <;> cases j <;> first | rfl | exact absurd rfl h
theorem PerSump.get_set_ne (t : PerSump α) {i j : SumpId} (v : α) (h : j ≠ i) : (t.set i v).get j = t.get j := by
  cases i <;> cases j <;> first | rfl | exact absurd rfl h
theorem PerLink.get_set_ne (t : PerLink α) {i j : Link} (v : α) (h : j ≠ i) : (t.set i v).get j = t.get j := by
  cases i <;> cases j <;> first | rfl | exact absurd rfl h
theorem PerSide.get_set_ne (t : PerSide α) {i j : Side} (v : α) (h : j ≠ i) : (t.set i v).get j = t.get j := by
  cases i <;> cases j <;> first | rfl | exact absurd rfl h
theorem PerUnit.get_set_ne (t : PerUnit α) {u w : UnitId} (v : α) (h : w ≠ u) : (t.set u v).get w = t.get w := by
  cases u <;> cases w <;> simp only [PerUnit.get, PerUnit.set] <;>
    first
    | exact PerPump.get_set_ne _ _ (fun e => h (e ▸ rfl))
    | exact PerPortal.get_set_ne _ _ (fun e => h (e ▸ rfl))
    | exact PerZone.get_set_ne _ _ (fun e => h (e ▸ rfl))
    | exact absurd rfl h

/-- The second of two writes to one place counts, and writing what is there changes nothing. -/
@[simp] theorem PerLink.set_set (t : PerLink α) (l : Link) (v w : α) : (t.set l v).set l w = t.set l w := by cases l <;> rfl
@[simp] theorem PerLink.set_get (t : PerLink α) (l : Link) : t.set l (t.get l) = t := by cases l <;> rfl

@[simp] theorem PerPump.get_all (v : α) (i : PumpId) : (PerPump.all v).get i = v := by cases i <;> rfl
@[simp] theorem PerPortal.get_all (v : α) (i : PortalId) : (PerPortal.all v).get i = v := by cases i <;> rfl
@[simp] theorem PerZone.get_all (v : α) (z : ZoneId) : (PerZone.all v).get z = v := by cases z <;> rfl
@[simp] theorem PerSump.get_all (v : α) (u : SumpId) : (PerSump.all v).get u = v := by cases u <;> rfl
@[simp] theorem PerLink.get_all (v : α) (l : Link) : (PerLink.all v).get l = v := by cases l <;> rfl
@[simp] theorem PerSide.get_all (v : α) (d : Side) : (PerSide.all v).get d = v := by cases d <;> rfl

@[simp] theorem PerZone.get_mapZ {β : Type} (f : ZoneId → α → β) (t : PerZone α) (z : ZoneId) :
    (t.mapZ f).get z = f z (t.get z) := by cases z <;> rfl

theorem PumpId.mem_every (i : PumpId) : i ∈ PumpId.every := by cases i <;> decide
theorem PortalId.mem_every (i : PortalId) : i ∈ PortalId.every := by cases i <;> decide
theorem ZoneId.mem_every (z : ZoneId) : z ∈ ZoneId.every := by cases z <;> decide
theorem SumpId.mem_every (u : SumpId) : u ∈ SumpId.every := by cases u <;> decide
theorem UnitId.mem_every (u : UnitId) : u ∈ UnitId.every := by
  cases u with
  | pump i => cases i <;> decide
  | portal i => cases i <;> decide
  | zone z => cases z <;> decide
  | outfall => decide

/-- An id names its unit (0.5). -/
theorem UnitId.ofNumber_number (u : UnitId) : UnitId.ofNumber u.number = some u := by
  cases u with
  | pump i => cases i <;> decide
  | portal i => cases i <;> decide
  | zone z => cases z <;> decide
  | outfall => decide

end Sys2Proof

namespace Sys2Proof.Machine

/-! ### Ports -/

section Ports
variable (l : Link) (q : Port) (s : State)

@[simp] theorem putPort_pending : (putPort l q s).pending = s.pending := rfl
@[simp] theorem putPort_env : (putPort l q s).env = s.env := rfl
@[simp] theorem putPort_plant : (putPort l q s).plant = s.plant := rfl
@[simp] theorem putPort_store : (putPort l q s).store = s.store := rfl
@[simp] theorem putPort_address : (putPort l q s).links.address = s.links.address := rfl
@[simp] theorem putPort_rate : (putPort l q s).links.rateInUse = s.links.rateInUse := rfl
@[simp] theorem putPort_lines : (putPort l q s).links.lines = s.links.lines := rfl
@[simp] theorem putPort_port : (putPort l q s).port l = q := PerLink.get_set _ _ _
theorem putPort_port_ne {k : Link} (h : k ≠ l) : (putPort l q s).port k = s.port k := PerLink.get_set_ne _ _ h

end Ports

section Rate
variable (s : State)

@[simp] theorem takeUpRate_pending : (takeUpRate s).pending = s.pending := by simp only [takeUpRate]; split <;> rfl
@[simp] theorem takeUpRate_env : (takeUpRate s).env = s.env := by simp only [takeUpRate]; split <;> rfl
@[simp] theorem takeUpRate_plant : (takeUpRate s).plant = s.plant := by simp only [takeUpRate]; split <;> rfl
@[simp] theorem takeUpRate_store : (takeUpRate s).store = s.store := by simp only [takeUpRate]; split <;> rfl
@[simp] theorem takeUpRate_lines : (takeUpRate s).links.lines = s.links.lines := by simp only [takeUpRate]; split <;> rfl
@[simp] theorem takeUpRate_address : (takeUpRate s).links.address = s.links.address := by simp only [takeUpRate]; split <;> rfl
@[simp] theorem takeUpRate_ports : (takeUpRate s).links.ports = s.links.ports := by simp only [takeUpRate]; split <;> rfl
@[simp] theorem takeUpRate_port (l : Link) : (takeUpRate s).port l = s.port l := by simp [State.port]

end Rate

/-! ### The lines and the passing of time -/

section Lines
variable (l : Link) (s : State)

@[simp] theorem dropChar_pending : (dropChar l s).pending = s.pending := rfl
@[simp] theorem dropChar_env : (dropChar l s).env = s.env := rfl
@[simp] theorem dropChar_plant : (dropChar l s).plant = s.plant := rfl
@[simp] theorem dropChar_store : (dropChar l s).store = s.store := rfl
@[simp] theorem dropChar_ports : (dropChar l s).links.ports = s.links.ports := rfl
@[simp] theorem dropChar_address : (dropChar l s).links.address = s.links.address := rfl
@[simp] theorem dropChar_rate : (dropChar l s).links.rateInUse = s.links.rateInUse := rfl
@[simp] theorem dropChar_lines :
    (dropChar l s).links.lines = s.links.lines.set l ((s.links.lines.get l).drop 1) := rfl

@[simp] theorem tick_pending : (tick s).pending = s.pending := rfl
@[simp] theorem tick_env : (tick s).env = { s.env with clock := s.env.clock + 1 } := rfl
@[simp] theorem tick_plant : (tick s).plant = s.plant := rfl
@[simp] theorem tick_store : (tick s).store = s.store := rfl
@[simp] theorem tick_address : (tick s).links.address = s.links.address := rfl
@[simp] theorem tick_rate : (tick s).links.rateInUse = s.links.rateInUse := rfl
@[simp] theorem tick_port : (tick s).port l = passPort (s.links.lines.get l) (s.port l) := by cases l <;> rfl
@[simp] theorem tick_line : (tick s).links.lines.get l = passLine (s.links.lines.get l) := by cases l <;> rfl

end Lines

/-! ### The plant acting on an event -/

section Settle
variable (s : State)

@[simp] theorem settle_pending : (settle s).pending = s.pending := rfl
@[simp] theorem settle_env : (settle s).env = s.env := rfl
@[simp] theorem settle_links : (settle s).links = s.links := rfl
@[simp] theorem settle_store : (settle s).store = s.store := rfl
@[simp] theorem settle_plant : (settle s).plant = settlePlant s.env s.plant := rfl

end Settle

/-! ### The order table -/

section Table
variable (us : List UnitId) (gone : Order → Bool) (why : Reason) (s : State)

@[simp] theorem resolve_pending : (resolve us s).pending = s.pending := rfl
@[simp] theorem resolve_links : (resolve us s).links = s.links := rfl
@[simp] theorem resolve_store : (resolve us s).store = s.store := rfl
@[simp] theorem resolve_env : (resolve us s).env = { s.env with table := resolveTable s.env.cfg us s.env.table } := rfl

@[simp] theorem removeOrders_pending : (removeOrders gone why s).pending = s.pending := rfl
@[simp] theorem removeOrders_links : (removeOrders gone why s).links = s.links := rfl
@[simp] theorem removeOrders_store : (removeOrders gone why s).store = s.store := rfl
@[simp] theorem removeOrders_env :
    (removeOrders gone why s).env = { s.env with table := s.env.table.filter (fun o => !gone o) } := rfl

@[simp] theorem standDown_pending : (standDown s).pending = s.pending := rfl
@[simp] theorem standDown_links : (standDown s).links = s.links := rfl
@[simp] theorem standDown_store : (standDown s).store = s.store := rfl

end Table

/-! ### The store -/

section Store
variable (t : Store) (s : State)

@[simp] theorem putStore_pending : (putStore t s).pending = s.pending := by simp only [putStore]; split <;> rfl
@[simp] theorem putStore_env : (putStore t s).env = s.env := by simp only [putStore]; split <;> rfl
@[simp] theorem putStore_links : (putStore t s).links = s.links := by simp only [putStore]; split <;> rfl
@[simp] theorem putStore_store : (putStore t s).store = t := by simp only [putStore]; split <;> rfl
@[simp] theorem askLockoutWrite_env : (askLockoutWrite s).env = s.env := putStore_env _ _
@[simp] theorem askLockoutWrite_pending : (askLockoutWrite s).pending = s.pending := putStore_pending _ _
@[simp] theorem askLockoutWrite_links : (askLockoutWrite s).links = s.links := putStore_links _ _

end Store

/-! ### A clock tick's record, and a portal's entry to a state -/

section Portal
variable (st : Seq) (q : Portal)

@[simp] theorem Portal.enter_seq : (q.enter st).seq = st := rfl
@[simp] theorem Portal.enter_permit : (q.enter st).permit = q.permit := rfl
@[simp] theorem Portal.enter_resume : (q.enter st).resume = q.resume := rfl
@[simp] theorem Portal.enter_jam : (q.enter st).jam = q.jam := rfl
@[simp] theorem Portal.enter_retries : (q.enter st).retries = q.retries := rfl
@[simp] theorem Portal.enter_starved : (q.enter st).starved = q.starved := rfl
@[simp] theorem Portal.enter_motion : (q.enter st).motion = q.motion := rfl
@[simp] theorem Portal.enter_result : (q.enter st).result = q.result := rfl
@[simp] theorem Portal.enter_overdue : (q.enter st).overdue = false := rfl

end Portal

/-! ### What an arrival of commands and characters adds -/

section Arrival
variable (a : Arrival) (s : State)

@[simp] theorem State.arrive_env : (s.arrive a).env = s.env := rfl
@[simp] theorem State.arrive_plant : (s.arrive a).plant = s.plant := rfl
@[simp] theorem State.arrive_store : (s.arrive a).store = s.store := rfl
@[simp] theorem State.arrive_ports : (s.arrive a).links.ports = s.links.ports := rfl
@[simp] theorem State.arrive_pending : (s.arrive a).pending = s.pending ++ a.commands := rfl

end Arrival

end Sys2Proof.Machine
end

