-- ==== Sys2Proof/Laws/Line.lean ====
section
/-! SUPPORT. What a timer's expiry needs, what a return to HUNTING does (R159, R168), and what a character can do when it ends (R157,
R159). -/

namespace Sys2Proof.Machine

/-! ### Timers -/

/-- A timer has run out when it counts and has counted that long; a stopped or a held one never has. -/
theorem Timer.ranOut_iff {t : Timer} {now ms : Nat} : t.ranOut now ms = true ↔ ∃ start, t = .since start ∧ ms ≤ now - start := by
  cases t <;> simp [Timer.ranOut]

/-! ### The receiver returns to HUNTING (R159, R168) -/

section Hunting
variable (l : Link) (s : State)

@[simp] theorem huntAgain_pending : (huntAgain l s).pending = s.pending := by cases l <;> simp [huntAgain]
@[simp] theorem huntAgain_env : (huntAgain l s).env = s.env := by cases l <;> simp [huntAgain]
@[simp] theorem huntAgain_plant : (huntAgain l s).plant = s.plant := by cases l <;> simp [huntAgain]
@[simp] theorem huntAgain_store : (huntAgain l s).store = s.store := by cases l <;> simp [huntAgain]
@[simp] theorem huntAgain_port : (huntAgain l s).port l = { s.port l with rx := .hunting } := by cases l <;> simp [huntAgain]

/-- All that a return to HUNTING does: the receiver, and the field port's rate when its slot is EMPTY. -/
theorem huntAgain_eq :
    huntAgain l s =
      { s with
        links :=
          { s.links with
            ports := s.links.ports.set l { s.port l with rx := .hunting }
            rateInUse := if l = .field ∧ (s.port l).slot = .empty then s.env.cfg.fieldRate else s.links.rateInUse } } := by
  cases l with
  | panel => simp [huntAgain, putPort]
  | field =>
    have hq : (putPort .field { s.port .field with rx := .hunting } s).port .field = { s.port .field with rx := .hunting } :=
      putPort_port _ _ _
    simp only [huntAgain, takeUpRate, hq, true_and]
    split <;> rfl

end Hunting

/-! ### Characters -/

/-- A receiver that is off hears nothing, and HUNTING waits for the lead byte (R157, R159). -/
@[simp] theorem hear_off (b : Byte) : Receiver.hear b .off = .on .off := rfl
@[simp] theorem hear_hunting (b : Byte) : Receiver.hear b .hunting = .on (takenInHunting b) := rfl

@[simp] theorem hearAll_nil (rx : Receiver) : hearAll rx [] = (rx, none) := rfl

section Chars
variable {l : Link} {s : State} {c : LineChar} {b : Byte} {why : ByteFault}

/-- A faulty character abandons the frame that is being assembled, and else is dropped (R159, log 17). -/
theorem charEvent_faulty (h : readChar l c.bits = .faulty why) :
    charEvent s l c = if (s.port l).rx.busy then .inl (.faultyFrameByte l why) else .inr (s.port l).rx := by
  simp only [charEvent, h]

/-- A sound character after a long gap abandons the frame before it (R159, log 46). -/
theorem charEvent_late (h : readChar l c.bits = .byte b) (g : (s.port l).rx.gapRan = true) :
    charEvent s l c = .inl (.frameAbandoned l b) := by
  simp only [charEvent, h, g, if_true]

/-- A sound character in time is heard by the receiver: it goes on, the length is refused, or the frame is complete. -/
theorem charEvent_byte (h : readChar l c.bits = .byte b) (g : (s.port l).rx.gapRan = false) :
    charEvent s l c =
      (match (s.port l).rx.hear b with
       | .on rx => .inr rx
       | .tooLong => .inl (.faultyFrameByte l .lengthOver200)
       | .complete frame => .inl (frameCommand s l frame)) := by
  simp only [charEvent, h, g]
  rfl

end Chars

end Sys2Proof.Machine
end

