-- ==== Sys2Proof/Laws/Links.lean ====
section
/-! SUPPORT. What taking a request can do (R161), and what a run of ordered checks can answer (0.7). -/

namespace Sys2Proof.Machine

variable {l : Link} {kind tag : Byte} {f : State → State × Answer} {s : State}

/-- An EMPTY slot takes the request: its owner acts, and the slot holds the answer (R161, R162). -/
theorem takeRequest_empty (h : (s.port l).slot = .empty) :
    takeRequest l kind tag f s =
      putPort l { (f s).1.port l with rx := .hunting, slot := slotFor kind tag (f s).2 } (f s).1 := by
  simp only [takeRequest, h]

/-- A pending reply discards the request and sets OVERRUN (R161). -/
theorem takeRequest_waiting {r : Reply} (h : (s.port l).slot = .waiting r) :
    takeRequest l kind tag f s = putPort l { s.port l with rx := .hunting, overrun := true } s := by
  simp only [takeRequest, h]

/-- A deferred reply does so too (R161, R166). -/
theorem takeRequest_deferred {r : Reply} {numbers : List Byte} (h : (s.port l).slot = .deferred r numbers) :
    takeRequest l kind tag f s = putPort l { s.port l with rx := .hunting, overrun := true } s := by
  simp only [takeRequest, h]

/-- A port that sends hears nothing (R157). -/
theorem takeRequest_sending {b : List Byte} (h : (s.port l).slot = .sending b) : takeRequest l kind tag f s = s := by
  simp only [takeRequest, h]

/-- The first check of a run that fails decides (0.7). -/
theorem firstFailure_cons (ok : Bool) (c : Code) (rest : List (Bool × Code)) :
    firstFailure ((ok, c) :: rest) = if ok then firstFailure rest else some c := rfl

theorem firstFailure_eq_none {checks : List (Bool × Code)} :
    firstFailure checks = none ↔ ∀ x ∈ checks, x.1 = true := by
  induction checks with
  | nil => simp [firstFailure]
  | cons x rest ih =>
    obtain ⟨ok, c⟩ := x
    cases ok <;> simp [firstFailure, ih]

theorem guarded_pass {checks : List (Bool × Code)} (h : firstFailure checks = none) : guarded checks f s = f s := by
  simp only [guarded, h]

theorem guarded_fail {checks : List (Bool × Code)} {c : Code} (h : firstFailure checks = some c) :
    guarded checks f s = (s, .refuse c) := by
  simp only [guarded, h]

/-- Ordered checks either refuse and change nothing, or let the request act (0.7). -/
theorem guarded_cases (checks : List (Bool × Code)) :
    (∃ c, firstFailure checks = some c ∧ guarded checks f s = (s, .refuse c)) ∨
      (firstFailure checks = none ∧ guarded checks f s = f s) := by
  cases h : firstFailure checks with
  | none => exact .inr ⟨rfl, guarded_pass h⟩
  | some c => exact .inl ⟨c, rfl, guarded_fail h⟩

end Sys2Proof.Machine
end

