-- ==== Sys2Proof/Laws/Plant.lean ====
section
/-! SUPPORT. What the plant's operations keep, said once for each operation: the unit records stand as they were, and the Attention
Unit's record changes by reports, raises and refreshed conditions alone (R174, R175, R179). Whatever those three keep, such as the
relay's rule (R177) and the shape of the changed sets (R179 to R181), every operation keeps. -/

namespace Sys2Proof.Machine

/-- One change of the Attention Unit's record by a block of the plant: its reports name no order and give no reason. -/
inductive AttnStep (e : Env) : Attention → Attention → Prop where
  | report (k : RecordKey) (hk : ∀ n, k ≠ .order n) (a : Attention) : AttnStep e a (a.report e.clock k none)
  | raise (c : Cause) (a : Attention) : AttnStep e a (a.raise e.clock e.cfg.masks c)
  | conditions (w : Word16) (a : Attention) : AttnStep e a (a.conditions e.clock e.cfg.masks w)

/-- Any number of such changes. -/
def AttnReach (e : Env) : Attention → Attention → Prop := Relation.ReflTransGen (AttnStep e)

/-- A property that the three changes keep is kept by any number of them. -/
theorem AttnReach.induct {e : Env} {P : Attention → Prop}
    (hr : ∀ k a, (∀ n, k ≠ .order n) → P a → P (a.report e.clock k none))
    (hc : ∀ c a, P a → P (a.raise e.clock e.cfg.masks c))
    (hw : ∀ w a, P a → P (a.conditions e.clock e.cfg.masks w))
    {a b : Attention} (h : AttnReach e a b) (ha : P a) : P b := by
  induction h with
  | refl => exact ha
  | tail _ st ih =>
    cases st with
    | report k hk a => exact hr _ _ hk ih
    | raise c a => exact hc _ _ ih
    | conditions w a => exact hw _ _ ih

/-- What an operation that starts at `p` and ends at `q` keeps. -/
structure Kept (e : Env) (p q : Plant) : Prop where
  units : q.units = p.units
  attn : AttnReach e p.attn q.attn

section Kept
variable {e : Env} {p a : Plant}

theorem Kept.refl : Kept e p p := ⟨rfl, .refl⟩

/-- The unit records and the Attention Unit's record stand. -/
theorem Kept.same {q : Plant} (h : Kept e a p) (hu : q.units = p.units) (ht : q.attn = p.attn) : Kept e a q :=
  ⟨hu.trans h.units, ht ▸ h.attn⟩

theorem Kept.step {q : Plant} (h : Kept e a p) (hu : q.units = p.units) (ht : AttnStep e p.attn q.attn) : Kept e a q :=
  ⟨hu.trans h.units, h.attn.tail ht⟩

theorem report_kept {k : RecordKey} (h : Kept e a p) (hk : ∀ n, k ≠ .order n := by intro _ h; cases h) :
    Kept e a (report e k none p) :=
  h.step rfl (.report _ hk _)

theorem raiseCause_kept {c : Cause} (h : Kept e a p) : Kept e a (raiseCause e c p) := h.step rfl (.raise _ _)

theorem refreshConditions_kept (h : Kept e a p) : Kept e a (refreshConditions e p) := h.step rfl (.conditions _ _)

theorem foldl_kept {β : Type} {f : Plant → β → Plant} (hf : ∀ q b, Kept e a q → Kept e a (f q b)) (l : List β)
    (h : Kept e a p) : Kept e a (l.foldl f p) := by
  induction l generalizing p with
  | nil => exact h
  | cons b l ih => exact ih (hf _ _ h)

/-! ### Records and the start queue -/

theorem putPump_kept {i : PumpId} {q : Pump} (h : Kept e a p) : Kept e a (putPump e i q p) := by
  simp only [putPump]; split
  · exact h.same rfl rfl
  · exact report_kept (h.same rfl rfl)

theorem putPortal_kept {i : PortalId} {q : Portal} (h : Kept e a p) : Kept e a (putPortal e i q p) := by
  simp only [putPortal]; split
  · exact h.same rfl rfl
  · exact report_kept (h.same rfl rfl)

theorem putZone_kept {z : ZoneId} {q : Zone} (h : Kept e a p) : Kept e a (putZone e z q p) := by
  simp only [putZone]; split
  · exact h.same rfl rfl
  · exact report_kept (h.same rfl rfl)

theorem joinQueue_kept {u : UnitId} (h : Kept e a p) : Kept e a (joinQueue e u p) := by
  simp only [joinQueue]; split
  · exact h
  · exact h.same rfl rfl

theorem dropRequest_kept {u : UnitId} (h : Kept e a p) : Kept e a (dropRequest u p) := h.same rfl rfl

theorem noteGrant_kept {u : UnitId} (h : Kept e a p) : Kept e a (noteGrant u p) := h.same rfl rfl

theorem unqueuePump_kept {i : PumpId} (h : Kept e a p) : Kept e a (unqueuePump e i p) := putPump_kept (dropRequest_kept h)

theorem unqueuePortal_kept {i : PortalId} (h : Kept e a p) : Kept e a (unqueuePortal e i p) :=
  putPortal_kept (dropRequest_kept h)

/-! ### Pump Duty -/

theorem advanceLead_kept {u : SumpId} (h : Kept e a p) : Kept e a (advanceLead e u p) := h.same rfl rfl

theorem resetLead_kept {u : SumpId} (h : Kept e a p) : Kept e a (resetLead u p) := h.same rfl rfl

theorem evaluateLatches_kept {u : SumpId} {f : Nat} (h : Kept e a p) : Kept e a (evaluateLatches e u f p) := h.same rfl rfl

theorem haltPump_kept {i : PumpId} {k : Stop} (h : Kept e a p) : Kept e a (haltPump e i k p) := by
  have h1 : ∀ (c : Prop) [Decidable c] {u : SumpId} {q : Pump},
      Kept e a (if c then advanceLead e u (putPump e i q p) else putPump e i q p) := by
    intro c _ u q
    split
    · exact advanceLead_kept (putPump_kept h)
    · exact putPump_kept h
  cases k with
  | fault f => exact raiseCause_kept (h1 _)
  | _ => exact h1 _

theorem standingStops_kept {u : SumpId} (n : Nat) : ∀ {p : Plant}, Kept e a p → Kept e a (standingStops e u n p) := by
  induction n with
  | zero => exact id
  | succ n ih =>
    intro p h
    simp only [standingStops]; split
    · exact h
    · exact ih (foldl_kept (fun _ _ => haltPump_kept) _ h)

theorem queuePump_kept {i : PumpId} (h : Kept e a p) : Kept e a (queuePump e i p) := joinQueue_kept (putPump_kept h)

theorem queueOrLeave_kept {wanted : List PumpId} {i : PumpId} (h : Kept e a p) : Kept e a (queueOrLeave e wanted i p) := by
  simp only [queueOrLeave]; split
  · exact queuePump_kept h
  · exact unqueuePump_kept h
  · exact h

theorem dutySump_kept {u : SumpId} (h : Kept e a p) : Kept e a (dutySump e u p) :=
  foldl_kept (fun _ _ => queueOrLeave_kept) _ (standingStops_kept _ h)

theorem dutyAll_kept (h : Kept e a p) : Kept e a (dutyAll e p) := foldl_kept (fun _ _ => dutySump_kept) _ h

theorem immediateStop_kept {i : PumpId} (h : Kept e a p) : Kept e a (immediateStop e i p) := by
  simp only [immediateStop]; split
  · split <;> first | with_reducible exact haltPump_kept h | exact unqueuePump_kept h | exact h
  · exact h

theorem immediateStops_kept (h : Kept e a p) : Kept e a (immediateStops e p) :=
  foldl_kept (fun _ _ => immediateStop_kept) _ h

theorem outfallStops_kept (n : Nat) : ∀ {p : Plant}, Kept e a p → Kept e a (outfallStops e n p) := by
  induction n with
  | zero => exact id
  | succ n ih =>
    intro p h
    simp only [outfallStops]; split
    · split
      · exact ih (haltPump_kept h)
      · exact h
    · exact h

theorem becomeRunning_kept {i : PumpId} (h : Kept e a p) : Kept e a (becomeRunning e i p) := putPump_kept h

theorem faultAtGrant_kept {i : PumpId} (h : Kept e a p) : Kept e a (faultAtGrant e i p) := raiseCause_kept (putPump_kept h)

/-! ### Lighting -/

theorem lampPass_kept (h : Kept e a p) : Kept e a (lampPass e p) := by
  simp only [lampPass]
  exact foldl_kept (fun _ _ => putZone_kept) _ h

theorem measureDeficit_kept {z : ZoneId} {n : Nat} (h : Kept e a p) : Kept e a (measureDeficit e z n p) := by
  simp only [measureDeficit]; split
  · split
    · exact lampPass_kept (raiseCause_kept (putZone_kept h))
    · exact lampPass_kept (putZone_kept h)
  · exact h

theorem stepRamp_kept {z : ZoneId} (h : Kept e a p) : Kept e a (stepRamp e z p) := by
  simp only [stepRamp]; split
  · exact putZone_kept h
  · exact h

/-! ### Portals -/

theorem letGo_kept {i : PortalId} (h : Kept e a p) : Kept e a (letGo e i p) := putPortal_kept (unqueuePortal_kept h)

theorem driveOrQueue_kept {i : PortalId} (h : Kept e a p) : Kept e a (driveOrQueue e i p) := by
  simp only [driveOrQueue]; split
  · exact putPortal_kept h
  · exact joinQueue_kept h

theorem enterIdle_kept {i : PortalId} {st : Seq} (h : Kept e a p) : Kept e a (enterIdle e i st p) := putPortal_kept (letGo_kept h)

theorem toOpen_kept {i : PortalId} (h : Kept e a p) : Kept e a (toOpen e i p) := putPortal_kept (enterIdle_kept h)

theorem toSealed_kept {i : PortalId} (h : Kept e a p) : Kept e a (toSealed e i p) := putPortal_kept (enterIdle_kept h)

theorem toWarning_kept {i : PortalId} (h : Kept e a p) : Kept e a (toWarning e i p) := putPortal_kept (enterIdle_kept h)

theorem toClearing_kept {i : PortalId} (h : Kept e a p) : Kept e a (toClearing e i p) := putPortal_kept (enterIdle_kept h)

theorem enterStep_kept {i : PortalId} {st : Seq} {t : Timer} (h : Kept e a p) : Kept e a (enterStep e i st t p) :=
  putPortal_kept h

theorem toBarring_kept {i : PortalId} {t : Timer} (h : Kept e a p) : Kept e a (toBarring e i t p) := by
  simp only [toBarring]; split
  · exact toClearing_kept (enterStep_kept h)
  · exact driveOrQueue_kept (enterStep_kept h)

theorem toUnsealingAway_kept {i : PortalId} {t : Timer} (h : Kept e a p) : Kept e a (toUnsealingAway e i t p) :=
  driveOrQueue_kept (enterStep_kept h)

theorem toLifting_kept {i : PortalId} {t : Timer} (h : Kept e a p) : Kept e a (toLifting e i t p) := by
  simp only [toLifting]; split
  · split
    · exact toOpen_kept (enterStep_kept h)
    · exact driveOrQueue_kept (enterStep_kept h)
  · exact toUnsealingAway_kept h

theorem toUnsealing_kept {i : PortalId} {t : Timer} (h : Kept e a p) : Kept e a (toUnsealing e i t p) := by
  simp only [toUnsealing]; split
  · exact toLifting_kept (letGo_kept (enterStep_kept h))
  · exact toUnsealingAway_kept h

theorem toJammed_kept {i : PortalId} {why : JamCause} (h : Kept e a p) : Kept e a (toJammed e i why p) :=
  raiseCause_kept (putPortal_kept (enterIdle_kept h))

theorem obstruct_kept {i : PortalId} (h : Kept e a p) : Kept e a (obstruct e i p) := by
  simp only [obstruct]; split
  · exact putPortal_kept (letGo_kept h)
  · exact toJammed_kept h

theorem guardLost_kept {i : PortalId} (h : Kept e a p) : Kept e a (guardLost e i p) := toBarring_kept (letGo_kept h)

theorem sealOrQueue_kept {i : PortalId} (h : Kept e a p) : Kept e a (sealOrQueue e i p) := by
  simp only [sealOrQueue]; split
  · exact obstruct_kept h
  · exact driveOrQueue_kept h

theorem toSealing_kept {i : PortalId} {t : Timer} (h : Kept e a p) : Kept e a (toSealing e i t p) := by
  simp only [toSealing]; split
  · split
    · exact toSealed_kept (enterStep_kept h)
    · exact sealOrQueue_kept (enterStep_kept h)
  · exact guardLost_kept (enterStep_kept h)

theorem toUnsettled_kept {i : PortalId} (h : Kept e a p) : Kept e a (toUnsettled e i p) := enterIdle_kept h

theorem toHeld_kept {i : PortalId} (h : Kept e a p) : Kept e a (toHeld e i p) := putPortal_kept (letGo_kept h)

theorem toStep_kept {i : PortalId} {st : Seq} {t : Timer} (h : Kept e a p) : Kept e a (toStep e i st t p) := by
  simp only [toStep]; split
  · exact toBarring_kept h
  · exact toSealing_kept h
  · exact toUnsealing_kept h
  · exact toLifting_kept h
  · exact h

theorem leaveHeld_kept {i : PortalId} (h : Kept e a p) : Kept e a (leaveHeld e i p) := by
  simp only [leaveHeld]; split
  · exact putPortal_kept h
  · exact putPortal_kept h
  · exact putPortal_kept h
  · exact toStep_kept (putPortal_kept h)
  · exact h

theorem applyDemand_kept {i : PortalId} (h : Kept e a p) : Kept e a (applyDemand e i p) := by
  simp only [applyDemand]; split
  · split <;>
      first
      | with_reducible exact h
      | with_reducible exact toWarning_kept h
      | with_reducible exact toOpen_kept h
      | with_reducible exact toHeld_kept h
      | with_reducible exact toLifting_kept h
      | with_reducible exact toUnsealing_kept h
      | with_reducible exact toSealing_kept h
      | with_reducible exact toBarring_kept h
      | with_reducible exact leaveHeld_kept h
      | (split <;> first | with_reducible exact toSealing_kept h | with_reducible exact h)
  · exact h

theorem portalDemands_kept {i : PortalId} (h : Kept e a p) : Kept e a (portalDemands e i p) :=
  applyDemand_kept (applyDemand_kept (applyDemand_kept (applyDemand_kept (applyDemand_kept h))))

theorem sequencers_kept (h : Kept e a p) : Kept e a (sequencers e p) := portalDemands_kept (portalDemands_kept h)

theorem settlePortal_kept {i : PortalId} (h : Kept e a p) : Kept e a (settlePortal e i p) := by
  simp only [settlePortal]; split
  · exact putPortal_kept h
  · split
    · exact leaveHeld_kept h
    · exact putPortal_kept h

theorem endHand_kept {i : PortalId} {why : HandResult} (h : Kept e a p) : Kept e a (endHand e i why p) :=
  putPortal_kept (letGo_kept h)

theorem stopHand_kept {i : PortalId} (h : Kept e a p) : Kept e a (stopHand e i p) := by
  simp only [stopHand]; split
  · exact h
  · exact endHand_kept h

theorem setHand_kept {i : PortalId} {m : HandMotion} (h : Kept e a p) : Kept e a (setHand e i m p) := by
  simp only [setHand]; split
  · exact endHand_kept h
  · exact driveOrQueue_kept (putPortal_kept h)

theorem onPermit_kept {i : PortalId} (h : Kept e a p) : Kept e a (onPermit e i p) := by
  simp only [onPermit]; split
  · exact driveOrQueue_kept h
  · exact driveOrQueue_kept h
  · split
    · exact sealOrQueue_kept h
    · exact guardLost_kept h
  · split
    · exact driveOrQueue_kept h
    · exact toUnsealingAway_kept h
  · split
    · exact endHand_kept h
    · split
      · exact letGo_kept h
      · exact driveOrQueue_kept h
  · exact letGo_kept h

theorem withdrawPermit_kept {i : PortalId} (h : Kept e a p) : Kept e a (withdrawPermit e i p) := by
  simp only [withdrawPermit]; split
  · exact joinQueue_kept (putPortal_kept h)
  · exact h

theorem completeStep_kept {i : PortalId} (h : Kept e a p) : Kept e a (completeStep e i p) := by
  simp only [completeStep]; split
  · exact toClearing_kept h
  · exact toSealed_kept h
  · exact toLifting_kept (letGo_kept h)
  · exact toOpen_kept h
  · exact h

theorem onLimit_kept {i : PortalId} (h : Kept e a p) : Kept e a (onLimit e i p) := by
  simp only [onLimit]
  repeat' split
  all_goals
    first
    | with_reducible exact endHand_kept h
    | with_reducible exact completeStep_kept h
    | with_reducible exact guardLost_kept h
    | with_reducible exact toUnsealingAway_kept h
    | with_reducible exact h

/-! ### The arbiter, and every block acting on an event -/

theorem ownersAct_kept (h : Kept e a p) : Kept e a (ownersAct e p) := lampPass_kept (sequencers_kept (dutyAll_kept h))

theorem grantPump_kept {i : PumpId} (h : Kept e a p) : Kept e a (grantPump e i p) := by
  have h2 : ∀ {q : Pump}, Kept e a (lampPass e (putPump e i q (noteGrant (.pump i) (dropRequest (.pump i) p)))) :=
    lampPass_kept (putPump_kept (noteGrant_kept (dropRequest_kept h)))
  have h3 : Kept e a
      (if e.pins.thermal.get i then
        faultAtGrant e i (lampPass e (putPump e i
          (((noteGrant (.pump i) (dropRequest (.pump i) p)).pumps.get i).granted e.clock (e.cfg.pumps.get i))
          (noteGrant (.pump i) (dropRequest (.pump i) p))))
       else if e.pins.feedback.get i then
        becomeRunning e i (lampPass e (putPump e i
          (((noteGrant (.pump i) (dropRequest (.pump i) p)).pumps.get i).granted e.clock (e.cfg.pumps.get i))
          (noteGrant (.pump i) (dropRequest (.pump i) p))))
       else
        lampPass e (putPump e i
          (((noteGrant (.pump i) (dropRequest (.pump i) p)).pumps.get i).granted e.clock (e.cfg.pumps.get i))
          (noteGrant (.pump i) (dropRequest (.pump i) p)))) := by
    split
    · exact faultAtGrant_kept h2
    · split
      · exact becomeRunning_kept h2
      · exact h2
  exact h3.same rfl rfl

theorem grantPortal_kept {i : PortalId} (h : Kept e a p) : Kept e a (grantPortal e i p) :=
  onPermit_kept (lampPass_kept (putPortal_kept (noteGrant_kept (unqueuePortal_kept h))))

theorem grantRequest_kept {r : Request} (h : Kept e a p) : Kept e a (grantRequest e r p) := by
  simp only [grantRequest]; split
  · exact grantPump_kept h
  · exact grantPortal_kept h
  · exact dropRequest_kept h

theorem grantPass_kept (n : Nat) : ∀ {p : Plant}, Kept e a p → Kept e a (grantPass e n p) := by
  induction n with
  | zero => exact id
  | succ n ih =>
    intro p h
    simp only [grantPass]; split
    · exact h
    · split
      · exact ih (ownersAct_kept (grantRequest_kept h))
      · exact h

theorem settlePlant_kept (h : Kept e a p) : Kept e a (settlePlant e p) :=
  refreshConditions_kept (grantPass_kept _ (ownersAct_kept (outfallStops_kept _ (immediateStops_kept h))))

theorem dropPumps_kept (h : Kept e a p) : Kept e a (dropPumps e p) := by
  refine foldl_kept (fun q i hq => ?_) _ h
  split
  · exact haltPump_kept hq
  · exact hq

theorem withdrawPermits_kept {l : List PortalId} (h : Kept e a p) : Kept e a (withdrawPermits e l p) :=
  foldl_kept (fun _ _ => withdrawPermit_kept) _ h

theorem dropPermits_kept (h : Kept e a p) : Kept e a (dropPermits e p) := withdrawPermits_kept h

theorem dropZones_kept (h : Kept e a p) : Kept e a (dropZones e p) := foldl_kept (fun _ _ => putZone_kept) _ h

theorem setSupply_kept {v : Supply} (h : Kept e a p) : Kept e a (setSupply e v p) :=
  refreshConditions_kept (report_kept (h.same rfl rfl))

theorem changeSupply_kept {v : Supply} (h : Kept e a p) : Kept e a (changeSupply e v p) :=
  settlePlant_kept (dropZones_kept (dropPermits_kept (dropPumps_kept (setSupply_kept h))))

@[simp] theorem withdrawPermits_nil : withdrawPermits e [] p = p := rfl

@[simp] theorem withdrawPermits_cons (i : PortalId) (l : List PortalId) :
    withdrawPermits e (i :: l) p = withdrawPermits e l (withdrawPermit e i p) := rfl

/-- Room-making takes the most recent permits: a last part of the holders in the order of their grants (R104). -/
theorem permitsForRoom_suffix (l : List PortalId) : permitsForRoom e p l <:+ l := by
  induction l with
  | nil => exact List.suffix_refl _
  | cons i l ih =>
    simp only [permitsForRoom]; split
    · exact List.suffix_refl _
    · exact ih.trans (List.suffix_cons i l)

/-- Where the withdrawal of all of them makes room, so does that of those taken (R104). -/
theorem permitsForRoom_makes_room {l : List PortalId} (h : overfull e (withdrawPermits e l p) = false) :
    overfull e (withdrawPermits e (permitsForRoom e p l) p) = false := by
  induction l with
  | nil => exact h
  | cons i l ih =>
    simp only [permitsForRoom]; split
    · exact h
    · next hl => exact ih (by simpa using hl)

theorem makeRoom_kept (n : Nat) : ∀ {p : Plant}, Kept e a p → Kept e a (makeRoom e n p) := by
  induction n with
  | zero => exact id
  | succ n ih =>
    intro p h
    simp only [makeRoom]
    repeat' split
    all_goals first | with_reducible exact ih (haltPump_kept h) | exact withdrawPermits_kept h | exact h

theorem starve_kept {u : UnitId} (h : Kept e a p) : Kept e a (starve e u p) := by
  simp only [starve]; split
  · exact raiseCause_kept (putPump_kept h)
  · exact raiseCause_kept (putPortal_kept h)
  · exact h

theorem endSpacing_kept (h : Kept e a p) : Kept e a (endSpacing e p) := settlePlant_kept (h.same rfl rfl)

theorem checkTransfer_kept (h : Kept e a p) : Kept e a (checkTransfer e p) := by
  simp only [checkTransfer]; split
  · exact changeSupply_kept h
  · exact h

theorem checkSpacing_kept (h : Kept e a p) : Kept e a (checkSpacing e p) := by
  simp only [checkSpacing]; split
  · exact endSpacing_kept h
  · exact h

theorem checkWaits_kept (h : Kept e a p) : Kept e a (checkWaits e p) := foldl_kept (fun _ _ => starve_kept) _ h

/-! ### Unit requests -/

theorem pumpOut_kept {i : PumpId} (h : Kept e a p) : Kept e a (pumpOut e i p) := by
  simp only [pumpOut]
  refine putPump_kept ?_
  split <;> first | with_reducible exact haltPump_kept h | exact unqueuePump_kept h | exact putPump_kept h | exact h

theorem pumpInHand_kept {i : PumpId} (h : Kept e a p) : Kept e a (pumpInHand e i p) := by
  simp only [pumpInHand]
  refine putPump_kept ?_
  split
  · exact unqueuePump_kept h
  · exact h

theorem pumpInService_kept {i : PumpId} (h : Kept e a p) : Kept e a (pumpInService e i p) := by
  simp only [pumpInService]; split
  · exact unqueuePump_kept h
  · exact h

theorem portalOut_kept {i : PortalId} (h : Kept e a p) : Kept e a (portalOut e i p) :=
  putPortal_kept (enterIdle_kept (stopHand_kept h))

theorem portalInHand_kept {i : PortalId} (h : Kept e a p) : Kept e a (portalInHand e i p) := by
  simp only [portalInHand]
  refine putPortal_kept ?_
  split
  · exact letGo_kept h
  · exact h

theorem portalInService_kept {i : PortalId} (h : Kept e a p) : Kept e a (portalInService e i p) :=
  settlePortal_kept (letGo_kept (stopHand_kept h))

theorem zoneOut_kept {z : ZoneId} (h : Kept e a p) : Kept e a (zoneOut e z p) := putZone_kept h

theorem zoneInHand_kept {z : ZoneId} (h : Kept e a p) : Kept e a (zoneInHand e z p) := putZone_kept h

theorem enterService_kept {u : UnitId} {v : Service} (h : Kept e a p) : Kept e a (enterService e u v p) := by
  simp only [enterService]; split
  · exact pumpOut_kept h
  · exact pumpInHand_kept h
  · exact pumpInService_kept h
  · exact portalOut_kept h
  · exact portalInHand_kept h
  · exact portalInService_kept h
  · exact zoneOut_kept h
  · exact zoneInHand_kept h
  · exact h
  · exact h

theorem applyDrive_kept {d : Drive} (h : Kept e a p) : Kept e a (applyDrive e d p) := by
  cases d with
  | pump i on => exact putPump_kept h
  | motion i m => exact setHand_kept h
  | gateStop i => simp only [applyDrive]; split <;> first | with_reducible exact endHand_kept h | exact h
  | barrierStop i => simp only [applyDrive]; split <;> first | with_reducible exact endHand_kept h | exact h
  | signal i c => exact putPortal_kept h
  | level z n => exact putZone_kept h

theorem resetPump_kept {i : PumpId} (h : Kept e a p) : Kept e a (resetPump e i p) := putPump_kept h

theorem resetLocked_kept {i : PortalId} {st : Seq} (h : Kept e a p) : Kept e a (resetLocked e i st p) := putPortal_kept h

theorem resetPortal_kept {i : PortalId} (h : Kept e a p) : Kept e a (resetPortal e i p) := by
  have h1 : Kept e a (if (p.portals.get i).seq = .hand then stopHand e i p else p) := by
    split
    · exact stopHand_kept h
    · exact h
  simp only [resetPortal]; split
  · split
    · exact resetLocked_kept h
    · exact toStep_kept (putPortal_kept h1)
  · exact putPortal_kept h1

/-! ### Events -/

theorem onFeedback_kept {i : PumpId} {v : Bool} (h : Kept e a p) : Kept e a (onFeedback e i v p) := by
  simp only [onFeedback]; split <;> first | with_reducible exact putPump_kept h | exact becomeRunning_kept h | exact h

theorem markOverdue_kept {i : PortalId} (h : Kept e a p) : Kept e a (markOverdue e i p) := raiseCause_kept (putPortal_kept h)

theorem onEdge_kept {i : PortalId} (h : Kept e a p) : Kept e a (onEdge e i p) := by
  simp only [onEdge]
  repeat' split
  all_goals first | with_reducible exact obstruct_kept h | exact endHand_kept h | exact h

theorem retrySealing_kept {i : PortalId} (h : Kept e a p) : Kept e a (retrySealing e i p) := by
  simp only [retrySealing]; split
  · exact toSealed_kept (putPortal_kept h)
  · exact joinQueue_kept (putPortal_kept h)

theorem reportSection_kept {u : SumpId} {old new : Section} {c : Bool} (h : Kept e a p) :
    Kept e a (reportSection e u old new c p) := by
  have h1 : Kept e a (if old.mode = new.mode ∧ old.stage = new.stage then p else report e (.sump u) none p) := by
    split
    · exact h
    · exact report_kept h
  have h2 {q : Plant} (hq : Kept e a q) : Kept e a (if c then report e .plant none q else q) := by
    split
    · exact report_kept hq
    · exact hq
  have h3 {q : Plant} (k : Cause) (b : Prop) [Decidable b] (hq : Kept e a q) :
      Kept e a (if b then raiseCause e k q else q) := by
    split
    · exact raiseCause_kept hq
    · exact hq
  exact h3 _ _ (h3 _ _ (h2 h1))

end Kept

/-! ### The resolution of governance writes unit records, and changes the Attention Unit's record in the same three ways -/

theorem onLock_kept {e : Env} {a p : Plant} {u : UnitId} (h : Kept e a p) : Kept e a (onLock e u p) := by
  simp only [onLock]
  repeat' split
  all_goals
    first
    | with_reducible exact h
    | with_reducible exact putPump_kept h
    | with_reducible exact putPortal_kept (stopHand_kept h)
    | with_reducible exact toHeld_kept h
    | with_reducible exact putZone_kept h

theorem onUnlock_kept {e : Env} {a p : Plant} {u : UnitId} (h : Kept e a p) : Kept e a (onUnlock e u p) := by
  simp only [onUnlock]
  repeat' split
  all_goals first | with_reducible exact settlePortal_kept h | exact h

theorem syncUnit_attn {e : Env} {u : UnitId} {p : Plant} : AttnReach e p.attn (syncUnit e u p).attn := by
  have hr : AttnReach e p.attn
      (report e (.unit u) none { p with units := p.units.set u (unitRecOf e.cfg e.table u) }).attn :=
    .single (.report _ (by intro _ h; cases h) _)
  simp only [syncUnit]
  repeat' split
  · exact .refl
  · exact hr.trans (onLock_kept Kept.refl).attn
  · exact hr.trans (onUnlock_kept Kept.refl).attn
  · exact hr

/-- A unit's record after it is synchronised is the one that the table and the service state give (R10, R33). -/
theorem syncUnit_units {e : Env} {u : UnitId} {p : Plant} :
    (syncUnit e u p).units = p.units.set u (unitRecOf e.cfg e.table u) ∨
      ((syncUnit e u p).units = p.units ∧ p.units.get u = unitRecOf e.cfg e.table u) := by
  simp only [syncUnit]
  split
  · rename_i h; exact .inr ⟨rfl, h⟩
  · left
    repeat' split
    · exact (onLock_kept (e := e) Kept.refl).units
    · exact (onUnlock_kept (e := e) Kept.refl).units
    · rfl

end Sys2Proof.Machine
end

