-- ==== Sys2Proof/Laws/Orders.lean ====
section
/-! SUPPORT. What the operations on the order table can do (R5, R6, R9, R21). -/

namespace Sys2Proof.Machine

/-! ### The resolution of governance rewrites governance fields and nothing else (R9) -/

section Resolve
variable (c : WorkConfig) (us : List UnitId) (table : List Order)

/-- A field that the governance field is not part of is kept in every record. -/
theorem resolveTable_map {α : Type} (f : Order → α) (hf : ∀ (o : Order) g, f { o with governance := g } = f o) :
    (resolveTable c us table).map f = table.map f := by
  simp only [resolveTable, List.map_map]
  refine List.map_congr_left fun o _ => ?_
  simp only [Function.comp]
  split
  · exact hf _ _
  · rfl

@[simp] theorem resolveTable_numbers : (resolveTable c us table).map Order.number = table.map Order.number :=
  resolveTable_map c us table _ fun _ _ => rfl

@[simp] theorem resolveTable_units : (resolveTable c us table).map Order.unit = table.map Order.unit :=
  resolveTable_map c us table _ fun _ _ => rfl

@[simp] theorem resolveTable_length : (resolveTable c us table).length = table.length := by simp [resolveTable]

/-- A record after the resolution is a record of before with some governance. -/
theorem mem_resolveTable {o : Order} (h : o ∈ resolveTable c us table) :
    ∃ o' ∈ table, o = { o' with governance := o.governance } := by
  obtain ⟨o', ho', rfl⟩ := List.mem_map.mp h
  refine ⟨o', ho', ?_⟩
  split <;> rfl

end Resolve

/-! ### Numbers (R6) -/

/-- The number after a number of 1 .. 65535 is one too (R6). -/
theorem nextNumber_range {n : Nat} (h : 1 ≤ n ∧ n ≤ 65535) : 1 ≤ nextNumber n ∧ nextNumber n ≤ 65535 := by
  simp only [nextNumber]; split <;> omega

/-- The search stays within 1 .. 65535 (R6). -/
theorem freeNumber_range (table : List Order) (k : Nat) :
    ∀ {n : Nat}, 1 ≤ n ∧ n ≤ 65535 → 1 ≤ freeNumber table k n ∧ freeNumber table k n ≤ 65535 := by
  induction k with
  | zero => exact id
  | succ k ih =>
    intro n h
    simp only [freeNumber]; split
    · exact ih (nextNumber_range h)
    · exact h

/-! ### Removals (R21) -/

/-- The orders that stay keep their order and their records. -/
theorem removeOrders_table (gone : Order → Bool) (why : Reason) (s : State) :
    (removeOrders gone why s).env.table = s.env.table.filter (fun o => !gone o) := rfl

/-- A removal touches the unit records no more than a report does. -/
theorem removeOrders_units (gone : Order → Bool) (why : Reason) (s : State) :
    (removeOrders gone why s).plant.units = s.plant.units := by
  simp only [removeOrders]
  generalize s.env.table.filter gone = l
  generalize s.plant = p
  induction l generalizing p with
  | nil => rfl
  | cons o l ih => exact (ih _).trans rfl

end Sys2Proof.Machine
end

