-- ==== Sys2Proof/Laws/Sections.lean ====
section
/-! SUPPORT. What an evaluation of the stage can do (R61 to R64), and what a section's hand-on touches (R65, R66). -/

namespace Sys2Proof.Machine

/-- An evaluation either raises the stage at once (R63), or lets the hold run below it (R64), or stops the hold; it touches nothing
but the stage, the hold, the candidate and the conflict condition. -/
theorem evaluate_cases (now : Nat) (st : Staging) (m : Section) :
    (m.stage < stageRaw st m ∧
      evaluate now st m =
        { m with conflict := conflictHolds st m, stage := stageRaw st m, hold := .stopped, candidate := none }) ∨
    (¬ m.stage < stageRaw st m ∧ ∃ d, stageDown st m = some d ∧ d < m.stage ∧
      evaluate now st m =
        { m with
          conflict := conflictHolds st m
          hold := if m.hold = .stopped then .since now else m.hold
          candidate := some d }) ∨
    (¬ m.stage < stageRaw st m ∧ (∀ d, stageDown st m = some d → m.stage ≤ d) ∧
      evaluate now st m = { m with conflict := conflictHolds st m, hold := .stopped, candidate := none }) := by
  by_cases h : m.stage < stageRaw st m
  · left; exact ⟨h, by simp [evaluate, h]⟩
  · right
    cases hd : stageDown st m with
    | none => right; exact ⟨h, by simp, by simp [evaluate, h, hd]⟩
    | some d =>
      by_cases hlt : d < m.stage
      · left; exact ⟨h, d, rfl, hlt, by simp [evaluate, h, hd, hlt]⟩
      · right
        refine ⟨h, ?_, by simp [evaluate, h, hd, hlt]⟩
        intro d' he
        cases he
        omega

/-- The stage by the floats alone (R62) is at most 4 when the least value is. -/
theorem stageByFloats_le {least : Nat} (h : least ≤ 4) (m : Section) : stageByFloats least m ≤ 4 := by
  simp only [stageByFloats]
  repeat' split
  all_goals omega

/-- A stage of R61 is at most 4. -/
theorem stageBy_le (st : Staging) (high extreme : Bool) (f : Nat) (r : Option Int) (m : Option Nat) :
    stageBy st high extreme f r m ≤ 4 := by
  simp only [stageBy]
  repeat' split
  all_goals omega

/-- s_raw is at most 4 (R61, R62). -/
theorem stageRaw_le (st : Staging) (m : Section) : stageRaw st m ≤ 4 := by
  simp only [stageRaw]
  split <;> first | exact stageByFloats_le (by omega) m | exact stageBy_le ..

/-- A section's hand-on writes the section, the underpass stage and, at a rise, what stand-down writes; the links, the store and the
queue stand (R23, R65, R66). -/
theorem takeSection_frame (u : SumpId) (m : Section) (s : State) :
    (takeSection u m s).pending = s.pending ∧ (takeSection u m s).links = s.links ∧ (takeSection u m s).store = s.store ∧
      (takeSection u m s).env.cfg = s.env.cfg ∧ (takeSection u m s).env.sumps = s.env.sumps.set u m ∧
      (takeSection u m s).env.underpass = underpassOf (s.env.sumps.set u m) := by
  simp only [takeSection]
  split <;> exact ⟨rfl, rfl, rfl, rfl, rfl, rfl⟩

end Sys2Proof.Machine
end

