-- ==== Sys2Proof/Tests/Slice0.lean ====
section
/-! SUPPORT. The model's own tests: the checks of WellFormed against ill-formed terms, single steps whose results are worked by hand
from the spec (its worked cases where they exist), and for every obligation with hypotheses a state and operands that meet them. -/

set_option Elab.async false

namespace Sys2Proof.Tests

open Sys2Proof Sys2Proof.Machine

/-! ### Well-formedness: each check refuses an ill-formed term -/

theorem test_wf_body_of_200_fits : (Instr.place .field 1 (List.replicate 200 0)).wellFormed = true := by decide +kernel
theorem test_wf_body_of_201_refused : (Instr.place .field 1 (List.replicate 201 0)).wellFormed = false := by decide +kernel
theorem test_wf_unlisted_kind : (Instr.unknownKind .field 0x07 1 []).wellFormed = true := by decide +kernel
theorem test_wf_listed_kind_refused : (Instr.unknownKind .field 0x06 1 []).wellFormed = false := by decide +kernel
theorem test_wf_reply_kind_refused : (Instr.unknownKind .field 0x80 1 []).wellFormed = false := by decide +kernel
theorem test_wf_short_frame_refused : (Instr.frameDiscarded .panel [0x5A, 0, 1, 2, 1, 9, 9]).wellFormed = false := by decide +kernel
theorem test_wf_whole_frame : (Instr.frameDiscarded .panel [0x5A, 0, 1, 2, 1, 9, 9, 9]).wellFormed = true := by decide +kernel
theorem test_wf_order_number : (Instr.orderExpiry 0).wellFormed = false ∧ (Instr.orderExpiry 65536).wellFormed = false ∧
    (Instr.orderExpiry 65535).wellFormed = true := by decide +kernel
theorem test_wf_sump_count : (Instr.sumpSample .c 4095 0).wellFormed = true ∧ (Instr.sumpSample .c 4096 0).wellFormed = false ∧
    (Instr.sumpSample .c 0 4096).wellFormed = false := by decide +kernel
theorem test_wf_lamp_counts : (Instr.luminanceSample .east 4096).wellFormed = false ∧
    (Instr.deficitMeasurement .z1 4096).wellFormed = false := by decide +kernel
theorem test_wf_waiting_unit : (Instr.waitLimitReached (.zone .z1)).wellFormed = false ∧
    (Instr.waitLimitReached .outfall).wellFormed = false ∧ (Instr.waitLimitReached (.pump .p8)).wellFormed = true := by decide +kernel
theorem test_wf_panel_parity : (Instr.faultyFrameByte .panel .parity).wellFormed = false ∧
    (Instr.faultyFrameByte .field .parity).wellFormed = true := by decide +kernel

/-! ### States for the tests -/

/-- The factory defaults with every unit IN_SERVICE. -/
def served : WorkConfig := { factoryDefaults with pumpService := .all .inService, portalService := .all .inService }

/-- The same with every pump, portal and zone IN_HAND. -/
def handed : WorkConfig :=
  { factoryDefaults with pumpService := .all .inHand, portalService := .all .inHand, zoneService := .all .inHand }

/-- Both portals stand open. -/
def openPins : Inputs := { idlePins with portals := .all ⟨true, false, true, false, false⟩ }

/-- Everything IN_SERVICE, both portals OPEN, on GRID (start-up). -/
def ready : State := bootState openPins ⟨0, .succeeded⟩ { State.reset.store with image := some served } [] (.all [])

/-- Everything IN_HAND. -/
def inHand : State := bootState openPins ⟨0, .succeeded⟩ { State.reset.store with image := some handed } [] (.all [])

/-- The state that a command leaves. -/
def after (c : Instr) (s : State) : State :=
  match exec c s with
  | .next t => t
  | .fault _ => s
  | .refused _ => s

/-- What waits in a port's slot: the outcome and the payload. -/
def answer (l : Link) (s : State) : Option (Code × List Byte) :=
  match (s.port l).slot with
  | .waiting r => some (r.code, r.payload)
  | .deferred r _ => some (r.code, r.payload)
  | .empty => none
  | .sending _ => none

/-- A state when its clock shows this many ms. -/
def later (ms : Nat) (s : State) : State := { s with env := { s.env with clock := ms } }

/-- A state with another order table, governance and units resolved. -/
def withTable (l : List Order) (s : State) : State :=
  let e := { s.env with table := resolveTable s.env.cfg UnitId.every l }
  { s with env := e, plant := { s.plant with units := bootUnits e } }

/-- An order as it joins. -/
def ord (n : Nat) (i : Issuer) (h : Nat) (u : UnitId) (r : Rank) (v : Verb) (a y x : Option Nat) : Order :=
  { number := n, issuer := i, holder := h, unit := u, rank := r, verb := v, arg := a, yieldStage := y, expiresAt := x, revision := 0
    governance := .outranked }

/-- The five orders of 1.11 after t = 40 s. -/
def afternoon : List Order :=
  [ord 41 .panel 3 (.pump .p6) .lockout .lock none none none,
   ord 42 .field 0 (.portal .pe) .standing .open none none (some 3610000),
   ord 43 .panel 2 (.zone .z3) .overriding .level (some 60) none none,
   ord 44 .field 0 (.pump .p2) .standing .run none (some 2) none,
   ord 45 .field 0 (.zone .z3) .standing .level (some 80) (some 4) none]

/-- The table of 1.11 after t = 40 s, the counter at 46. -/
def ordered : State :=
  withTable afternoon { ready with env := { ready.env with clock := 40000, counter := 46 } }

/-- Thirty orders of the panel. -/
def full : State :=
  withTable ((List.range 30).map (fun k => ord (100 + k) .panel (1 + k) (.zone .z1) .standing .level (some k) (some 4) none)) ready

/-- A state with one pump replaced. -/
def setPump (i : PumpId) (q : Pump) (s : State) : State := { s with plant := { s.plant with pumps := s.plant.pumps.set i q } }

/-- A state with one portal replaced. -/
def setPortal (i : PortalId) (q : Portal) (s : State) : State :=
  { s with plant := { s.plant with portals := s.plant.portals.set i q } }

/-- A state with one zone replaced. -/
def setZone (z : ZoneId) (q : Zone) (s : State) : State := { s with plant := { s.plant with zones := s.plant.zones.set z q } }

/-- A state with one section replaced. -/
def setSection (u : SumpId) (m : Section) (s : State) : State := { s with env := { s.env with sumps := s.env.sumps.set u m } }

/-- P1 runs (granted at 0), with its dry-run and feedback counts running. -/
def running : State :=
  let q := { freshPump with run := .running, starts := [0], surge := .since 0, minRun := .since 0, dryTimer := .since 0, lostTimer := .since 0 }
  let s := setPump .p1 q ready
  { s with plant := { s.plant with arb := { s.plant.arb with spacing := .since 0, grantOrder := [.pump .p1] } } }

/-- P1 is STARTING. -/
def starting : State := setPump .p1 { running.plant.pumps.p1 with run := .starting, confirm := .since 0, lostTimer := .stopped } running

/-- P1 rests. -/
def resting : State := setPump .p1 { freshPump with run := .resting, minRest := .since 0, restLength := 60, starts := [0] } ready

/-- P1 is FAULTED. -/
def faulted : State := setPump .p1 { freshPump with run := .faulted, fault := some .thermal } ready

/-- P1 waits in the start queue. -/
def queued : State :=
  let s := setPump .p1 { freshPump with run := .queued } ready
  { s with plant := { s.plant with arb := { s.plant.arb with queue := [⟨.pump .p1, 0, .since 0⟩], spacing := .since 0 } } }

/-- Sump C is at stage 3, and the underpass with it. -/
def flooded : State :=
  setSection .c { freshSection 32 with stage := 3, high := ⟨true, .stopped⟩ } { ready with env := { ready.env with underpass := 3 } }

/-- PE in a state of its sequence at stage 3, since 0, with or without a permit, under the pins given. -/
def portalAt (seq : Seq) (permit : Bool) (v : PortalPins) : State :=
  let s := setPortal .pe
    { freshPortal seq with
      permit := permit, signal := seq.aspect.getD .red, warn := if seq = .warning then .since 0 else .stopped
      travel := if permit then .since 0 else .stopped, limit := if seq = .clearing then .since 0 else .stopped } flooded
  { s with
    env := { s.env with pins := { s.env.pins with portals := s.env.pins.portals.set .pe v } }
    plant := { s.plant with arb := { s.plant.arb with grantOrder := if permit then [.portal .pe] else [] } } }

/-- The section of 3.14: DUAL, F = 1700, F10 = 1690, rate count 39, stage 1. -/
def dual : Section :=
  { freshSection 32 with level := some 1700, level10 := some 1690, rateCount := 39, mode := .dual, stage := 1 }

/-- Sump C's section is that of 3.14. -/
def sampled : State := setSection .c dual { ready with env := { ready.env with underpass := 1 } }

/-- An image write is in progress. -/
def saving : State := { ready with store := { ready.store with inProgress := some (.image served) } }

/-- The reply slot of a port set. -/
def withSlot (l : Link) (x : Slot) (s : State) : State := putPort l { s.port l with slot := x } s

/-! ### Orders: the worked sequence of 1.11 -/

theorem test_start_up_is_ready : ready.plant.portals.pe.seq = .open ∧ ready.plant.pumps.p1.run = .stopped ∧
    ready.plant.attn.relayOn = true := by decide +kernel
/-- Event 4 of 1.11: number 45 is OUTRANKED by number 43; 42, 43 and 44 govern. -/
theorem test_governance_of_the_afternoon : ordered.env.table.map (fun o => (o.number, o.governance)) =
    [(41, .governing), (42, .governing), (43, .governing), (44, .governing), (45, .outranked)] := by decide +kernel
theorem test_place_takes_the_counter : answer .field (after (.place .field 9 [1, 3, 1, 0xFF, 4, 0, 60, 0]) ordered) =
    some (.done, [0, 46, 1]) := by decide +kernel
theorem test_place_replaces_its_own : (after (.place .field 9 [2, 3, 2, 0xFF, 2, 0, 0, 0]) ordered).env.table.map Order.number =
    [41, 42, 43, 45, 46] := by decide +kernel
/-- The event at t = 160 of 1.11: the lockout opens the contactor, and the reply waits for the store. -/
theorem test_place_lockout_stops_the_pump :
    let t := after (.place .panel 9 [1, 1, 8, 0xFF, 0, 0, 0, 3]) running
    t.plant.locked (.pump .p1) = true ∧ t.plant.pumps.p1.live = false ∧
      t.store.inProgress = some (.locks [⟨1, 3, .pump .p1⟩]) ∧ (t.port .panel).slot = .deferred ⟨0x01, 9, .done, [0, 1, 1]⟩ [0, 1] := by
  decide +kernel
/-- Event 5 of 1.11. -/
theorem test_amend_expiry : answer .field (after (.amend .field 9 [0, 42, 0, 0, 0x10, 2, 88]) ordered) = some (.done, [1]) := by
  decide +kernel
/-- Event 6 of 1.11. -/
theorem test_amend_not_owner : answer .panel (after (.amend .panel 9 [0, 42, 2, 0, 0x10, 2, 88]) ordered) = some (.notOwner, []) := by
  decide +kernel
theorem test_withdraw : (after (.withdraw .field 9 [0, 44, 0]) ordered).env.table.map Order.number = [41, 42, 43, 45] := by
  decide +kernel
/-- The record of order 42 at t = 40 s: 3570 s remain. -/
theorem test_lookup : answer .panel (after (.lookupOrder .panel 9 [0, 42]) ordered) =
    some (.done, [0, 42, 1, 0, 9, 3, 3, 0xFF, 0, 0x0D, 0xF2, 0, 1]) := by decide +kernel
theorem test_list_unit_z3 : (answer .field (after (.listOrders .field 9 [2, 13, 0]) ordered)).map (fun a => a.2.take 5) =
    some [2, 0xFF, 2, 0, 43] := by decide +kernel
theorem test_list_past_the_end : answer .field (after (.listOrders .field 9 [1, 0, 5]) ordered) = some (.done, [5, 0xFF, 0]) := by
  decide +kernel
theorem test_set_authority_stands_down :
    (after (.setAuthority .panel 9 ([1] ++ List.replicate 17 6 ++ [1, 1])) { ordered with env := { ordered.env with underpass := 1 } }).env.table.map
      Order.number = [41, 43, 44, 45] := by decide +kernel
theorem test_order_expiry : (after (.orderExpiry 42) (later 3610000 ordered)).env.table.map Order.number = [41, 43, 44, 45] ∧
    after (.orderExpiry 42) (later 3609999 ordered) = later 3609999 ordered := by decide +kernel
theorem test_key_change_restarts_its_timer : (after (.keySwitchChange .pe true) ordered).env.keys.pe = ⟨false, .since 40000⟩ := by
  decide +kernel
/-- The event at t = 130 of 1.11: the KEY order joins last and outranks order 42. -/
theorem test_key_order_joins :
    let t := after (.keyDebounceExpiry .pe) (later 41000 (after (.keySwitchChange .pe true) ordered))
    t.env.table.map (fun o => (o.number, o.governance)) =
      [(41, .governing), (42, .outranked), (43, .governing), (44, .governing), (45, .outranked), (46, .governing)] ∧
      t.plant.portals.pe.seq = .warning := by decide +kernel
/-- The event at t = 100 of 1.11: sump C rises to stage 2 and stands order 44 down, not 42 and 45. -/
theorem test_stage_rise_stands_down :
    (after (.sumpSample .c 1965 1980) (setSection .c dual ordered)).env.table.map Order.number = [41, 42, 43, 45] := by decide +kernel

/-! ### Units -/

theorem test_read_unit : (answer .field (after (.readUnit .field 9 [2]) ordered)).map (fun a => a.2.take 7) =
    some [2, 1, 1, 0, 0, 44, 3] := by decide +kernel
theorem test_set_service_out : (after (.setService .panel 9 [1, 3]) running).plant.pumps.p1.run = .stopped := by decide +kernel
theorem test_set_service_in_hand : (after (.setService .panel 9 [1, 2]) running).plant.pumps.p1.hand = true ∧
    (after (.setService .panel 9 [1, 2]) running).plant.pumps.p1.run = .running := by decide +kernel
theorem test_hand_pump_starts : (after (.handDrive .panel 9 [1, 1, 0]) inHand).plant.pumps.p1.run = .starting := by decide +kernel
/-- GATE_CLOSE is refused while the barrier is raised (R42). -/
theorem test_hand_gate_close_guarded : answer .panel (after (.handDrive .panel 9 [9, 2, 0]) inHand) = some (.wrongState, []) := by
  decide +kernel
theorem test_unit_config_moves_the_pump :
    let t := after (.setUnitConfig .panel 9 [4, 2, 90, 0, 180, 8, 0, 120, 0, 60, 6, 10]) State.reset
    t.env.cfg.sumps.c.ring = [.p1, .p2, .p3] ∧ t.env.cfg.sumps.e.ring = [.p5, .p6, .p4] ∧ t.env.cfg.pumps.p4.sump = .e := by
  decide +kernel
theorem test_unit_config_needs_out_of_service :
    answer .panel (after (.setUnitConfig .panel 9 [4, 2, 90, 0, 180, 8, 0, 120, 0, 60, 6, 10]) ready) = some (.wrongState, []) := by
  decide +kernel
theorem test_reset_fault_rests : (after (.resetFault .field 9 [1]) faulted).plant.pumps.p1.run = .resting := by decide +kernel

/-! ### Measurement: the worked figures of 3.14 -/

theorem test_scaling : levelOfCount 819 1563 1965 = some 1749 ∧ levelOfCount 819 1563 1980 = some 1772 ∧
    levelOfCount 819 1563 4060 = some 4946 ∧ levelOfCount 819 1563 205 = some 0 ∧ levelOfCount 819 1563 4095 = none ∧
    levelOfCount 819 1563 204 = none ∧ levelOfCount 819 1563 4061 = none := by decide +kernel
theorem test_sample_carried_through :
    let m := (after (.sumpSample .c 1965 1980) sampled).env.sumps.c
    m.level = some 1715 ∧ m.rate = some 150 ∧ m.forecast = some 1 ∧ m.level10 = some 1715 ∧ m.rateCount = 0 ∧ m.stage = 2 ∧
      m.mode = .dual := by decide +kernel
theorem test_sample_corrected :
    let m := (after (.sumpSample .c 1965 2012) (setSection .c { dual with level := some 1715 } sampled)).env.sumps.c
    m.last.map (fun x => (x.levelA, x.levelB)) = some (some 1749, some 1820) ∧ m.mode = .corrected ∧ m.allowance = 31 ∧
      m.level = some 1724 := by decide +kernel
theorem test_eighth_invalid_sample_floats :
    let m := (after (.sumpSample .w 0 4095) (setSection .w { dual with invalidCount := 7 } sampled)).env.sumps.w
    m.mode = .float ∧ m.rate = none ∧ m.stage = 2 ∧ m.level = some 1700 := by decide +kernel
theorem test_reload_of_one_bars :
    let t := after (.sumpSample .c 1965 2012) (setSection .c { dual with allowance := 1 } sampled)
    t.env.sumps.c.mode = .barred ∧ Cause.sensorBarred.isIn t.plant.attn.present = true := by decide +kernel
theorem test_float_contact_restarts : (after (.floatInputChange .w .high false) ordered).env.sumps.w.high = ⟨false, .since 40000⟩ := by
  decide +kernel
/-- The open contact of a NORMALLY_CLOSED float is active (3.14, floats over a failed pair). -/
theorem test_float_raises_the_stage :
    let t := after (.floatDebounceExpiry .w .high) (later 2000 (after (.floatInputChange .w .high false) ready))
    t.env.sumps.w.high.active = true ∧ t.env.sumps.w.stage = 3 ∧ t.env.underpass = 3 := by decide +kernel
theorem test_hold_lowers_the_stage :
    (after (.stageHoldExpiry .c) (later 60000 (setSection .c { dual with stage := 2, hold := .since 0, candidate := some 0 } ready))).env.sumps.c.stage
      = 0 := by decide +kernel
theorem test_read_sump : (answer .field (after (.readSump .field 9 [1]) sampled)).map (fun a => a.2.take 7) =
    some [6, 0xA4, 0x80, 0, 0, 0, 2] := by
  decide +kernel
theorem test_sump_config_reloads :
    (after (.setSumpConfig .panel 9 ([1, 1] ++ [3, 51, 3, 51, 6, 27, 6, 27, 0, 50, 9])) sampled).env.sumps.c.allowance = 9 := by
  decide +kernel
theorem test_restart_section : (after (.restartSection .field 9 [1]) sampled).env.sumps.c.level = none ∧
    (after (.restartSection .field 9 [1]) sampled).env.sumps.c.stage = 1 := by decide +kernel
theorem test_ring_order : (after (.setRingOrder .panel 9 [1, 4, 2, 3, 4, 1]) ready).env.cfg.sumps.c.ring = [.p2, .p3, .p4, .p1] := by
  decide +kernel

/-! ### Pumps: the worked sequence of 4.8 and the events of 4.4 -/

/-- F = 502 sets latch 1; P1 queues and is granted in the same event, its confirm timer, surge window and min run with it. -/
theorem test_first_latch_starts_p1 :
    let t := after (.sumpSample .c 1148 1148) ready
    t.env.sumps.c.level = some 502 ∧ t.plant.duty.c.latches = [true, false, false, false] ∧ t.plant.pumps.p1.run = .starting ∧
      t.plant.pumps.p1.starts = [0] ∧ t.plant.pumps.p2.run = .stopped ∧ t.plant.arb.spacing = .since 0 := by decide +kernel
theorem test_feedback_runs : (after (.runningFeedbackChange .p1 true) starting).plant.pumps.p1.run = .running := by decide +kernel
theorem test_feedback_lost_is_counted :
    (after (.runningFeedbackChange .p1 false)
      { running with env := { running.env with pins := { running.env.pins with feedback := running.env.pins.feedback.set .p1 true } } }).plant.pumps.p1.lostTimer
      = .since 0 := by decide +kernel
theorem test_no_start : (after (.noStart .p1) (later 10000 starting)).plant.pumps.p1.fault = some .noStart := by decide +kernel
theorem test_lost_run : (after (.lostRun .p1) (later 1000 running)).plant.pumps.p1.fault = some .lostRun := by decide +kernel
theorem test_thermal : (after (.thermalTrip .p1 true) running).plant.pumps.p1.run = .faulted ∧
    Cause.pumpFault.isIn (after (.thermalTrip .p1 true) running).plant.attn.present = true := by decide +kernel
theorem test_thermal_at_rest : (after (.thermalTrip .p1 true) resting).plant.pumps.p1.run = .resting := by decide +kernel
theorem test_dry_run_is_timed : (after (.dryRunInputChange .p1 true) running).plant.pumps.p1.dryTimer = .since 0 := by decide +kernel
theorem test_dry_run_stop :
    let q := (after (.dryRunStop .p1) (later 5000 running)).plant.pumps.p1
    q.run = .resting ∧ q.dry = true ∧ q.restLength = 60 := by decide +kernel
theorem test_surge_end : (after (.surgeEnd .p1) (later 8000 running)).plant.pumps.p1.surge = .stopped := by decide +kernel
/-- No latch is set, so P1 stops as soon as its min run is over, and the lead advances. -/
theorem test_min_run_expiry : (after (.minRunExpiry .p1) (later 120000 running)).plant.pumps.p1.run = .resting ∧
    (after (.minRunExpiry .p1) (later 120000 running)).plant.duty.c.lead = 2 := by decide +kernel
theorem test_rest_end : (after (.restEnd .p1) (later 60000 resting)).plant.pumps.p1.run = .stopped := by decide +kernel
theorem test_start_list_entry : (after (.startListEntryExpiry .p1) (later 3600000 resting)).plant.pumps.p1.starts = [] := by decide +kernel

/-! ### Supply and start arbiter -/

theorem test_transfer_drops_the_pump :
    let t := after (.supplyInputChange false false) running
    t.plant.arb.supply = .transfer ∧ t.plant.pumps.p1.run = .stopped ∧ committedLoad t = 0 := by decide +kernel
theorem test_transfer_timeout :
    (after .transferTimeout (later 60000 (after (.supplyInputChange false false) ready))).plant.arb.supply = .dark := by decide +kernel
theorem test_spacing : (after .spacingExpiry (later 10000 running)).plant.arb.spacing = .stopped := by decide +kernel
theorem test_wait_limit :
    let t := after (.waitLimitReached (.pump .p1)) (later 120000 queued)
    t.plant.pumps.p1.starved = true ∧ Cause.startStarved.isIn t.plant.attn.present = true := by decide +kernel
theorem test_supply_config : (after (.setSupplyConfig .panel 9 [3, 32, 1, 144, 0, 60, 10, 0, 120]) ready).env.cfg.supply =
    ⟨800, 400, 60, 10, 120⟩ := by decide +kernel
theorem test_read_plant_length : (answer .field (after (.readPlant .field 9 []) ready)).map (fun a => a.1) = some .done := by
  decide +kernel
/-- The shed reservation of 5.9, with the default zones: 15 + 15 + 6 + 6 + 10. -/
theorem test_shed_reservation : shedReservation served = 52 := by decide +kernel

/-! ### Portals: the worked timeline of 6.11 -/

theorem test_warning_ends_in_barring :
    let t := after (.warningExpiry .pe) (later 30000 (portalAt .warning false ⟨true, false, true, false, false⟩))
    t.plant.portals.pe.seq = .barring ∧ t.plant.portals.pe.signal = .red ∧ t.plant.portals.pe.permit = true := by decide +kernel
theorem test_lowered_limit_enters_clearing :
    (after (.limitSwitchChange .pe .barrierLowered true) (portalAt .barring true ⟨true, false, false, false, false⟩)).plant.portals.pe.seq
      = .clearing := by decide +kernel
theorem test_closed_limit_seals :
    (after (.limitSwitchChange .pe .gateClosed true) (portalAt .sealing true ⟨false, false, false, true, false⟩)).plant.portals.pe.seq
      = .sealed := by decide +kernel
theorem test_travel_jams :
    let t := after (.travelTimerExpiry .pe) (later 120000 (portalAt .sealing true ⟨false, false, false, true, false⟩))
    t.plant.portals.pe.seq = .jammed ∧ t.plant.portals.pe.resume = some .sealing ∧ t.plant.portals.pe.jam = some .travel := by
  decide +kernel
theorem test_clear_confirm_enters_sealing :
    let s := setPortal .pe { freshPortal .clearing with confirm := .since 0 } (portalAt .clearing false ⟨true, false, false, true, false⟩)
    let q := (after (.clearConfirmExpiry .pe) (later 15000 s)).plant.portals.pe
    q.seq = .sealing ∧ q.motor = some .gateClose := by decide +kernel
theorem test_clear_limit :
    let t := after (.clearLimitExpiry .pe) (later 300000 <| portalAt .clearing false ⟨true, false, false, true, false⟩)
    t.plant.portals.pe.overdue = true ∧ Cause.clearOverdue.isIn t.plant.attn.present = true := by decide +kernel
theorem test_loop_stops_the_confirmation :
    let s := setPortal .pe { freshPortal .clearing with confirm := .since 0 } (portalAt .clearing false ⟨true, false, false, true, false⟩)
    (after (.occupancyLoopChange .l3 true) s).plant.portals.pe.confirm = .stopped := by decide +kernel
theorem test_edge_starts_the_retry :
    let t := after (.safetyEdgeChange .pe true) (portalAt .sealing true ⟨false, false, false, true, false⟩)
    t.plant.portals.pe.permit = false ∧ t.plant.portals.pe.retries = 1 ∧ t.plant.portals.pe.retry = .since 0 := by decide +kernel
theorem test_retry_drives_again :
    let v : PortalPins := ⟨false, false, false, true, false⟩
    let s := setPortal .pe { freshPortal .sealing with retry := .since 0, retries := 1, travel := .held 62000 } (portalAt .sealing false v)
    (after (.retryDelayExpiry .pe) (later 5000 s)).plant.portals.pe.motor = some .gateClose := by decide +kernel
/-- A hand motion that is driven, at its travel limit. -/
def handDriven : State :=
  let s := setPortal .pe { freshPortal .hand with motion := .gateClosing, permit := true, travel := .since 0 } inHand
  let v : PortalPins := ⟨false, false, false, true, false⟩
  { s with
    env := { s.env with pins := { s.env.pins with portals := s.env.pins.portals.set .pe v } }
    plant := { s.plant with arb := { s.plant.arb with grantOrder := [.portal .pe] } } }
theorem test_hand_travel :
    let q := (after (.handTravelExpiry .pe) (later 120000 handDriven)).plant.portals.pe
    q.result = some .travel ∧ q.jam = none ∧ q.motion = .none := by decide +kernel

/-! ### Lighting: the worked case of 7.9 -/

/-- Seven east samples of 5001 cd/m2 stand in the window. -/
def daylight : State :=
  { ready with env := { ready.env with windows := ⟨⟨List.replicate 7 5001, .since 0, false⟩, freshWindow⟩ } }
theorem test_grading :
    let t := after (.luminanceSample .east 2560) daylight
    (t.env.windows.east).samples = List.replicate 8 5001 ∧ t.plant.zones.z1.graded = 80 ∧ t.plant.zones.z2.graded = 24 := by
  decide +kernel
theorem test_invalid_luminance : (after (.luminanceSample .east 4093) daylight).env.windows = daylight.env.windows := by decide +kernel
theorem test_luminance_loss :
    let t := after (.luminanceLoss .east) (later 60000 daylight)
    t.plant.zones.z1.graded = 100 ∧ Cause.luminanceLost.isIn t.plant.attn.present = true := by decide +kernel
theorem test_luminance_config_empties_the_window :
    (after (.setLuminanceConfig .panel 9 [0x1F, 0x40, 0x1F, 0x40]) daylight).env.windows.east.samples.length = 7 ∧
      (after (.setLuminanceConfig .panel 9 [0x1F, 0x41, 0x1F, 0x40]) daylight).env.windows.east.samples = [] := by decide +kernel
/-- Z1 has been at 80 % for 5 s. -/
def steady : State := setZone .z1 { freshZone with output := 80, target := 80, comp := 80, allowance := 100, ramp := .up } { ready with env := { ready.env with clock := 5000 } }
theorem test_deficit_of_ten : (after (.deficitMeasurement .z1 2160) steady).plant.zones.z1.deficit = 10 ∧
    (after (.deficitMeasurement .z1 2160) steady).plant.zones.z1.flag = false := by decide +kernel
theorem test_deficit_of_twelve : (after (.deficitMeasurement .z1 2100) steady).plant.zones.z1.deficit = 12 ∧
    Cause.lampDeficit.isIn (after (.deficitMeasurement .z1 2100) steady).plant.attn.present = true := by decide +kernel
/-- Z1 ramps up from 80 toward 89. -/
def ramping : State := setZone .z1 { freshZone with output := 80, comp := 89, allowance := 89, ramp := .up, step := .since 0 } ready
theorem test_ramp_step : (after (.rampStep .z1) (later 200 ramping)).plant.zones.z1.output = 81 ∧
    after (.rampStep .z1) (later 199 ramping) = later 199 ramping := by decide +kernel
/-- R152 at 99 %/s: 99 intervals of 1/99 s end at 1000 ms, not at 99 times 11 ms. -/
theorem test_ramp_loses_no_part_of_an_interval :
    let e := { ready.env with clock := 1000, cfg := { served with zones := served.zones.set .z1 { served.zones.z1 with rampUp := 99 } } }
    let p := fun n => (setZone .z1 { ramping.plant.zones.z1 with steps := n } ramping).plant
    rampDue e (p 98) .z1 = true ∧ rampDue e (p 99) .z1 = false := by decide +kernel

/-! ### Alerts and changed sets -/

/-- PUMP_FAULT (cause 5) is present, raised once. -/
def alerted : State := after (.thermalTrip .p1 true) running
theorem test_read_alerts : answer .field (after (.readAlerts .field 9 []) alerted) = some (.done, [0, 1, 5, 2, 0, 1]) := by decide +kernel
theorem test_ack_alerts : answer .panel (after (.ackAlerts .panel 9 [0, 0x10]) alerted) = some (.done, [0, 0x10, 1, 0, 0]) := by
  decide +kernel
theorem test_alert_masks : (after (.setAlertMasks .panel 9 [0x80, 0x10]) alerted).plant.attn.relayOn = true := by decide +kernel
theorem test_read_changes : (answer .field (after (.readChanges .field 9 []) alerted)).map (fun a => a.2.take 3) = some [0, 2, 2] := by
  decide +kernel
theorem test_clear_changes : answer .field (after (.clearChanges .field 9 [1]) alerted) = some (.done, [1]) := by decide +kernel
theorem test_reporting : (after (.setReporting .field 9 [64, 60, 2]) ready).env.cfg.reporting.field = ⟨64, 60, false⟩ := by decide +kernel
theorem test_moderation : (after (.moderationExpiry .field) (later 5000 alerted)).plant.attn.sets.field.timer = .ranOut := by decide +kernel

/-! ### Links and store -/

/-- The check value of the CRC with polynomial 1021h and starting value FFFFh over the digits 1 to 9. -/
theorem test_crc : crc16 [0x31, 0x32, 0x33, 0x34, 0x35, 0x36, 0x37, 0x38, 0x39] = 0x29B1 := by decide +kernel
/-- The frame that a port sends. -/
def sent (l : Link) (s : State) : List Byte :=
  match (s.port l).slot with
  | .sending f => f
  | .empty => []
  | .waiting _ => []
  | .deferred _ _ => []
/-- 8.9: the reply to LOOKUP ORDER is a frame of 22 bytes, of kind 84h. -/
theorem test_reply_frame :
    let f := sent .field (after (.replyStart .field) (after (.lookupOrder .field 9 [0, 42]) ordered))
    f.length = 22 ∧ f.take 7 = [0x5A, 247, 0x84, 9, 15, 0, 0] := by decide +kernel
theorem test_reply_end : ((after (.replyEnd .field ⟨0, .succeeded⟩) (withSlot .field (.sending [1]) ready)).port .field).slot = .empty := by
  decide +kernel
theorem test_link_config : (after (.setLinkConfig .panel 9 [3]) ready).links.rateInUse = .b38400 := by decide +kernel
theorem test_restart : (after (.restartController .panel 9 []) ready).store.restarting = true := by decide +kernel
theorem test_save : (after (.saveConfig .field 9 []) ready).store.inProgress = some (.image served) := by decide +kernel
theorem test_save_end : (after (.saveEnd .readBackDiffers) saving).store.image = none ∧
    Cause.storeFault.isIn (after (.saveEnd .readBackDiffers) saving).plant.attn.present = true := by decide +kernel
theorem test_lockout_write_end :
    let s := after (.place .panel 9 [1, 1, 8, 0xFF, 0, 0, 0, 3]) ready
    answer .panel (after (.lockoutWriteEnd .notTaken) s) = some (.storeFault, [0, 1]) ∧
      (after (.lockoutWriteEnd .succeeded) s).store.lockArea = some [⟨1, 3, .pump .p1⟩] := by decide +kernel
theorem test_start_up_restores_the_lockout :
    let t := after (.startUp openPins false ⟨12, .succeeded⟩)
      { ready with store := { ready.store with lockArea := some [⟨41, 3, .pump .p6⟩] } }
    t.env.counter = 42 ∧ t.plant.locked (.pump .p6) = true ∧ t.links.address = 12 := by decide +kernel
theorem test_unknown_kind : answer .field (after (.unknownKind .field 0x07 9 []) ready) = some (.unknownKind, []) := by decide +kernel
/-- The field port in the middle of a frame, after so many ms of quiet line. -/
def assembling (quiet : Nat) : State := putPort .field { ready.port .field with rx := .assembling [0x5A, 1] quiet } ready
theorem test_late_lead_byte : ((after (.frameAbandoned .field 0x5A) (assembling 11)).port .field).rx = .assembling [0x5A] 0 ∧
    after (.frameAbandoned .field 0x5A) (assembling 10) = assembling 10 := by decide +kernel
/-- Two bytes of a frame: the lead byte in HUNTING starts it, the next is collected (R159). -/
theorem test_receiver_collects_bytes : hearAll .hunting [0x33, 0x5A, 1] = (.assembling [0x5A, 1] 0, none) := by decide +kernel
theorem test_receiver_refuses_a_long_body : (hearAll .hunting [0x5A, 0, 1, 2, 201]).1 = .hunting := by decide +kernel
/-- R157: 5Ah has four ones, so its even parity bit is 0; its data bits go least significant first. -/
theorem test_character_of_5A : charBits .field 0x5A =
    [false, false, true, false, true, true, false, true, false, false, true] := by decide +kernel
/-- A state in which a character has just ended on a line. -/
def arriving (l : Link) (bits : List Bool) (s : State) : State :=
  { s with links := { s.links with lines := s.links.lines.set l [⟨0, 0, bits⟩] } }
/-- A frame whose last character has just ended is its request: READ PLANT on the panel link. -/
theorem test_last_character_completes_the_request :
    let f := frameOf 0 0x20 9 []
    let s := arriving .panel (charBits .panel (f.getLast?.getD 0)) (putPort .panel { ready.port .panel with rx := .assembling f.dropLast 0 } ready)
    (match step s with
     | .next t => (answer .panel t).map Prod.fst
     | .fault _ => none
     | .refused _ => none) = some .done := by decide +kernel
theorem test_faulty_byte : ((after (.faultyFrameByte .field .framing) (assembling 3)).port .field).rx = .hunting := by decide +kernel
theorem test_discarded_frame :
    ((after (.frameDiscarded .field [0x5A, 1, 1, 9, 0, 0, 0]) (assembling 3)).port .field).rx = .hunting := by decide +kernel
theorem test_no_table_bits : decodeTableWord 8 0 = none := rfl
theorem test_fetch_of_no_command : ready.withFetchWord 8 0 = ready := rfl
theorem test_step_takes_the_front :
    (match step { ready with pending := [.transferTimeout, .spacingExpiry] } with
     | .next t => t.pending
     | .fault _ => []
     | .refused _ => []) = [.spacingExpiry] := by decide +kernel
theorem test_idle_ticks :
    (match step { State.reset with pending := [] } with
     | .next t => t.env.clock
     | .fault _ => 0
     | .refused _ => 0) = 1 := by decide +kernel

/-! ### Witnesses: for every obligation with hypotheses, a state and operands that meet them -/

theorem witness_StepRunsFrontCommand : ({ ready with pending := [.transferTimeout] } : State).pending = .transferTimeout :: [] := rfl
/-- An order whose expiry has come is due; nothing is due right after start-up, when a character may have ended on either line. -/
theorem witness_IdleStepTakesDueEventOrTick :
    (ordered.pending = [] ∧ nextDue (later 3610000 ordered) = some (.orderExpiry 42)) ∧
      State.reset.pending = [] ∧ nextDue State.reset = none ∧
      (let s := arriving .field (charBits .field 0x5A) State.reset
       nextDue s = none ∧ (arrivedChar s .field).isSome = true) ∧
      (let s := arriving .panel (charBits .panel 0x5A) State.reset
       nextDue s = none ∧ arrivedChar s .field = none ∧ (arrivedChar s .panel).isSome = true) ∧
      arrivedChar State.reset .field = none ∧ arrivedChar State.reset .panel = none := by decide +kernel
theorem witness_EveryCommandAnswers :
    let q := State.reset.plant.pumps.get .p1
    let o := State.reset.plant.portals.get .pe
    (q.run ≠ .starting ∧ q.run ≠ .running ∧ q.run ≠ .resting ∧ q.surge = .stopped ∧ q.minRun = .stopped ∧ q.starts = []) ∧
      (o.seq ≠ .warning ∧ o.seq.motionStep = false ∧ o.motion = .none ∧ o.seq ≠ .clearing ∧ o.seq ≠ .sealing) ∧
      (State.reset.port .field).slot = .empty ∧ State.reset.store.inProgress = none ∧
      (∀ x ∈ ordered.env.table, x.number = 43 → x.expiresAt = none) ∧ State.reset.plant.arb.spacing = .stopped ∧
      State.reset.plant.queued (.pump .p1) = false ∧ (State.reset.env.sumps.get .c).hold = .stopped ∧
      ((after (.luminanceLoss .east) (later 60000 daylight)).env.windows.get .east).lost = true ∧
      (State.reset.plant.zones.get .z6).ramp = .none ∧ (State.reset.changes .field).timer = .stopped := by decide +kernel
/-- The same for timers that run and have not run out: one ms before their time. -/
theorem witness_EveryCommandAnswers_early :
    (∀ start, running.plant.pumps.p1.lostTimer = .since start → (later 999 running).env.clock - start < 1000) ∧
      (∀ start, ramping.plant.zones.z1.step = .since start →
        ((later 199 ramping).env.clock - start) * (ramping.env.cfg.zones.get .z1).rampUp < 1000 * (ramping.plant.zones.z1.steps + 1)) :=
  ⟨by rintro _ ⟨⟩; decide, by rintro _ ⟨⟩; decide +kernel⟩
theorem witness_StartUpGivesFreshState : State.reset.pending = [] ∧ State.reset.store = State.reset.store ∧
    State.reset.links.lines = State.reset.links.lines := ⟨rfl, rfl, rfl⟩
theorem witness_PendingReplyDiscardsRequest :
    requestOf (.place .field 1 []) = some (.field, 0x01, 1, []) ∧ requestOf (.unknownKind .panel 0x7F 1 [2]) = some (.panel, 0x7F, 1, [2]) ∧
      ((withSlot .field (.waiting ⟨1, 1, .done, []⟩) ready).port .field).slot = .waiting ⟨1, 1, .done, []⟩ ∧
      ((withSlot .panel (.deferred ⟨1, 1, .done, [0, 7]⟩ [0, 7]) ready).port .panel).slot = .deferred ⟨1, 1, .done, [0, 7]⟩ [0, 7] := by
  decide +kernel
theorem witness_RefusedRequestChangesNothing :
    requestOf (.readPlant .field 9 [1]) = some (.field, 0x20, 9, [1]) ∧ (ready.port .field).slot = .empty ∧
      exec (.readPlant .field 9 [1]) ready = .next (after (.readPlant .field 9 [1]) ready) ∧
      ((after (.readPlant .field 9 [1]) ready).port .field).slot = .waiting ⟨0x20, 9, .badLength, []⟩ ∧
      Code.badLength ≠ .done ∧ Code.badLength ≠ .accepted :=
  ⟨by decide +kernel, by decide +kernel, rfl, by decide +kernel, by decide, by decide⟩
theorem witness_ReservedAndBusyRefusals :
    (ready.port .field).slot = .empty ∧ settingsLengthFits (unitOf 1) 11 = true ∧ settingsLengthFits (unitOf 10) 11 = true ∧
      settingsLengthFits (unitOf 16) 15 = true ∧ (List.replicate 20 (0 : Byte)).length = 20 ∧
      (saving.port .panel).slot = .empty ∧ saving.store.state = .saving ∧ groupLengthFits 1 11 = true ∧ groupLengthFits 2 16 = true ∧
      groupLengthFits 3 2 = true ∧ groupLengthFits 4 16 = true ∧ (saving.port .field).slot = .empty ∧
      (let s := after (.replyEnd .panel ⟨0, .succeeded⟩) (after (.restartController .panel 9 []) ready)
       (s.port .field).slot = .empty ∧ s.store.restarting = true) ∧
      (let s := { ready with store := { ready.store with inProgress := some (.locks []) } }
       (s.port .panel).slot = .empty ∧ s.store.state = .writingLocks) := by decide +kernel
theorem witness_UnsoundFramesChangeOnlyReceiver :
    kindUnlisted 0x7F = true ∧ kindUnlisted 0x00 = true ∧ (ready.port .panel).slot = .empty ∧
      frameSound (stationByte (assembling 3) .field) [0x5A, 1, 1, 9, 0, 0, 0] = false ∧
      ((assembling 11).port .field).rx = .assembling [0x5A, 1] 11 ∧ ((assembling 10).port .field).rx = .assembling [0x5A, 1] 10 ∧
      ((putPort .field ⟨.off, .sending [], false⟩ ready).port .field).rx = .off ∧ (ready.port .field).rx = .hunting ∧
      (let s := arriving .field (charBits .field 0x5A) (assembling 10)
       s.links.lines.get .field = [⟨0, 0, charBits .field 0x5A⟩] ∧ readChar .field (charBits .field 0x5A) = .byte 0x5A) ∧
      readChar .field (charBits .panel 0x5A) = .faulty .framing := by decide +kernel
theorem witness_FrameCheckIsSound : (0x7F : Byte) < 0x80 ∧ (List.replicate 200 (0 : Byte)).length ≤ 200 ∧
    frameSound (stationByte ready .field) [0x5A, 1, 1, 9, 0, 0, 0] = false ∧ (dataBits 0x5A).length = 8 ∧
    (dataBits 0x5A ++ [true]).countP (fun bit => bit) % 2 = 1 := by decide +kernel
theorem witness_ReplyIsSentAndEnds :
    ((withSlot .field (.waiting ⟨1, 1, .done, []⟩) ready).port .field).slot = .waiting ⟨1, 1, .done, []⟩ ∧
      ((withSlot .panel (.sending [1]) ready).port .panel).slot = .sending [1] ∧ ready.store.restarting = false ∧
      (let s := withSlot .panel (.sending [1]) (after (.restartController .panel 9 []) ready)
       (s.port .panel).slot = .sending [1] ∧ s.store.restarting = true) ∧
      (ready.port .panel).slot = .empty ∧ ready.store.state ≠ .saving ∧ ready.store.state = .idle := by decide +kernel
theorem witness_StoreWritesStartAndEnd :
    (ready.port .field).slot = .empty ∧ ready.store.state ≠ .saving ∧ ready.store.restarting = false ∧
      saving.store.inProgress = some (.image served) ∧
      (let s := after (.place .panel 9 [1, 1, 8, 0xFF, 0, 0, 0, 3]) ready
       s.store.inProgress = some (.locks [⟨1, 3, .pump .p1⟩]) ∧ (s.port .panel).slot = .deferred ⟨0x01, 9, .done, [0, 1, 1]⟩ [0, 1]) := by
  decide +kernel
theorem witness_PlantBlocksStayInThePlant : Cause.pumpFault.latched = true ∧ Cause.pumpFault.isIn alerted.plant.attn.present = true ∧
    Cause.startStarved ≠ .pumpFault ∧ Cause.startStarved ≠ .gateJammed := by decide +kernel
/-- Each of the six conditions holds in some state (R174), and STAGE_FLOOD joins with a PLANT entry. -/
theorem witness_PlantBlocksStayInThePlant_conditions :
    let deep := { ready with env := { ready.env with underpass := 4 } }
    deep.env.underpass = 4 ∧ (after (.supplyInputChange false false) ready).plant.arb.supply ≠ .grid ∧ (setSection .c { dual with mode := .single } ready).env.sumps.c.mode = .single ∧
      (∃ o ∈ ordered.env.table, o.rank = .lockout) ∧
      (let dark := { ready with env := { ready.env with windows := { ready.env.windows with east := { ready.env.windows.east with lost := true } } } }
       dark.env.windows.east.lost = true ∧ Cause.luminanceLost.isIn (settle dark).plant.attn.present = true) ∧
      Cause.stageFlood.isIn deep.plant.attn.present = false ∧ Cause.stageFlood.isIn (settle deep).plant.attn.present = true ∧
      ((settle deep).changes .field).entries.any (fun x => x.key == .plant) = true := by decide +kernel
theorem witness_GovernanceIsByRankThenPlace :
    (ordered.env.table.map Order.number).Nodup ∧ serviceOf served (.pump .p1) = .inService ∧
      (∀ o ∈ ordered.env.table, o.unit ≠ .pump .p1) ∧
      unitRecOf served ordered.env.table (.pump .p6) = ⟨true, some 41, .lock⟩ ∧
      unitRecOf served ordered.env.table (.zone .z3) = ⟨false, some 43, .order⟩ := by decide +kernel
/-- One body for each outcome of the checks of PLACE, in their order. -/
theorem witness_PlaceChecksInOrder :
    (ready.port .field).slot = .empty ∧ ([] : List Byte).length ≠ 8 ∧ unitOf 0 = none ∧ unitOf 18 = none ∧
      unitOf 17 = some .outfall ∧ rankOf 0 = none ∧ rankOf 4 = none ∧ verbOf 9 = none ∧ rankOf 1 = some .lockout ∧ verbOf 8 = some .lock ∧
      verbFits .outfall .lockout .lock = false ∧ verbFits (.pump .p1) .standing .run = true ∧ argFits .run (absentOnes 1) = false ∧
      mapAllows served .field (.pump .p1) .lockout = false ∧ effectiveYield served .field (absentZero 1) ≤ sampled.env.relevantStage (.pump .p1) ∧
      serviceOf factoryDefaults (.pump .p1) ≠ .inService ∧
      30 ≤ full.env.table.countP Order.fromLink ∧ full.env.table.any (fun o => o.unit == .pump .p1) = false := by decide +kernel
/-- R12 steps 3 and 4, R170: RUN on PE, LOCKOUT with verb 99 and LOCK with rank 9 mismatch; RUN on P1 with rank 9 is out of range, and so
is a STANDING verb 99. -/
theorem witness_PlaceChecksInOrder_codes :
    rankOf 9 = none ∧ verbOf 99 = none ∧ verbOf 1 = some .run ∧ verbOf 8 = some .lock ∧ verbFits (.portal .pe) .standing .run = false ∧
      verbFits (.pump .p1) .standing .run = true ∧
      (let code := fun (u r v : Byte) => (answer .panel (after (.place .panel 9 [u, r, v, 0xFF, 0, 0, 0, 3]) ready)).map Prod.fst
       code 9 9 1 = some .verbMismatch ∧ code 1 1 99 = some .verbMismatch ∧ code 1 9 8 = some .verbMismatch ∧
         code 1 9 1 = some .badField ∧ code 1 3 99 = some .badField) := by decide +kernel

/-- The afternoon's table is in order. -/
theorem ordered_tableOk : TableOk ordered := by
  refine ⟨?_, ?_, ?_, ?_, ?_, ?_, ?_, ?_, ?_, ?_, ?_, ?_, ?_⟩
  case refine_1 | refine_2 | refine_3 | refine_4 | refine_5 | refine_8 => decide +kernel
  · have h : ∀ o ∈ ordered.env.table, o.issuer ≠ .key := by decide +kernel
    exact fun o ho e => absurd e (h o ho)
  · intro k e
    cases k <;> revert e <;> decide +kernel
  · rintro l ⟨⟩
    exact ⟨by decide, by decide, by simp, by decide⟩
  · rintro x ⟨⟩
  · rintro x ⟨⟩
  · intro u
    cases u with
    | pump i => cases i <;> rfl
    | portal i => cases i <;> rfl
    | zone i => cases i <;> rfl
    | outfall => rfl
  · rintro x ⟨⟩ u
    cases u with
    | pump i => cases i <;> rfl
    | portal i => cases i <;> rfl
    | zone i => cases i <;> rfl
    | outfall => rfl
theorem witness_PlaceAccepted :
    TableOk ordered ∧ (ordered.port .field).slot = .empty ∧ unitOf 2 = some (.pump .p2) ∧ rankOf 3 = some .standing ∧
      verbOf 2 = some .stop ∧ verbFits (.pump .p2) .standing .stop = true ∧ holderFits .field 0 = true ∧ argFits .stop (absentOnes 0xFF) = true ∧
      yieldFits .standing (absentZero 1) = true ∧ expiryFits .standing (absentZero (word 0 1)) = true ∧
      mapAllows ordered.env.cfg .field (.pump .p2) .standing = true ∧
      ordered.env.relevantStage (.pump .p2) < effectiveYield ordered.env.cfg .field (absentZero 1) ∧
      serviceOf ordered.env.cfg (.pump .p2) = .inService ∧
      (ordered.env.table.find? (fun o => o.issuer == .field && o.holder == 0 && o.unit == .pump .p2)).isSome = true ∧
      ordered.env.table.countP Order.fromLink < 30 := ⟨ordered_tableOk, by decide +kernel⟩
/-- The same for a lockout of the panel, whose reply is deferred. -/
theorem witness_PlaceAccepted_lockout :
    TableOk ordered ∧ (ordered.port .panel).slot = .empty ∧ unitOf 3 = some (.pump .p3) ∧ rankOf 1 = some .lockout ∧
      verbOf 8 = some .lock ∧ verbFits (.pump .p3) .lockout .lock = true ∧ holderFits .panel 3 = true ∧
      argFits .lock (absentOnes 0xFF) = true ∧ yieldFits .lockout (absentZero 0) = true ∧ expiryFits .lockout (absentZero (word 0 0)) = true ∧
      mapAllows ordered.env.cfg .panel (.pump .p3) .lockout = true ∧ serviceOf ordered.env.cfg (.pump .p3) = .inService :=
  ⟨ordered_tableOk, by decide +kernel⟩
/-- Order 45 (Z3, STANDING LEVEL 80, yield 4) meets the context of every single-field amendment, and order 41 is another's. -/
theorem witness_AmendFieldByField :
    let o := { ord 45 .field 0 (.zone .z3) .standing .level (some 80) (some 4) none with governance := .outranked }
    (ordered.port .field).slot = .empty ∧ amendValueLength 0 = 0 ∧ amendValueLength 0x1F = 6 ∧
      (∀ x ∈ ordered.env.table, x.number ≠ word 0 99) ∧
      ordered.env.table.find? (fun x => x.number == word 0 45) = some o ∧ o.issuer = issuerOfLink .field ∧ o.holder = (0 : Byte).toNat ∧
      o.revision = 0 ∧ o.revision ≠ 1 ∧ (ordered.env.table.find? (fun x => x.number == word 0 41)).map Order.issuer = some .panel ∧
      verbFits o.unit o.rank o.verb = true ∧ argFits o.verb o.arg = true ∧ yieldFits o.rank o.yieldStage = true ∧
      expiryFits o.rank o.expiresAt = true ∧ mapAllows ordered.env.cfg .field o.unit o.rank = true ∧
      ordered.env.relevantStage o.unit < effectiveYield ordered.env.cfg o.issuer o.yieldStage ∧
      o.verb.carriesArg = true ∧ argFits o.verb (absentOnes 100) = true ∧ verbOf 6 = some .level ∧ rankOf 2 = some .overriding ∧
      o.rank ≠ .lockout ∧ mapAllows ordered.env.cfg .field o.unit .overriding = true ∧ yieldFits o.rank (absentZero 1) = true ∧
      ordered.env.relevantStage o.unit < effectiveYield ordered.env.cfg o.issuer (absentZero 1) := by decide +kernel
/-- The same order's refusals by steps 6 to 9 of R15: a LOCKOUT, a RUN, the argument 101, a map without ranks, a yield stage reached. -/
theorem witness_AmendFieldByField_refused :
    rankOf 1 = some .lockout ∧ verbOf 1 = some .run ∧ verbFits (.zone .z3) .standing .run = false ∧ rankOf 9 = none ∧
      argFits .level (absentOnes 101) = false ∧ (0x20 : Byte).toNat % 32 = 0 ∧
      (let none : RankSet := ⟨false, false, false⟩
       let bare := { ordered.env.cfg with authority := ordered.env.cfg.authority.set .field ⟨⟨.all none, .all none, .all none, none⟩, true, 2⟩ }
       mapAllows bare .field (.zone .z3) .standing = false) ∧
      effectiveYield ordered.env.cfg (issuerOfLink .field) (absentZero 1) ≤ { ordered.env with underpass := 1 }.relevantStage (.zone .z3) ∧
      answer .field (after (.amend .field 9 [0, 45, 0, 0, 1, 101]) ordered) = some (.badField, []) := by decide +kernel
/-- R16, R17: order 45 takes an argument, a rank and an expiry at once, and loses its yield stage; order 41, a LOCKOUT, is confirmed. -/
theorem witness_AmendFieldByField_several :
    let s := after (.amend .field 9 [0, 45, 0, 0, 0x15, 70, 2, 0, 60]) ordered
    answer .field s = some (.done, [1]) ∧
      s.env.table.filter (fun o => o.number == 45) =
        [{ ord 45 .field 0 (.zone .z3) .overriding .level (some 70) none (some 100000) with revision := 1, governance := .governing }] ∧
      (let t := after (.amend .panel 9 [0, 41, 3, 0, 0x14, 1, 0, 0]) ordered
       answer .panel t = some (.done, [0]) ∧ t.env.table = ordered.env.table) := by decide +kernel
/-- R15 steps 6 and 7, R170: verb 99 beside a move to LOCKOUT mismatches, verb 99 and rank 9 by themselves are out of range. -/
theorem witness_AmendFieldByField_codes :
    (let code := fun (mask : Byte) (values : List Byte) => answer .field (after (.amend .field 9 ([0, 45, 0, 0, mask] ++ values)) ordered)
     code 6 [99, 1] = some (.verbMismatch, []) ∧ code 2 [99] = some (.badField, []) ∧ code 4 [9] = some (.badField, [])) := by
  decide +kernel
theorem witness_OrdersLeaveTheTable :
    (TableOk ordered ∧ TableOk (later 3610000 ordered)) ∧ (ordered.port .panel).slot = .empty ∧
      (∀ o ∈ ordered.env.table, o.number ≠ word 0 99) ∧
      (∃ o ∈ ordered.env.table, o.number = word 0 41 ∧ o.issuer = issuerOfLink .panel ∧ o.holder = (3 : Byte).toNat ∧ o.rank = .lockout) ∧
      (∃ o ∈ ordered.env.table, o.number = word 0 43 ∧ ¬(o.issuer = issuerOfLink .panel ∧ o.holder = (3 : Byte).toNat)) ∧
      (∃ o ∈ ordered.env.table, o.expiresAt = some 3610000) ∧ ordered.env.clock < 3610000 :=
  ⟨⟨ordered_tableOk, ordered_tableOk⟩, by decide +kernel⟩
theorem witness_SetAuthorityAccepted :
    let ranks := (defaultAuthority linkRanks).ranks
    (ordered.port .panel).slot = .empty ∧ ordered.store.state ≠ .saving ∧ ranks.outfall.lockout = false ∧
      ∀ u ∈ UnitId.every, (ranks.get u).lockout = false := by decide +kernel
theorem witness_ListOrdersWalksTheTable :
    (ordered.port .field).slot = .empty ∧ ¬(1 ≤ (0 : Byte).toNat ∧ (0 : Byte).toNat ≤ 17) ∧ ¬(1 ≤ (18 : Byte).toNat ∧ (18 : Byte).toNat ≤ 17) ∧
      UnitId.number .outfall = (17 : Byte).toNat ∧ Issuer.code .key = (3 : Byte).toNat := by decide +kernel
theorem witness_KeySwitchIsDebounced :
    ordered.env.pins.keys.get .pe ≠ true ∧ ordered.env.pins.keys.get .pe = (ordered.env.keys.get .pe).on ∧
      (let s := after (.keySwitchChange .pe true) ordered
       s.env.pins.keys.get .pe ≠ (s.env.keys.get .pe).on ∧ (s.env.keys.get .pe).stable = .since 40000 ∧
         s.env.clock - 40000 < 1000 ∧ 1000 ≤ (later 41000 s).env.clock - 40000) ∧
      exec (.startUp openPins false ⟨0, .succeeded⟩) ready = .next (after (.startUp openPins false ⟨0, .succeeded⟩) ready) :=
  ⟨by decide +kernel, by decide +kernel, by decide +kernel, rfl⟩

/-- The east key switch has been turned on, and its debounced state has not followed yet. -/
def keyTurned : State := { ordered with env := { ordered.env with pins := { openPins with keys := ⟨true, false⟩ } } }
/-- The switch's KEY order stands, and the switch has been turned off. -/
def keyStanding : State :=
  withTable (afternoon ++ [ord 46 .key 1 (.portal .pe) .overriding .close none none none])
    { ordered with env := { ordered.env with keys := ⟨⟨true, .since 0⟩, ⟨false, .stopped⟩⟩, counter := 47 } }
theorem keyStanding_tableOk : TableOk keyStanding := by
  refine ⟨?_, ?_, ?_, ?_, ?_, ?_, ?_, ?_, ?_, ?_, ?_, ordered_tableOk.2.2.2.2.2.2.2.2.2.2.2.1, ordered_tableOk.2.2.2.2.2.2.2.2.2.2.2.2⟩
  case refine_1 | refine_2 | refine_3 | refine_4 | refine_5 | refine_8 => decide +kernel
  · have h : ∀ o ∈ keyStanding.env.table, o.issuer = .key →
        o.holder = keyHolder .pe ∧ o.unit = .portal .pe ∧ o.rank = .overriding ∧ o.verb = .close ∧ o.expiresAt = none ∧
          (keyStanding.env.keys.get .pe).on = true := by decide +kernel
    exact fun o ho e => ⟨.pe, h o ho e⟩
  · intro k e
    cases k with
    | pe => decide +kernel
    | pw => exact absurd e (by decide +kernel)
  · rintro l ⟨⟩
    exact ⟨by decide, by decide, by simp, by decide⟩
  · rintro x ⟨⟩
  · rintro x ⟨⟩
theorem witness_KeyOrderJoinsAndLeaves :
    (TableOk keyTurned ∧ keyTurned.env.pins.keys.get .pe = true ∧ (keyTurned.env.keys.get .pe).on = false ∧
        (keyTurned.env.keys.get .pe).stable = .since 0 ∧ 1000 ≤ keyTurned.env.clock - 0) ∧
      TableOk keyStanding ∧ keyStanding.env.pins.keys.get .pe = false ∧ (keyStanding.env.keys.get .pe).on = true ∧
      (keyStanding.env.keys.get .pe).stable = .since 0 ∧ 1000 ≤ keyStanding.env.clock - 0 :=
  ⟨⟨ordered_tableOk, by decide +kernel⟩, keyStanding_tableOk, by decide +kernel⟩
theorem witness_ReadsAnswerTheRecord :
    (ordered.port .panel).slot = .empty ∧ (∀ o ∈ ordered.env.table, o.number ≠ word 0 99) ∧
      (ordered.env.table.find? (fun x => x.number == word 0 42)).isSome = true ∧ ¬(1 ≤ (18 : Byte).toNat ∧ (18 : Byte).toNat ≤ 17) ∧
      ¬(1 ≤ (4 : Byte).toNat ∧ (4 : Byte).toNat ≤ 3) := by decide +kernel
theorem witness_SetServiceAccepted :
    (ordered.port .panel).slot = .empty ∧ ordered.store.state ≠ .saving ∧ unitOf 16 = some (.zone .z6) ∧
      UnitId.zone .z6 ≠ .outfall ∧ serviceCode 1 = some .inService ∧ serviceOf ordered.env.cfg (.zone .z6) = .inService ∧
      serviceCode 3 = some .outOfService ∧ serviceOf ordered.env.cfg (.zone .z6) ≠ .outOfService := by decide +kernel

/-! #### The invariants hold of a state in which P1 runs -/

theorem running_pumpsOk : PumpsOk running := by intro i; cases i <;> decide +kernel
theorem running_queueOk : QueueOk running := by unfold QueueOk; decide +kernel
theorem running_noted : GrantsNoted running :=
  ⟨by intro i; cases i <;> decide +kernel, by intro i; cases i <;> decide +kernel, by decide +kernel⟩
theorem running_limitOk : LimitOk running := by
  have h : limitInForce running.env running.plant = none := by decide +kernel
  intro n hn
  rw [h] at hn
  cases hn
theorem running_portalsOk : PortalsOk running := by
  intro i
  refine ⟨⟨?_, ?_, ?_, ?_, ?_, ?_, ?_⟩, ?_⟩
  case refine_3 => intro a; cases i <;> cases a <;> decide +kernel
  case refine_8 =>
    have h : running.plant.locked (.portal i) = false := by cases i <;> decide +kernel
    intro e
    rw [h] at e
    cases e
  all_goals cases i <;> decide +kernel
theorem running_lockedStill : LockedStill running :=
  ⟨by intro i; cases i <;> decide +kernel, by intro i; cases i <;> decide +kernel, by intro i; cases i <;> decide +kernel⟩
theorem running_tableOk : TableOk running := by
  refine ⟨?_, ?_, ?_, ?_, ?_, ?_, ?_, ?_, ?_, ?_, ?_, ordered_tableOk.2.2.2.2.2.2.2.2.2.2.2.1, ordered_tableOk.2.2.2.2.2.2.2.2.2.2.2.2⟩
  case refine_1 | refine_2 | refine_3 | refine_4 | refine_5 | refine_8 => decide +kernel
  · have h : running.env.table = [] := by decide +kernel
    intro o ho
    rw [h] at ho
    cases ho
  · intro k e
    cases k <;> revert e <;> decide +kernel
  · rintro l ⟨⟩
    exact ⟨by decide, by decide, by simp, by decide⟩
  · rintro x ⟨⟩
  · rintro x ⟨⟩
theorem running_governanceOk : GovernanceOk running := by
  refine ⟨by decide +kernel, fun u => ?_⟩
  cases u with
  | pump i => cases i <;> decide +kernel
  | portal i => cases i <;> decide +kernel
  | zone i => cases i <;> decide +kernel
  | outfall => decide +kernel
theorem running_attention : RelayOk running ∧ ChangesOk running :=
  ⟨by unfold RelayOk; decide +kernel, by intro l; unfold ChangedSetOk; cases l <;> decide +kernel⟩
theorem sampled_stage : SectionsOk sampled ∧ YieldOk sampled := by
  refine ⟨⟨fun u => ?_, by decide +kernel⟩, by decide +kernel, by decide +kernel⟩
  cases u with
  | c =>
    exact ⟨by rintro _ ⟨⟩; decide, by rintro _ ⟨⟩, by rintro _ ⟨⟩; decide, by decide +kernel, by rintro _ ⟨⟩,
      by decide +kernel, by decide +kernel, by rintro _ ⟨⟩, by decide +kernel, by decide +kernel⟩
  | e =>
    exact ⟨by rintro _ ⟨⟩, by rintro _ ⟨⟩, by rintro _ ⟨⟩, by decide +kernel, by rintro _ ⟨⟩,
      by decide +kernel, by decide +kernel, by rintro _ ⟨⟩, by decide +kernel, by decide +kernel⟩
  | w =>
    exact ⟨by rintro _ ⟨⟩, by rintro _ ⟨⟩, by rintro _ ⟨⟩, by decide +kernel, by rintro _ ⟨⟩,
      by decide +kernel, by decide +kernel, by rintro _ ⟨⟩, by decide +kernel, by decide +kernel⟩
theorem served_rings : RingsIn served := by
  intro u
  refine ⟨?_, ?_, ?_, ?_, fun i => ?_⟩
  case refine_5 => cases u <;> cases i <;> decide +kernel
  all_goals cases u <;> decide +kernel
theorem running_ringsOk : RingsOk running :=
  ⟨served_rings, by intro u; cases u <;> decide +kernel, by rintro _ ⟨⟩; exact served_rings, by rintro _ ⟨⟩, by rintro _ ⟨⟩⟩
theorem running_loadOk : LoadOk running :=
  ⟨by decide +kernel, by decide +kernel, by unfold ShedsIn; decide +kernel, by rintro _ ⟨⟩; unfold ShedsIn; decide +kernel,
    by rintro _ ⟨⟩, by rintro _ ⟨⟩, by decide +kernel, by intro i; cases i <;> decide +kernel⟩
/-- The premises of the invariants, and a step, of a state in which P1 runs (of sump C sampled, for the measurement). -/
theorem witness_InvariantsKept :
    (RelayOk running ∧ ChangesOk running) ∧ (SectionsOk sampled ∧ YieldOk sampled) ∧ (TableOk running ∧ GovernanceOk running) ∧
      RingsOk running ∧ (PumpsOk running ∧ QueueOk running ∧ GrantsNoted running ∧ LimitOk running) ∧
      (PortalsOk running ∧ LockedStill running) ∧ LoadOk running ∧ (∃ t, step running = .next t) ∧ ∃ t, step sampled = .next t :=
  ⟨running_attention, sampled_stage, ⟨running_tableOk, running_governanceOk⟩, running_ringsOk,
    ⟨running_pumpsOk, running_queueOk, running_noted, running_limitOk⟩, ⟨running_portalsOk, running_lockedStill⟩, running_loadOk,
    ⟨_, rfl⟩, _, rfl⟩
/-- The supplies fail after two idle milliseconds, and two more pass. -/
theorem witness_EveryRunFromResetIsSafe :
    (match runSchedule [⟨2, [.supplyInputChange false false], ⟨[⟨3, 1, charBits .field 0x5A⟩], []⟩⟩, ⟨3, [], ⟨[], []⟩⟩] State.reset with
     | .next t => some (t.env.clock, t.plant.arb.supply)
     | _ => none) = some (4, .transfer) := by decide +kernel

theorem witness_ServiceEntryActions :
    (GovernanceOk running ∧ PumpsOk running ∧ QueueOk running ∧ PortalsOk running ∧ LimitOk running ∧ LockedStill running) ∧
      ((running.port .panel).slot = .empty ∧ running.store.state ≠ .saving ∧ unitOf 1 = some (.pump .p1) ∧
        unitOf 9 = some (.portal .pe) ∧ unitOf 11 = some (.zone .z1) ∧ serviceCode 3 = some .outOfService ∧
        serviceCode 2 = some .inHand ∧ serviceOf running.env.cfg (.pump .p1) = .inService ∧
        serviceOf running.env.cfg (.portal .pe) = .inService ∧ serviceOf running.env.cfg (.zone .z1) = .inService) ∧
      ∃ t, exec (.setService .panel 9 [1, 3]) running = .next t :=
  ⟨⟨running_governanceOk, running_pumpsOk, running_queueOk, running_portalsOk, running_limitOk, running_lockedStill⟩, by decide +kernel,
    _, rfl⟩
/-- Z1 is out of service, and so are the pumps and portals. -/
def allOut : State :=
  bootState idlePins ⟨0, .succeeded⟩ { State.reset.store with image := some { factoryDefaults with zoneService := .all .outOfService } } []
    (.all [])
theorem allOut_portalsOk : PortalsOk allOut := by
  intro i
  refine ⟨⟨?_, ?_, ?_, ?_, ?_, ?_, ?_⟩, ?_⟩
  case refine_3 => intro a; cases i <;> cases a <;> decide +kernel
  case refine_8 =>
    have h : allOut.plant.locked (.portal i) = false := by cases i <;> decide +kernel
    intro e
    rw [h] at e
    cases e
  all_goals cases i <;> decide +kernel
theorem allOut_governanceOk : GovernanceOk allOut := by
  refine ⟨by decide +kernel, fun u => ?_⟩
  cases u with
  | pump i => cases i <;> decide +kernel
  | portal i => cases i <;> decide +kernel
  | zone i => cases i <;> decide +kernel
  | outfall => decide +kernel
/-- The premises of an entry to IN_SERVICE, for a pump, a portal and a zone. -/
theorem witness_ServiceEntryActions_inService :
    (GovernanceOk allOut ∧ PumpsOk allOut ∧ QueueOk allOut ∧ PortalsOk allOut ∧ LimitOk allOut ∧ LockedStill allOut) ∧
      ((allOut.port .panel).slot = .empty ∧ allOut.store.state ≠ .saving ∧ serviceCode 1 = some .inService ∧
        serviceOf allOut.env.cfg (.pump .p1) ≠ .inService ∧ serviceOf allOut.env.cfg (.portal .pe) ≠ .inService ∧
        serviceOf allOut.env.cfg (.zone .z1) = .outOfService) ∧
      (∃ t, exec (.setService .panel 9 [1, 1]) allOut = .next t) ∧ (∃ t, exec (.setService .panel 9 [9, 1]) allOut = .next t) ∧
      ∃ t, exec (.setService .panel 9 [11, 1]) allOut = .next t := by
  refine ⟨⟨allOut_governanceOk, by intro i; cases i <;> decide +kernel, by unfold QueueOk; decide +kernel, allOut_portalsOk, ?_, ?_⟩,
    by decide +kernel, ⟨_, rfl⟩, ⟨_, rfl⟩, _, rfl⟩
  · have h : limitInForce allOut.env allOut.plant = none := by decide +kernel
    intro n hn
    rw [h] at hn
    cases hn
  · exact ⟨by intro i; cases i <;> decide +kernel, by intro i; cases i <;> decide +kernel, by intro i; cases i <;> decide +kernel⟩

/-- P1 is locked, in hand. -/
def handLocked : State := withTable [ord 1 .panel 3 (.pump .p1) .lockout .lock none none none] inHand
/-- A lockout that the record of its unit has yet to take up, and one that has left and is still recorded. -/
theorem witness_ServiceEntryActions_lock :
    (inHand.plant.locked (.pump .p1) = false ∧ (∃ o ∈ handLocked.env.table, o.unit = .pump .p1 ∧ o.rank = .lockout) ∧
        inHand.env.cfg.pumpService.get .p1 = .inHand) ∧
      (handDriven.plant.locked (.portal .pe) = false ∧ handDriven.plant.portals.pe.motion ≠ .none) ∧
      (let s := portalAt .barring true ⟨true, false, true, false, false⟩
       let t := withTable [ord 1 .panel 3 (.portal .pe) .lockout .lock none none none] s
       s.plant.locked (.portal .pe) = false ∧ (∃ o ∈ t.env.table, o.unit = .portal .pe ∧ o.rank = .lockout) ∧
         s.env.cfg.portalService.get .pe = .inService ∧ s.plant.portals.pe.seq.motionStep = true ∧
         t.plant.locked (.portal .pe) = true ∧ ¬ ∃ o ∈ s.env.table, o.unit = .portal .pe ∧ o.rank = .lockout) := by decide +kernel
theorem witness_HandDriveActs :
    (inHand.port .panel).slot = .empty ∧
      (handLocked.plant.locked (.pump .p1) = true ∧ (driveOf (.pump .p1) 1 0).isSome = true ∧ unitOf 1 = some (.pump .p1)) ∧
      (ready.plant.locked (.pump .p1) = false ∧ serviceOf ready.env.cfg (.pump .p1) ≠ .inHand) ∧
      (inHand.plant.locked (.pump .p1) = false ∧ inHand.env.cfg.pumpService.get .p1 = .inHand) ∧
      (unitOf 10 = some (.portal .pw) ∧ inHand.plant.locked (.portal .pw) = false ∧ inHand.env.cfg.portalService.get .pw = .inHand ∧
        aspectOf 3 = some .red ∧ aspectOf 1 = some .dark) ∧
      (unitOf 16 = some (.zone .z6) ∧ inHand.plant.locked (.zone .z6) = false ∧ inHand.env.cfg.zoneService.get .z6 = .inHand ∧
        (100 : Byte).toNat ≤ 100 ∧ ((100 : Byte).toNat = 0 ∨ (100 : Byte).toNat = 100)) ∧
      motionTarget (inHand.env.portalPins .pe) .gateOpening = true ∧ motionTarget (inHand.env.portalPins .pe) .gateClosing = false := by
  decide +kernel
theorem witness_SetUnitConfigAccepted :
    (allOut.port .panel).slot = .empty ∧ allOut.store.state ≠ .saving ∧
      (unitOf 9 = some (.portal .pe) ∧ allOut.env.cfg.portalService.get .pe = .outOfService ∧ portalCfgFits defaultPortalCfg = true) ∧
      (unitOf 11 = some (.zone .z1) ∧ allOut.env.cfg.zoneService.get .z1 = .outOfService ∧ roleOf 1 = some .threshold ∧
        sideOf 2 = some .west ∧ zoneCfgFits .z1 (defaultZoneCfg .threshold .west 60 10 25) = true ∧
        shedOfAll { allOut.env.cfg with zones := allOut.env.cfg.zones.set .z1 (defaultZoneCfg .threshold .west 60 10 25) } ≤ min 800 400) ∧
      (unitOf 4 = some (.pump .p4) ∧ allOut.env.cfg.pumpService.get .p4 = .outOfService ∧ sumpOf 2 = some .e ∧
        pumpCfgFits (defaultPumpCfg .e) = true ∧ (allOut.env.ring .c).length ≠ 1 ∧ (allOut.env.ring .e).length < 4 ∧
        4 ≤ (allOut.env.ring .c).length) := by decide +kernel
/-- PE is JAMMED in service, with SEALING as its resume state. -/
def jammed : State :=
  setPortal .pe { freshPortal .jammed with resume := some .sealing, jam := some .travel } (portalAt .jammed false ⟨false, false, false, true, false⟩)
/-- PE keeps a jam in hand, and a hand motion is under way. -/
def handJammed : State :=
  setPortal .pe { handDriven.plant.portals.pe with jam := some .travel, resume := some .sealing } handDriven
/-- R47: the reset of a jam kept in hand ends the motion under way. -/
theorem test_reset_in_hand_stops_the_motion :
    let q := (after (.resetFault .field 9 [9]) handJammed).plant.portals.pe
    q.seq = .hand ∧ q.motion = .none ∧ q.permit = false ∧ q.jam = none ∧ q.result = some .stop := by decide +kernel
theorem faulted_pumpsOk : PumpsOk faulted := by intro i; cases i <;> decide +kernel
theorem witness_ResetFaultActs :
    PumpsOk faulted ∧ (ready.port .field).slot = .empty ∧ unitOf 1 = some (.pump .p1) ∧ hasFault ready.env ready.plant (.pump .p1) = false ∧
      (faulted.plant.pumps.get .p1).run = .faulted ∧ faulted.env.pins.thermal.get .p1 = false ∧
      0 < (faulted.env.cfg.pumps.get .p1).minRest ∧ unitOf 9 = some (.portal .pe) ∧ hasFault jammed.env jammed.plant (.portal .pe) = true ∧
      (jammed.plant.portals.get .pe).jam ≠ some .edge ∧ (jammed.plant.portals.get .pe).seq = .jammed ∧
      (jammed.plant.portals.get .pe).resume = some .sealing ∧ jammed.plant.locked (.portal .pe) = false ∧
      hasFault handJammed.env handJammed.plant (.portal .pe) = true ∧ handJammed.plant.portals.pe.seq = .hand ∧
      handJammed.plant.portals.pe.motion ≠ .none :=
  ⟨faulted_pumpsOk, by decide +kernel⟩
/-- The same for a pump without a min rest, a latched cause that stands, and a portal that is JAMMED and locked. -/
theorem witness_ResetFaultActs_forms :
    let c := faulted.env.cfg
    let s := { faulted with env := { faulted.env with cfg := { c with pumps := c.pumps.set .p1 { c.pumps.p1 with minRest := 0 } } } }
    let j := withTable [ord 1 .panel 3 (.portal .pe) .lockout .lock none none none] jammed
    hasFault s.env s.plant (.pump .p1) = true ∧ causeGone s.env s.plant (.pump .p1) = true ∧ (s.env.cfg.pumps.get .p1).minRest = 0 ∧
      ((resetPump s.env .p1 s.plant).pumps.get .p1).run = .stopped ∧
      Cause.pumpFault.latched = true ∧ Cause.pumpFault.isIn alerted.plant.attn.present = true ∧
      hasFault j.env j.plant (.portal .pe) = true ∧ causeGone j.env j.plant (.portal .pe) = true ∧
      (j.plant.portals.get .pe).seq = .jammed ∧ (j.plant.portals.get .pe).resume = some .sealing ∧ Seq.motionStep .sealing = true ∧
      j.plant.locked (.portal .pe) = true ∧ (after (.resetFault .field 9 [9]) j).plant.portals.pe.seq = .held := by decide +kernel
theorem witness_SampleIsScaledAndRecorded : levelOfCount 819 1563 205 = some 0 := by decide +kernel
/-- One pair of counts for each kind of sample: agreeing by exactly D, disagreeing, one valid, none valid. -/
theorem witness_VoteOfEverySample :
    let c := sampled.env.cfg.sumps.c
    (∃ t, exec (.sumpSample .c 1965 1980) sampled = .next t) ∧ sampled.env.sumps.c.mode ≠ .barred ∧
      (sampleOf c.calibration 1965 1980).levelA = some 1749 ∧ (sampleOf c.calibration 1965 1980).levelB = some 1772 ∧
      c.calibration.d < 1820 - 1749 ∧ 1 < sampled.env.sumps.c.allowance ∧ (sampleOf c.calibration 1965 2012).levelB = some 1820 ∧
      (sampleOf c.calibration 204 1980).levelA = none ∧ (sampleOf c.calibration 1965 4061).levelB = none ∧
      sampled.env.sumps.c.invalidCount < 7 ∧ (setSection .c { dual with allowance := 1 } sampled).env.sumps.c.allowance ≤ 1 ∧
      (setSection .c { dual with mode := .barred } sampled).env.sumps.c.mode = .barred ∧
      7 ≤ (setSection .c { dual with invalidCount := 7 } sampled).env.sumps.c.invalidCount :=
  ⟨⟨_, rfl⟩, by decide +kernel⟩
theorem witness_FilterFollowsTheLevel :
    (∃ t, exec (.sumpSample .c 1965 1980) sampled = .next t) ∧
      (vote 50 (sampleOf sampled.env.cfg.sumps.c.calibration 1965 1980) dual).2 = some 1760 ∧ dual.level = some 1700 ∧
      (vote 50 (sampleOf ready.env.cfg.sumps.c.calibration 205 205) ready.env.sumps.c).2 = some 0 ∧ ready.env.sumps.c.level = none :=
  ⟨⟨_, rfl⟩, by decide +kernel⟩
theorem witness_RateAndForecastFollow :
    (∃ t, exec (.sumpSample .c 1965 1980) sampled = .next t) ∧
      (vote 50 (sampleOf sampled.env.cfg.sumps.c.calibration 1965 1980) sampled.env.sumps.c).2 = some 1760 ∧
      sampled.env.sumps.c.level = some 1700 ∧ sampled.env.sumps.c.level10 = some 1690 ∧ sampled.env.sumps.c.mode ≠ .float ∧
      39 ≤ sampled.env.sumps.c.rateCount ∧ (setSection .c { dual with rateCount := 38 } sampled).env.sumps.c.rateCount < 39 ∧
      (setSection .c { dual with level10 := none } sampled).env.sumps.c.level10 = none := ⟨⟨_, rfl⟩, by decide +kernel⟩
theorem witness_StageFollowsTheTable :
    dual.mode = .dual ∧ dual.level = some 1700 ∧ { dual with mode := Mode.barred }.mode = .barred ∧ (freshSection 32).mode = .none ∧
      (let m' := (after (.sumpSample .c 1965 1980) sampled).env.sumps.c
       sampled.env.sumps.c.stage < stageRaw sampled.env.cfg.sumps.c.staging m') ∧
      (let s := setSection .c { dual with stage := 3 } sampled
       let m' := (after (.sumpSample .c 1965 1980) s).env.sumps.c
       stageRaw s.env.cfg.sumps.c.staging m' ≤ 3 ∧ stageDown s.env.cfg.sumps.c.staging m' = some 2) := by decide +kernel
theorem witness_FloatAndHoldEvents :
    contactOf ready.env .c .high ≠ false ∧ floatNow ready.env .c .extreme = ready.env.sumps.c.extreme.active ∧
      (let s := after (.floatInputChange .c .high false) ready
       floatNow s.env .c .high ≠ s.env.sumps.c.high.active ∧ s.env.sumps.c.high.stable = .since 0 ∧
         2000 ≤ (later 2000 s).env.clock - 0) ∧
      (let s := later 60000 (setSection .c { dual with hold := .since 0, candidate := some 0 } sampled)
       s.env.sumps.c.hold = .since 0 ∧ s.env.sumps.c.candidate = some 0 ∧
         1000 * s.env.cfg.sumps.c.staging.hold ≤ s.env.clock - 0) := by decide +kernel
theorem witness_SumpRequestsAct :
    (sampled.port .field).slot = .empty ∧ sumpOf 3 = some .w ∧ sampled.store.state ≠ .saving ∧
      readGroup 1 [3, 51, 3, 51, 6, 27, 6, 27, 0, 50, 1] = some (.calibration ⟨819, 819, 1563, 1563, 50, 1⟩) ∧
      groupFits (.calibration ⟨819, 819, 1563, 1563, 50, 1⟩) = true ∧
      readGroup 2 [2, 88, 4, 176, 7, 8, 9, 96, 0, 50, 0, 60, 0, 120, 5, 16] = some (.staging { defaultStaging with w := 16 }) ∧
      groupFits (.staging { defaultStaging with w := 16 }) = true ∧
      readGroup 3 [1, 2] = some (.floats ⟨.normallyOpen, .normallyClosed⟩) ∧ sampled.env.underpass = underpassOf sampled.env.sumps ∧
      readGroup 4 [1, 244, 1, 44, 3, 32, 1, 244, 4, 76, 2, 188, 5, 120, 3, 132] = some (.positions defaultPositions) ∧
      groupFits (.positions defaultPositions) = true := by decide +kernel
theorem witness_SetRingOrderActs :
    (ready.port .panel).slot = .empty ∧ ready.store.state ≠ .saving ∧ ([.p4, .p3, .p2, .p1] : List PumpId).length = 4 ∧
      ([.p4, .p3, .p2, .p1] : List PumpId).Perm (ready.env.ring .c) ∧ ¬ ([.p4] : List PumpId).Perm (ready.env.ring .c) := by
  decide +kernel
theorem witness_StopsFollowTheTable : 0 < ringLive running.env running.plant .c ∧
    ringLive running.env (haltPump running.env .p1 .rest running.plant) .c = 0 := by decide +kernel
theorem starting_pumpsOk : PumpsOk starting := by intro i; cases i <;> decide +kernel
theorem witness_FaultsStopThePump :
    (PumpsOk starting ∧ PumpsOk running ∧ PumpsOk faulted) ∧ starting.plant.pumps.p1.run = .starting ∧
      starting.plant.pumps.p1.confirm = .since 0 ∧ 1000 * starting.env.cfg.pumps.p1.confirmLimit ≤ (later 10000 starting).env.clock - 0 ∧
      running.plant.pumps.p1.run = .running ∧ running.plant.pumps.p1.lostTimer = .since 0 ∧
      1000 ≤ (later 1000 running).env.clock - 0 ∧ running.plant.pumps.p1.live = true ∧ running.env.pins.thermal.get .p1 = false ∧
      faulted.plant.pumps.p1.live = false :=
  ⟨⟨starting_pumpsOk, running_pumpsOk, faulted_pumpsOk⟩, by decide +kernel⟩
theorem witness_PumpEventsAct :
    PumpsOk running ∧ running.env.pins.dryRun.get .p1 ≠ true ∧ running.plant.pumps.p1.run = .running ∧
      running.plant.pumps.p1.dryTimer = .since 0 ∧ 5000 ≤ (later 5000 running).env.clock - 0 ∧ 0 < running.env.cfg.pumps.p1.minRest ∧
      running.env.pins.feedback.get .p1 ≠ true ∧ running.plant.pumps.p1.surge = .since 0 ∧
      1000 * running.env.cfg.pumps.p1.surgeTime ≤ 8000 ∧ running.plant.pumps.p1.minRun = .since 0 ∧
      1000 * running.env.cfg.pumps.p1.minRun ≤ 120000 ∧ resting.plant.pumps.p1.run = .resting ∧
      resting.plant.pumps.p1.minRest = .since 0 ∧ 1000 * resting.plant.pumps.p1.restLength ≤ (later 60000 resting).env.clock - 0 ∧
      resting.plant.pumps.p1.starts = [0] ∧ 3600000 ≤ (later 3600000 resting).env.clock - 0 := ⟨running_pumpsOk, by decide +kernel⟩
/-- R97: a rest keeps the min rest that it was given, whatever SET UNIT CONFIG writes while it runs. -/
theorem test_rest_keeps_its_length :
    let s := { resting with env := { resting.env with cfg := { resting.env.cfg with pumps := .all { defaultPumpCfg .c with minRest := 600 } } } }
    (after (.restEnd .p1) (later 60000 s)).plant.pumps.p1.run = .stopped := by decide +kernel
theorem witness_WantedPumpsFollowTheWater :
    (∃ t, exec (.sumpSample .c 1148 1148) ready = .next t) ∧
      (vote 50 (sampleOf ready.env.cfg.sumps.c.calibration 1148 1148) ready.env.sumps.c).2 = some 502 ∧
      (vote 50 (sampleOf ready.env.cfg.sumps.c.calibration 0 0) ready.env.sumps.c).2 = none := ⟨⟨_, rfl⟩, by decide +kernel⟩
/-- P1 runs past its min run, wanted by none. -/
def unwanted : State := setPump .p1 { running.plant.pumps.p1 with minRun := .stopped } running
/-- The premises of the start queue's joining and leaving, and of an immediate stop. -/
theorem witness_WantedPumpsFollowTheWater_duty :
    ((queued.env.ring .c).Nodup ∧ (queued.env.ring .c).length ≤ 4 ∧
        (∀ i ∈ queued.env.ring .c, (queued.plant.pumps.get i).run = .queued ↔ queued.plant.queued (.pump i) = true)) ∧
      (∀ i ∈ unwanted.env.ring .c, (unwanted.plant.pumps.get i).run = .queued ↔ unwanted.plant.queued (.pump i) = true) ∧
      (let p := dutySump queued.env .c queued.plant
       p.pumps.p1.run = .stopped ∧ p.queued (.pump .p1) = false) ∧
      (dutySump unwanted.env .c unwanted.plant).pumps.p1.run = .resting ∧
      (let s := withTable [ord 1 .panel 3 (.pump .p1) .lockout .lock none none none] running
       s.plant.locked (.pump .p1) = true ∧ (s.plant.pumps.get .p1).live = true) := by decide +kernel
/-- P1 is due to stop in the first round, and no pump after it. -/
theorem witness_WantedPumpsFollowTheWater_rounds :
    let due := fun (q : Plant) (i : PumpId) =>
      (q.pumps.get i).run == .running && (q.pumps.get i).minRun == .stopped &&
        ((unwanted.env.cfg.pumpService.get i == .inService && !(wantedPumps unwanted.env q .c).contains i) ||
          (unwanted.env.cfg.pumpService.get i == .inHand && !(q.pumps.get i).hand))
    (∃ i ∈ unwanted.env.ring .c, due unwanted.plant i = true) ∧
      (∀ i ∈ unwanted.env.ring .c, due (haltPump unwanted.env .p1 .rest unwanted.plant) i = false) := by decide +kernel
/-- P1 runs against a limit of 0. -/
theorem witness_WantedPumpsFollowTheWater_limit :
    let s := withTable [ord 1 .panel 3 .outfall .overriding .limit (some 0) none none] running
    (governingOrder s.env s.plant .outfall).bind Order.arg = some 0 ∧ liveCount s.plant = 1 ∧ (s.plant.pumps.get .p1).live = true ∧
      s.plant.arb.grantOrder = [] ++ .pump .p1 :: [] ∧ (∀ i ∈ PumpId.every, (s.plant.pumps.get i).live = true → i = .p1) := by
  decide +kernel
/-- The supply is in TRANSFER. -/
def transfer : State := after (.supplyInputChange false false) ready
theorem witness_SupplyStateFollowsTheInputs :
    ((ready.env.pins.gridOk = true ∧ ready.env.pins.standbyOk = false) ∧ transfer.plant.arb.supply = .transfer ∧
      ready.plant.arb.supply ≠ .transfer ∧ transfer.plant.arb.transfer = .since 0 ∧
      1000 * transfer.env.cfg.supply.transferLimit ≤ (later 60000 transfer).env.clock - 0) ∧
      ∃ t, exec (.startUp idlePins true ⟨0, .succeeded⟩) ready = .next t := ⟨by decide +kernel, _, rfl⟩
theorem witness_SupplyChangeDropsEveryLoad :
    GrantsNoted running ∧ (∀ i, 1 ≤ (running.env.cfg.pumps.get i).load) ∧ (∀ i, 1 ≤ (running.env.cfg.portals.get i).motorKw) ∧
      exec (.supplyInputChange false false) running = .next (after (.supplyInputChange false false) running) ∧
      (after (.supplyInputChange false false) running).plant.arb.supply = .transfer ∧ running.plant.arb.supply = .grid :=
  ⟨running_noted, by intro i; cases i <;> decide +kernel, by intro i; cases i <;> decide +kernel, rfl, by decide +kernel,
    by decide +kernel⟩
/-- A SET SUPPLY CONFIG whose transfer limit the timer has reached: 20 s, after 30 s in TRANSFER (R105). -/
theorem witness_SupplyChangeDropsEveryLoad_config :
    GrantsNoted (later 30000 transfer) ∧
      exec (.setSupplyConfig .panel 9 [3, 32, 1, 144, 0, 20, 10, 0, 120]) (later 30000 transfer) =
        .next (after (.setSupplyConfig .panel 9 [3, 32, 1, 144, 0, 20, 10, 0, 120]) (later 30000 transfer)) ∧
      (after (.setSupplyConfig .panel 9 [3, 32, 1, 144, 0, 20, 10, 0, 120]) (later 30000 transfer)).plant.arb.supply = .dark :=
  ⟨⟨by intro i; cases i <;> decide +kernel, by intro i; cases i <;> decide +kernel, by decide +kernel⟩, rfl, by decide +kernel⟩
/-- A permit to withdraw, a change by the inputs, and budgets that leave too little room for P1 and for PE. -/
theorem witness_SupplyChangeDropsEveryLoad_room :
    let tight := fun (kw : Nat) (s : State) =>
      { s.env with cfg := { s.env.cfg with supply := { s.env.cfg.supply with grid := kw } } }
    let s := portalAt .barring true ⟨true, false, true, false, false⟩
    (s.plant.portals.pe.permit = true ∧ s.plant.queued (.portal .pe) = false ∧ s.plant.arb.grantOrder = [] ++ .portal .pe :: [] ∧
        s.plant.arb.supply.powered = true ∧ budget (tight 60 s) s.plant < nonLampLoad (tight 60 s) s.plant + shedReservation s.env.cfg ∧
        ∀ j ∈ PumpId.every, (s.plant.pumps.get j).live = false) ∧
      (running.plant.arb.grantOrder = [] ++ .pump .p1 :: [] ∧
        budget (tight 100 running) running.plant < nonLampLoad running.env running.plant + shedReservation running.env.cfg ∧
        shedReservation running.env.cfg ≤ budget (tight 100 running) running.plant) ∧
      ¬(ready.env.pins.gridOk = false ∧ ready.env.pins.standbyOk = true) ∧ ready.plant.arb.supply = .grid := by decide +kernel
/-- PE and PW lower their barriers, PE granted first, on a grid budget of the kW given. -/
def bothBarring (kw : Nat) : State :=
  let s := setPortal .pw { freshPortal .barring with permit := true, travel := .since 0 } (portalAt .barring true ⟨true, false, true, false, false⟩)
  { s with
    env := { s.env with cfg := { s.env.cfg with supply := { s.env.cfg.supply with grid := kw } } }
    plant := { s.plant with arb := { s.plant.arb with grantOrder := [.portal .pe, .portal .pw] } } }
/-- One permit of the two is enough at 70 kW; both must go at 60 kW. -/
theorem witness_SupplyChangeDropsEveryLoad_permits :
    let p1 := fun s : State => withdrawPermit s.env .pw s.plant
    let s := bothBarring 70
    let t := bothBarring 60
    (s.plant.arb.grantOrder = [.portal .pe] ++ .portal .pw :: [] ∧ s.plant.arb.grantOrder.Nodup ∧ s.plant.portals.pw.permit = true ∧
        s.plant.portals.pe.permit = true ∧ s.plant.queued (.portal .pw) = false ∧ s.plant.queued (.portal .pe) = false ∧
        (∀ j ∈ PumpId.every, (s.plant.pumps.get j).live = false) ∧ s.plant.arb.supply.powered = true ∧
        budget s.env s.plant < nonLampLoad s.env s.plant + shedReservation s.env.cfg ∧
        nonLampLoad s.env (p1 s) + shedReservation s.env.cfg ≤ budget s.env s.plant) ∧
      t.plant = s.plant ∧ budget t.env t.plant < nonLampLoad t.env (p1 t) + shedReservation t.env.cfg := by decide +kernel
/-- R104, R100 step 2: the permit granted last goes first, and where both go the portal granted first joins the queue first. -/
theorem test_room_making_takes_permits :
    let left := fun kw => makeRoom (bothBarring kw).env 10 (bothBarring kw).plant
    ((left 70).portals.pe.permit = true ∧ (left 70).arb.queue.map Request.unit = [.portal .pw]) ∧
      (left 60).portals.pe.permit = false ∧ (left 60).arb.queue.map Request.unit = [.portal .pe, .portal .pw] := by decide +kernel
theorem witness_ArbiterTimersAct :
    (ready.port .panel).slot = .empty ∧ ready.store.state ≠ .saving ∧ word 0x07 0xD0 = 2000 ∧ word 0 52 = 52 ∧ word 0 10 = 10 ∧
      word 0x02 0x58 = 600 ∧ shedOfAll ready.env.cfg ≤ min 2000 52 ∧
      nonLampLoad ready.env ready.plant + shedReservation ready.env.cfg ≤ 2000 ∧ ready.plant.arb.supply = .grid ∧
      (running.plant.arb.spacing = .since 0 ∧ 1000 * running.env.cfg.supply.spacing ≤ (later 10000 running).env.clock - 0) ∧
      ((⟨.pump .p1, 0, .since 0⟩ : Request) ∈ queued.plant.arb.queue ∧ queued.plant.arb.supply ≠ .transfer ∧
        queued.plant.pumps.p1.starved = false ∧ 1000 * queued.env.cfg.supply.waitLimit ≤ (later 120000 queued).env.clock - 0) ∧
      (let p := joinQueue flooded.env (.portal .pe) flooded.plant
       (⟨.portal .pe, 0, .since 0⟩ : Request) ∈ p.arb.queue ∧ (p.portals.get .pe).starved = false) := by decide +kernel
theorem witness_GrantsTakeTheHeadOfTheLine :
    (grantOrderNow queued.env queued.plant.arb.queue).head? = some ⟨.pump .p1, 0, .since 0⟩ ∧
      fits queued.env queued.plant ⟨.pump .p1, 0, .since 0⟩ = false ∧
      (let p := { queued.plant with arb := { queued.plant.arb with spacing := .stopped } }
       fits queued.env p ⟨.pump .p1, 0, .since 0⟩ = true) ∧ queued.env.pins.thermal.get .p1 = false := by decide +kernel
/-- PE is granted in each state that drives a motor, with and without what its guards ask for. -/
theorem witness_GrantsTakeTheHeadOfTheLine_motion :
    let at_ := fun (q : Seq) (v : PortalPins) => (portalAt q false v).plant.portals.pe.seq = q ∧ (portalAt q false v).env.portalPins .pe = v
    at_ .barring ⟨true, false, true, false, false⟩ ∧ at_ .unsealing ⟨false, true, false, true, false⟩ ∧
      at_ .sealing ⟨true, false, false, true, false⟩ ∧ at_ .sealing ⟨true, false, false, false, false⟩ ∧
      at_ .sealing ⟨false, false, false, true, true⟩ ∧ at_ .lifting ⟨true, false, false, true, false⟩ ∧
      at_ .lifting ⟨false, false, false, true, false⟩ ∧
      (handDriven.plant.portals.pe.seq = .hand ∧ handDriven.plant.portals.pe.motion = .gateClosing) ∧
      (fits flooded.env flooded.plant ⟨.portal .pe, 0, .since 0⟩ = true ∧ flooded.plant.arb.supply.powered = true ∧
        (∀ z ∈ ZoneId.every, (flooded.env.cfg.zones.get z).shed ≤ 100)) := by decide +kernel
/-- R112, R130: a LIFTING portal granted away from its open limit turns to UNSEALING with its permit. -/
theorem test_grant_in_lifting_unseals :
    let s := portalAt .lifting false ⟨false, false, false, true, false⟩
    let q := (grantPortal s.env .pe s.plant).portals.pe
    q.seq = .unsealing ∧ q.permit = true ∧ q.motor = some .gateOpen := by decide +kernel
theorem witness_AllocationKeepsTheBudget :
    (∀ z ∈ ZoneId.every, (running.env.cfg.zones.get z).shed ≤ 100) ∧ running.plant.arb.supply.powered = true ∧
      nonLampLoad running.env running.plant + shedReservation running.env.cfg ≤ budget running.env running.plant ∧
      transfer.plant.arb.supply.powered = false ∧ running.env.cfg.zoneService.get .z1 = .inService ∧
      inHand.env.cfg.zoneService.get .z5 = .inHand ∧ running.plant.locked (.zone .z1) = false := by decide +kernel
/-- Zones that drop at once, may ramp down, follow modifier 1, and are locked. -/
theorem witness_AllocationKeepsTheBudget_output :
    [ZoneId.z1, .z5, .z2, .z4, .z3] = [.z1, .z5] ++ .z2 :: [.z4, .z3] ∧
      ((portalAt .warning false ⟨true, false, true, false, false⟩).plant.portals.pe.seq = .warning ∧
        (portalAt .warning false ⟨true, false, true, false, false⟩).plant.source (.zone .z1) = .automatic) ∧
      (withTable [ord 1 .panel 3 (.zone .z1) .lockout .lock none none none] ready).plant.locked (.zone .z1) = true ∧
      (let cut := { running.env with cfg := { running.env.cfg with supply := { running.env.cfg.supply with grid := 322 } } }
       let z := (lampPass cut running.plant).zones.z1
       z.allowance < z.comp) ∧
      (let s := setZone .z1 { running.plant.zones.z1 with output := 100 } (withTable [ord 1 .panel 3 (.zone .z1) .overriding .level (some 50) none none] running)
       let z := (lampPass s.env s.plant).zones.z1
       z.allowance = z.comp ∧ z.output = 100 ∧ z.ramp = .down) := by decide +kernel
theorem witness_TargetsFollowTheirSources :
    (settle ready).plant.source (.zone .z1) = .automatic ∧ (settle inHand).plant.source (.zone .z1) = .hand ∧
      (settle (withTable [ord 1 .panel 3 (.zone .z1) .lockout .lock none none none] ready)).plant.source (.zone .z1) = .lock ∧
      (let s := settle ordered
       s.plant.source (.zone .z3) = .order ∧ (governingOrder ordered.env s.plant (.zone .z3)).map Order.arg = some (some 60)) := by
  decide +kernel
theorem witness_LightingEventsAct :
    20 ≤ 20 ∧ 4090 ≤ 4090 ∧ 4090 < 4091 ∧ (daylight.env.windows.get .east).lost = false ∧
      (daylight.env.windows.get .east).loss = .since 0 ∧ 60000 ≤ (later 60000 daylight).env.clock - 0 ∧
      (20 ≤ (steady.plant.zones.get .z1).output ∧ 5000 ≤ steady.env.clock - (steady.plant.zones.get .z1).steadySince) ∧
      ready.env.clock - (ready.plant.zones.get .z1).steadySince < 5000 ∧
      ((ramping.plant.zones.get .z1).ramp = .up ∧ (ramping.plant.zones.get .z1).output < 89 ∧
        ramping.plant.zones.z1.step = .since 0 ∧
        1000 * (ramping.plant.zones.z1.steps + 1) ≤ ((later 200 ramping).env.clock - 0) * ramping.env.cfg.zones.z1.rampUp) ∧
      (let q : Zone := { freshZone with output := 80, comp := 74, allowance := 100, ramp := .down, step := .since 0 }
       q.ramp = .down ∧ min q.comp q.allowance < q.output ∧ 1000 * (q.steps + 1) ≤ (500 - 0) * ready.env.cfg.zones.z1.rampDown) := by
  decide +kernel
theorem witness_SetLuminanceConfigChecksAndActs :
    (ready.port .panel).slot = .empty ∧ (saving.port .panel).slot = .empty ∧ saving.store.state = .saving ∧ word 0x03 0xE8 = 1000 ∧
      word 0x4E 0x20 = 20000 ∧ ¬(1000 ≤ word 0x03 0xE7) ∧ (ready.env.windows.get .east).samples = [] ∧
      (ready.env.cfg.zones.get .z1).side = .east ∧ (ready.env.cfg.zones.get .z1).role = .threshold := by decide +kernel
/-- PE is HELD, from CLEARING, its clear-confirm time paused at 3 s. -/
def heldClearing : State :=
  setPortal .pe { freshPortal .held with resume := some .clearing, confirm := .held 3000, limit := .held 9000 }
    (portalAt .held false ⟨true, false, false, true, false⟩)
theorem witness_PortalTimersAct :
    let v : PortalPins := ⟨false, false, false, true, false⟩
    let c := served.portals.pe
    ((portalAt .warning false v).plant.portals.pe.warn = .since 0 ∧ 1000 * c.warningTime ≤ 30000) ∧
      ((portalAt .sealing true v).plant.portals.pe.travel = .since 0 ∧ (portalAt .sealing true v).plant.portals.pe.permit = true ∧
        1000 * c.gateTravel ≤ 120000) ∧
      (handDriven.plant.portals.pe.seq = .hand ∧ handDriven.plant.portals.pe.motion = .gateClosing ∧
        handDriven.plant.portals.pe.permit = true ∧ handDriven.plant.portals.pe.travel = .since 0 ∧
        handDriven.env.cfg.portalService.pe = .inHand) ∧
      ((portalAt .clearing false v).plant.portals.pe.limit = .since 0 ∧ (portalAt .clearing false v).plant.portals.pe.overdue = false ∧
        1000 * c.clearLimit ≤ 300000) ∧
      (let q := { freshPortal .clearing with confirm := .since 0 }
       q.seq = .clearing ∧ q.confirm = .since 0 ∧ 1000 * c.clearConfirm ≤ 15000) ∧
      (let q := { freshPortal .sealing with retry := .since 0 }
       q.seq = .sealing ∧ q.retry = .since 0 ∧ 1000 * c.retryDelay ≤ 5000) ∧
      heldClearing.plant.portals.pe.resume = some .clearing := by decide +kernel
/-- R133: the portal that leaves HELD for CLEARING counts on from the 3 s and the 9 s at which its timers were paused. -/
theorem test_held_clearing_counts_on :
    let q := (leaveHeld { heldClearing.env with clock := 50000 } .pe heldClearing.plant).portals.pe
    q.seq = .clearing ∧ q.confirm = .since 47000 ∧ q.limit = .since 41000 := by decide +kernel
theorem witness_PortalInputsAct :
    let s := portalAt .sealing true ⟨false, false, false, true, false⟩
    (s.env.portalPins .pe).gateClosed ≠ true ∧ (s.env.portalPins .pe).gateOpen = false ∧ s.plant.portals.pe.seq = .sealing ∧
      s.plant.portals.pe.permit = true ∧ (s.env.portalPins .pe).edge ≠ true ∧
      (portalAt .barring true ⟨true, false, false, false, false⟩).plant.portals.pe.seq = .barring ∧
      (portalAt .unsealing true ⟨false, false, false, true, false⟩).plant.portals.pe.seq = .unsealing ∧
      (portalAt .lifting true ⟨true, false, false, false, false⟩).plant.portals.pe.permit = true ∧
      (s.plant.portals.get .pe).retries < (s.env.cfg.portals.get .pe).retryCount ∧
      (s.env.cfg.portals.get .pe).retryCount ≤ { freshPortal .sealing with retries := 3 }.retries ∧ s.env.pins.loops.l1 ≠ true ∧
      s.plant.portals.pw.seq ≠ .clearing ∧ s.plant.portals.pw.seq ≠ .held ∧ handDriven.plant.portals.pe.seq = .hand ∧
      heldClearing.plant.portals.pe.seq = .held ∧ heldClearing.plant.portals.pe.confirm ≠ .stopped := by decide +kernel
/-- The premises of the demand, the reversals and settling. -/
theorem witness_PortalInputsAct_demand :
    (∀ q ∈ [Seq.open, .warning, .barring, .clearing, .sealing, .sealed, .unsealing, .lifting, .unsettled, .held, .jammed],
      let s := portalAt q false ⟨true, false, false, true, false⟩
      s.env.cfg.portalService.get .pe = .inService ∧ s.plant.locked (.portal .pe) = false ∧ s.plant.portals.pe.seq = q) ∧
      (let q := { freshPortal .clearing with overdue := true }
       q.overdue = true ∧ { flooded.env with underpass := 4 }.underpass = 4) ∧
      (let v := (portalAt .lifting true ⟨true, false, false, false, false⟩).env.portalPins .pe
       v.gateOpen = true ∧ v.barrierRaised = false ∧ v.barrierLowered = false) ∧
      (let v := (portalAt .sealing true ⟨false, false, false, true, false⟩).env.portalPins .pe
       v.gateOpen = false ∧ v.barrierLowered = true ∧ v.gateClosed = false ∧ v.edge = false) ∧
      (jammed.plant.portals.pe.jam ≠ none ∧ heldClearing.plant.portals.pe.jam = none ∧ heldClearing.plant.portals.pe.resume ≠ none) ∧
      ready.plant.portals.pe.jam = none ∧ ready.plant.portals.pe.seq ≠ .held := by decide +kernel
/-- Pins under which a step's target limit is active at its entry (R119), and those of log 26 and log 27. -/
theorem witness_PortalInputsAct_entry :
    let v := fun w : PortalPins => (portalAt .sealing true w).env.portalPins .pe
    (v ⟨true, false, false, true, false⟩).barrierLowered = true ∧
      ((v ⟨false, true, false, true, false⟩).barrierLowered = true ∧ (v ⟨false, true, false, true, false⟩).gateClosed = true) ∧
      ((v ⟨true, false, true, false, false⟩).gateOpen = true ∧ (v ⟨true, false, true, false, false⟩).barrierRaised = true) ∧
      ((v ⟨false, false, false, true, true⟩).edge = true ∧ (v ⟨false, false, false, true, true⟩).gateClosed = false ∧
        (portalAt .sealing true ⟨false, false, false, true, true⟩).plant.portals.pe.permit = true) := by decide +kernel
/-- R118: with the stage at 3 and no order, an OPEN portal in service has the demand CLOSE and enters WARNING. -/
theorem test_demand_close_enters_warning :
    let s := portalAt .open false ⟨true, false, true, false, false⟩
    (applyDemand s.env .pe s.plant).portals.pe.seq = .warning := by decide +kernel
theorem witness_AlertRequestsAct :
    (alerted.port .field).slot = .empty ∧ alerted.store.state ≠ .saving ∧ (alerted.changes .field).timer = .since 0 ∧
      1000 * alerted.env.cfg.reporting.field.moderation ≤ (later 5000 alerted).env.clock - 0 ∧
      Cause.every.filter (fun c => c.latched && c.isIn ((0x00 : Byte) ++ (0x10 : Byte)) && c.isIn alerted.plant.attn.present) = [.pumpFault] := by
  decide +kernel
/-- A report that finds its entry, one that joins, and a 65th. -/
theorem witness_ChangeRequestsAct_take :
    let one : ChangedSet := ⟨[⟨.plant, none⟩], false, .since 0⟩
    let whole : ChangedSet := ⟨(List.range 64).map (fun n => ⟨.order (n + 1), none⟩), false, .since 0⟩
    (∃ x ∈ one.entries, x.key = .plant) ∧ (∀ x ∈ one.entries, x.key ≠ .order 7) ∧ (∀ x ∈ whole.entries, x.key ≠ .plant) ∧
      whole.entries.length = 64 := by decide +kernel
theorem witness_ChangeRequestsAct :
    (alerted.port .panel).slot = .empty ∧ (64 : Byte).toNat ≤ 64 ∧ 64 < (65 : Byte).toNat ∧ saving.store.state = .saving ∧
      (saving.port .field).slot = .empty ∧ alerted.store.state ≠ .saving ∧
      (1 ≤ (64 : Byte).toNat ∧ 1 ≤ (60 : Byte).toNat ∧ (60 : Byte).toNat ≤ 60 ∧ (2 : Byte) = 2) ∧ ¬((61 : Byte).toNat ≤ 60) := by
  decide +kernel

end Sys2Proof.Tests
end

/-! LIST ORDERS (R20): what the codes of its filter name, what its owner answers, and the reply that the port then holds. -/

namespace Sys2Proof

/-- Every unit has an id of 1 .. 17 (0.5). -/
theorem UnitId.number_range (u : UnitId) : 1 ≤ u.number ∧ u.number ≤ 17 := by
  cases u with
  | pump i => cases i <;> decide
  | portal i => cases i <;> decide
  | zone z => cases z <;> decide
  | outfall => decide

end Sys2Proof

namespace Sys2Proof.Machine

/-! ### The codes of a filter (R172) -/

theorem unitOf_of_number {b : Byte} {u : UnitId} (h : u.number = b.toNat) : unitOf b = some u := by
  rw [unitOf, ← h, UnitId.ofNumber_number]

theorem unitOf_eq_none {b : Byte} (h : ¬(1 ≤ b.toNat ∧ b.toNat ≤ 17)) : unitOf b = none := by
  refine List.find?_eq_none.mpr fun u _ hu => h ?_
  rw [← beq_iff_eq.mp hu]
  exact u.number_range

theorem issuerOf_of_code {b : Byte} {i : Issuer} (h : i.code = b.toNat) : issuerOf b = some i := by
  cases i <;> simp only [issuerOf, ← h, Issuer.code]

theorem issuerOf_eq_none {b : Byte} (h : ¬(1 ≤ b.toNat ∧ b.toNat ≤ 3)) : issuerOf b = none := by
  simp only [issuerOf]
  split
  next => omega
  next => omega
  next => omega
  next => rfl

/-! ### What the owner answers (R20) -/

section Answers
variable {kind value start : Byte} {body : List Byte} (s : State)

theorem handleList_badLength (h : body.length ≠ 3) : handleList body s = (s, .refuse .badLength) := by
  simp only [handleList]
  split
  · exact absurd rfl h
  · rfl

/-- A filter kind that is not ALL, UNIT or ISSUER is refused. -/
theorem handleList_unlistedKind (h : ¬(kind = 1 ∨ kind = 2 ∨ kind = 3)) :
    handleList [kind, value, start] s = (s, .refuse .badField) := by
  simp only [handleList]
  split
  next e => exact absurd (.inl (BitVec.eq_of_toNat_eq e)) h
  next e => exact absurd (.inr (.inl (BitVec.eq_of_toNat_eq e))) h
  next e => exact absurd (.inr (.inr (BitVec.eq_of_toNat_eq e))) h
  next => rfl

/-- ALL takes every order of the table. -/
theorem handleList_all :
    handleList [1, value, start] s = (s, .done (listPayload s.env.clock (s.env.table.filter fun _ => true) start.toNat)) := rfl

/-- UNIT takes the orders for the unit it names. -/
theorem handleList_unit {u : UnitId} (h : unitOf value = some u) :
    handleList [2, value, start] s =
      (s, .done (listPayload s.env.clock (s.env.table.filter fun o => o.unit == u) start.toNat)) := by
  simp [handleList, h]

theorem handleList_noSuchUnit (h : unitOf value = none) :
    handleList [2, value, start] s = (s, .refuse .noSuchUnit) := by
  simp [handleList, h]

/-- ISSUER takes the orders of the issuer it names. -/
theorem handleList_issuer {i : Issuer} (h : issuerOf value = some i) :
    handleList [3, value, start] s =
      (s, .done (listPayload s.env.clock (s.env.table.filter fun o => o.issuer == i) start.toNat)) := by
  simp [handleList, h]

theorem handleList_noSuchIssuer (h : issuerOf value = none) :
    handleList [3, value, start] s = (s, .refuse .badField) := by
  simp [handleList, h]

end Answers

/-- FFh stands for an absent one-byte quantity (R170). -/
theorem byteOnes_ite (p : Prop) [Decidable p] (n : Nat) :
    byteOnes (if p then some n else none) = [if p then BitVec.ofNat 8 n else 0xFF] := by
  split <;> rfl

/-- The payload byte by byte: the count, the next index or FFh, the number returned, and the records (R172). -/
theorem listPayload_eq (now : Nat) (hits : List Order) (start : Nat) :
    let shown := (hits.drop start).take 8
    let next := start + shown.length
    listPayload now hits start =
      [BitVec.ofNat 8 hits.length, if next < hits.length then BitVec.ofNat 8 next else 0xFF, BitVec.ofNat 8 shown.length] ++
        (shown.map (orderBytes now)).flatten := by
  simp only [listPayload, byteOnes_ite]
  rfl

/-! ### The reply -/

/-- A list request that an EMPTY slot takes leaves its reply and changes nothing else (R161). -/
theorem exec_listOrders_replied {l : Link} {tag : Byte} {s : State} (hs : (s.port l).slot = .empty) {body payload : List Byte}
    {c : Code} (h : handleList body s = (s, .now c payload)) :
    exec (.listOrders l tag body) s = .next (replied l 0x05 tag c payload s) := by
  change Host.Outcome.next (takeRequest l 0x05 tag (handleList body) s) = _
  rw [takeRequest_empty hs, h]
  rfl

/-- Settles O19: each body is answered by its own clause of `handleList`, and the port holds that answer. -/
theorem listOrdersWalksTheTable : Obligations.ListOrdersWalksTheTable := by
  intro l tag s hs
  refine ⟨fun body hb => exec_listOrders_replied hs (handleList_badLength s hb), fun kind value start => ⟨?_, ?_, ?_⟩⟩
  · rintro rfl hv
    exact exec_listOrders_replied hs (handleList_noSuchUnit s (unitOf_eq_none hv))
  · rintro (hk | ⟨rfl, hv⟩)
    · exact exec_listOrders_replied hs (handleList_unlistedKind s hk)
    · exact exec_listOrders_replied hs (handleList_noSuchIssuer s (issuerOf_eq_none hv))
  · intro sel hsel
    refine exec_listOrders_replied hs (Eq.trans ?_ (congrArg (fun p => (s, Answer.done p)) (listPayload_eq _ _ _)))
    obtain ⟨rfl, all⟩ | ⟨rfl, u, hu, ofUnit⟩ | ⟨rfl, i, hi, ofIssuer⟩ := hsel
    · rw [handleList_all, funext all]
    · rw [handleList_unit s (unitOf_of_number hu), funext ofUnit]
      simp only [beq_eq_decide]
    · rw [handleList_issuer s (issuerOf_of_code hi), funext ofIssuer]
      simp only [beq_eq_decide]

end Sys2Proof.Machine

/-! SUMP MEASUREMENT (R52, R57): what a sample event leaves in the section's record, how a count is scaled, and how far the filter moves
F towards a level. -/

namespace Sys2Proof.Machine

/-! ### What the parts of a sample event keep -/

section Sampling
variable (now : Nat) (st : Staging) (m : Section)

/-- An evaluation writes the stage, the hold, the candidate and the conflict condition, and nothing else (R61 to R64, R67). -/
theorem evaluate_keeps :
    { evaluate now st m with stage := m.stage, hold := m.hold, candidate := m.candidate, conflict := m.conflict } = m := by
  obtain ⟨_, h⟩ | ⟨_, _, _, _, h⟩ | ⟨_, _, h⟩ := evaluate_cases now st m <;> rw [h]

@[simp] theorem evaluate_last : (evaluate now st m).last = m.last := (congrArg Section.last (evaluate_keeps now st m) :)
@[simp] theorem evaluate_mode : (evaluate now st m).mode = m.mode := (congrArg Section.mode (evaluate_keeps now st m) :)
@[simp] theorem evaluate_level : (evaluate now st m).level = m.level := (congrArg Section.level (evaluate_keeps now st m) :)
@[simp] theorem evaluate_level10 : (evaluate now st m).level10 = m.level10 :=
  (congrArg Section.level10 (evaluate_keeps now st m) :)
@[simp] theorem evaluate_rateCount : (evaluate now st m).rateCount = m.rateCount :=
  (congrArg Section.rateCount (evaluate_keeps now st m) :)

/-- What the vote keeps of a section, and the modes it leaves when the sample yields a level (R53 to R56). -/
structure Voted (m : Section) (v : Section × Option Nat) : Prop where
  last : v.1.last = m.last
  level : v.1.level = m.level
  level10 : v.1.level10 = m.level10
  rateCount : v.1.rateCount = m.rateCount
  mode : ∀ L, v.2 = some L → v.1.mode = .dual ∨ v.1.mode = .corrected ∨ v.1.mode = .single

theorem votePair_voted (d a b : Nat) : Voted m (votePair d a b m) := by
  simp only [votePair]
  split
  · exact ⟨rfl, rfl, rfl, rfl, fun _ _ => .inl rfl⟩
  · split
    · exact ⟨rfl, rfl, rfl, rfl, nofun⟩
    · exact ⟨rfl, rfl, rfl, rfl, fun _ _ => .inr (.inl rfl)⟩

theorem voteNeither_voted : Voted m (voteNeither m, none) := by
  simp only [voteNeither]
  split <;> exact ⟨rfl, rfl, rfl, rfl, nofun⟩

theorem vote_voted (d : Nat) (x : Sample) : Voted m (vote d x m) := by
  simp only [vote]
  split
  · exact ⟨rfl, rfl, rfl, rfl, nofun⟩
  · split
    · exact votePair_voted m d _ _
    · exact ⟨rfl, rfl, rfl, rfl, fun _ _ => .inr (.inr rfl)⟩
    · exact ⟨rfl, rfl, rfl, rfl, fun _ _ => .inr (.inr rfl)⟩
    · exact voteNeither_voted m

/-- The vote works out a sample's level without reading the record of the last sample, which is written before it (R51). -/
theorem vote_withLast (d : Nat) (x : Sample) (y : Option Sample) : (vote d x { m with last := y }).2 = (vote d x m).2 := by
  simp only [vote, votePair]
  repeat' split
  all_goals rfl

@[simp] theorem followLevel_last (w L f : Nat) (endsFloat : Bool) : (followLevel w L f endsFloat m).last = m.last := by
  simp only [followLevel]
  repeat' split
  all_goals rfl

/-- Every level after the seed is filtered into F, at a rate instant and between two of them alike (R57, R58). -/
@[simp] theorem followLevel_level (w L f : Nat) (endsFloat : Bool) :
    (followLevel w L f endsFloat m).level = some (filterLevel w L f) := by
  simp only [followLevel]
  repeat' split
  all_goals rfl

@[simp] theorem takeLevel_last (L : Nat) (endsFloat : Bool) : (takeLevel st L endsFloat m).last = m.last := by
  simp only [takeLevel]
  split
  · rfl
  · exact followLevel_last ..

/-- The seed writes F and the forecast, and is no rate instant (R57, R59). -/
theorem takeLevel_seed (L : Nat) (endsFloat : Bool) (h : m.level = none) :
    takeLevel st L endsFloat m = { m with level := some L, forecast := forecastTo st.t3 m.rate L } := by
  simp [takeLevel, h]

/-- A level after the seed is filtered (R57). -/
theorem takeLevel_filters (L : Nat) (endsFloat : Bool) {f : Nat} (h : m.level = some f) :
    (takeLevel st L endsFloat m).level = some (filterLevel st.w L f) := by
  simp [takeLevel, h]

end Sampling

/-! ### What a sample event leaves in the section's record (R51) -/

section Event
variable (u : SumpId) (a b : Nat) (s : State)

@[simp] theorem latchSump_env : (latchSump u s).env = s.env := by simp only [latchSump]; split <;> rfl

/-- A sample event always answers, and its section is the one that `sampleSection` gives: neither the hand-on nor the rest of the plant
writes it again. -/
theorem exec_sumpSample : ∃ t, exec (.sumpSample u a b) s = .next t ∧
    t.env.sumps.get u = (sampleSection s.env.clock (s.env.cfg.sumps.get u) a b (s.env.sumps.get u)).1 := by
  refine ⟨_, rfl, ?_⟩
  obtain ⟨_, _, _, _, hsumps, _⟩ :=
    takeSection_frame u (sampleSection s.env.clock (s.env.cfg.sumps.get u) a b (s.env.sumps.get u)).1 s
  rw [settle_env]
  split <;> simp [hsumps]

variable {u a b s} in
theorem sump_of_sumpSample {t : State} (h : exec (.sumpSample u a b) s = .next t) :
    t.env.sumps.get u = (sampleSection s.env.clock (s.env.cfg.sumps.get u) a b (s.env.sumps.get u)).1 := by
  obtain ⟨t', ht', hsump⟩ := exec_sumpSample u a b s
  cases h.symm.trans ht'
  exact hsump

variable (now : Nat) (c : SumpCfg) (m : Section)

/-- The section records the sample whether or not the vote makes a level of it (R52). -/
theorem sampleSection_last : (sampleSection now c a b m).1.last = some (sampleOf c.calibration a b) := by
  have hvote := (vote_voted { m with last := some (sampleOf c.calibration a b) } c.calibration.d (sampleOf c.calibration a b)).last
  simp only [sampleSection, evaluate_last]
  split
  · rw [takeLevel_last, hvote]
  · exact hvote

/-- A sample that yields a level gives it to the filter, on the section that the vote leaves (R51). -/
theorem sampleSection_takesLevel {L : Nat} (h : (vote c.calibration.d (sampleOf c.calibration a b) m).2 = some L) :
    ∃ v : Section, Voted { m with last := some (sampleOf c.calibration a b) } (v, some L) ∧
      (sampleSection now c a b m).1 = evaluate now c.staging (takeLevel c.staging L (m.mode == .float) v) := by
  obtain ⟨v, hv⟩ : ∃ v, vote c.calibration.d (sampleOf c.calibration a b)
      { m with last := some (sampleOf c.calibration a b) } = (v, some L) :=
    ⟨_, Prod.ext rfl ((vote_withLast m _ _ _).trans h)⟩
  exact ⟨v, hv ▸ vote_voted _ _ _, by simp only [sampleSection, hv]⟩

end Event

/-! ### Scaling (R52) -/

/-- The level of a count, with the negative difference and the bounds of validity written out. -/
theorem levelOfCount_eq (z k count : Nat) :
    levelOfCount z k count =
      if 205 ≤ count ∧ count ≤ 4060 then some (if count < z then 0 else min 9999 ((count - z) * k / 1024)) else none := by
  have hscale : scaleCount z k count = if count < z then 0 else min 9999 ((count - z) * k / 1024) := by
    rw [scaleCount]
    split
    next h => simp [Nat.sub_eq_zero_of_le h.le]
    next => rfl
  simp [levelOfCount, countValid, hscale]

/-- Settles O28: the event's section holds the sample of the two counts, and a sample's levels are scaled counts. -/
theorem sampleIsScaledAndRecorded : Obligations.SampleIsScaledAndRecorded := by
  refine ⟨fun u a b s => ?_, by decide, by decide, rfl, rfl⟩
  obtain ⟨t, ht, hsump⟩ := exec_sumpSample u a b s
  refine ⟨t, ht, ?_⟩
  rw [hsump, sampleSection_last, sampleOf, levelOfCount_eq, levelOfCount_eq]

/-! ### The filter (R57) -/

section Filter
variable {w L f : Nat}

/-- Towards a level above it F moves up by the rounded sixteenths of the difference. -/
theorem filterStep_rise (h : f ≤ L) : filterStep w L f = (((L - f) * w + 8) / 16 : Nat) := by
  have hd : ((L : Int) - f) * w = ((L - f) * w : Nat) := by rw [Nat.cast_mul, Nat.cast_sub h]
  simp only [filterStep, hd]
  generalize (L - f) * w = d
  obtain rfl | hpos := d.eq_zero_or_pos
  · rfl
  · rw [if_pos (by omega), Int.tdiv_eq_ediv_of_nonneg (by omega)]
    omega

/-- Towards a level below it F moves down by as much. -/
theorem filterStep_fall (h : L ≤ f) : filterStep w L f = -(((f - L) * w + 8) / 16 : Nat) := by
  have hd : ((L : Int) - f) * w = -((f - L) * w : Nat) := by rw [Nat.cast_mul, Nat.cast_sub h]; ring
  simp only [filterStep, hd]
  generalize (f - L) * w = d
  obtain rfl | hpos := d.eq_zero_or_pos
  · rfl
  · rw [if_neg (by omega), if_pos (by omega), show -(d : Int) - 8 = -(d + 8) by ring, Int.neg_tdiv,
      Int.tdiv_eq_ediv_of_nonneg (by omega)]
    omega

theorem filterLevel_rise (h : f ≤ L) : filterLevel w L f = min 9999 (f + ((L - f) * w + 8) / 16) := by
  rw [filterLevel, filterStep_rise h]
  omega

theorem filterLevel_fall (h : L ≤ f) : filterLevel w L f = min 9999 (f - ((f - L) * w + 8) / 16) := by
  rw [filterLevel, filterStep_fall h]
  omega

/-- A weight of at most 16 moves F by at most the whole difference: this is why F never passes L. -/
theorem roundedShare_le (hw : w ≤ 16) (d : Nat) : (d * w + 8) / 16 ≤ d := by
  have := Nat.mul_le_mul_left d hw
  omega

/-- F and the level it moves to bound the filtered level, so that the clamp is not reached from inside the range. -/
theorem filterLevel_between (hw : w ≤ 16) (hL : L ≤ 9999) (hf : f ≤ 9999) :
    (filterLevel w L f : Int) = f + filterStep w L f ∧ min L f ≤ filterLevel w L f ∧ filterLevel w L f ≤ max L f := by
  obtain h | h := Nat.le_total f L
  · have := roundedShare_le hw (L - f)
    rw [filterLevel_rise h, filterStep_rise h]
    omega
  · have := roundedShare_le hw (f - L)
    rw [filterLevel_fall h, filterStep_fall h]
    omega

/-- The two roundings of steps 2 and 3 as one division. -/
theorem filterStep_eq_tdiv (w L f : Nat) :
    let d : Int := ((L : Int) - f) * w
    filterStep w L f = (if 0 < d then d + 8 else if d < 0 then d - 8 else d).tdiv 16 := by
  simp only [filterStep]
  split
  · rfl
  · split
    · rfl
    · rw [show ((L : Int) - f) * w = 0 by omega, Int.zero_tdiv]

/-- With the default weight 4, a difference of 1 mm moves F by nothing and one of 2 mm by 1 mm. -/
theorem filterLevel_deadBand (f : Nat) :
    filterLevel 4 (f + 1) f = min 9999 f ∧ (f + 2 ≤ 9999 → filterLevel 4 (f + 2) f = f + 1) ∧
      (f + 1 ≤ 9999 → filterLevel 4 f (f + 1) = f + 1) ∧ (f + 2 ≤ 9999 → filterLevel 4 f (f + 2) = f + 1) := by
  rw [filterLevel_rise (by omega), filterLevel_rise (by omega), filterLevel_fall (by omega), filterLevel_fall (by omega)]
  omega

/-- With the weight 16, F takes the level at once. -/
theorem filterLevel_sixteen (hL : L ≤ 9999) : filterLevel 16 L f = L := by
  obtain h | h := Nat.le_total f L
  · rw [filterLevel_rise h]; omega
  · rw [filterLevel_fall h]; omega

end Filter

/-- Settles O30: the section that the vote leaves takes the sample's level, as a seed or through the filter, and the filter's step lies
between 0 and the difference. -/
theorem filterFollowsTheLevel : Obligations.FilterFollowsTheLevel := by
  refine ⟨fun u a b s t L ht => ?_, fun w L f _ hw hL hf => ?_, filterLevel_deadBand, fun L f => filterLevel_sixteen⟩
  · intro c m m' hL
    obtain ⟨v, hv, hsample⟩ := sampleSection_takesLevel a b s.env.clock c m hL
    have hm' : m' = evaluate s.env.clock c.staging (takeLevel c.staging L (m.mode == .float) v) :=
      (sump_of_sumpSample ht).trans hsample
    refine ⟨fun hnone => ?_, fun f hsome => ?_⟩
    · rw [hm', takeLevel_seed _ v _ _ (hv.level.trans hnone)]
      simpa using ⟨hv.rateCount, hv.level10, hv.mode L rfl⟩
    · rw [hm', evaluate_level, takeLevel_filters _ v _ _ (hv.level.trans hsome)]
  · obtain ⟨hstep, hlow, hhigh⟩ := filterLevel_between hw hL hf
    intro d r
    exact ⟨filterStep_eq_tdiv w L f ▸ hstep, hlow, hhigh, by omega⟩

end Sys2Proof.Machine

/-! What a step can do to the environment, the plant and the store, said once: `Event` lists what an event does before the plant's blocks
act on it, `Act` every accepted command with what its checks have established, and `step_keeps` makes an invariant of whatever each of
them keeps. -/

namespace Sys2Proof.Machine

/-- The same environment, plant and store: only the waiting commands and the links differ. -/
def SameCore (s t : State) : Prop := ∃ pending links, t = { s with pending := pending, links := links }

theorem SameCore.refl (s : State) : SameCore s s := ⟨_, _, rfl⟩

theorem SameCore.trans {a b c : State} : SameCore a b → SameCore b c → SameCore a c := by
  rintro ⟨_, _, rfl⟩ ⟨_, _, rfl⟩
  exact ⟨_, _, rfl⟩

/-- Only the links differ. -/
def Relinked (s t : State) : Prop := ∃ links, t = { s with links := links }

theorem Relinked.refl (s : State) : Relinked s s := ⟨_, rfl⟩

theorem Relinked.trans {a b c : State} : Relinked a b → Relinked b c → Relinked a c := by
  rintro ⟨_, rfl⟩ ⟨_, rfl⟩
  exact ⟨_, rfl⟩

theorem Relinked.sameCore {s t : State} : Relinked s t → SameCore s t := fun ⟨_, h⟩ => ⟨_, _, h⟩

theorem putPort_relinked (l : Link) (q : Port) (s : State) : Relinked s (putPort l q s) := ⟨_, rfl⟩

theorem takeUpRate_relinked (s : State) : Relinked s (takeUpRate s) := by
  simp only [takeUpRate]
  split
  · exact ⟨_, rfl⟩
  · exact .refl s

theorem huntAgain_relinked (l : Link) (s : State) : Relinked s (huntAgain l s) := by
  rw [huntAgain_eq]
  exact ⟨_, rfl⟩

theorem dropChar_relinked (l : Link) (s : State) : Relinked s (dropChar l s) := ⟨_, rfl⟩

/-- The plant replaced. -/
def State.withPlant (s : State) (p : Plant) : State := { s with plant := p }

/-- The working configuration replaced. -/
def State.withCfg (s : State) (c : WorkConfig) : State := { s with env := { s.env with cfg := c } }

/-- The pins replaced. -/
def State.withPins (s : State) (v : Inputs) : State := { s with env := { s.env with pins := v } }

/-- What an event of the plant or an accepted request does to the pins, the windows, the settings and the plant before the blocks act
on it; each carries what its condition has established. -/
inductive Event (s : State) : State → Prop where
  | drive (d : Drive) {u : UnitId} {db ab : Byte} (hd : driveOf u db ab = some d) (hlock : s.plant.locked u = false)
      (hhand : serviceOf s.env.cfg u = .inHand) (hready : driveReady s.env s.plant d = true) :
      Event s (s.withPlant (applyDrive s.env d s.plant))
  | resetPump (i : PumpId) (h : (s.plant.pumps.get i).run = .faulted) :
      Event s (s.withPlant (report s.env (.unit (.pump i)) none (resetPump s.env i s.plant)))
  | resetPortal (i : PortalId) (hf : hasFault s.env s.plant (.portal i) = true) (hc : causeGone s.env s.plant (.portal i) = true) :
      Event s (s.withPlant (report s.env (.unit (.portal i)) none (resetPortal s.env i s.plant)))
  | dryRunInput (i : PumpId) (v : Bool) :
      Event s ((putDryRun i v s).withPlant
        (putPump (putDryRun i v s).env i (timeDryRun s.env.clock v (s.plant.pumps.get i)) s.plant))
  | halt (i : PumpId) (k : Stop) (hlive : (s.plant.pumps.get i).live = true) (hk : k ≠ .off) :
      Event s (s.withPlant (haltPump s.env i k s.plant))
  | thermal (i : PumpId) (hlive : (s.plant.pumps.get i).live = true) :
      Event s ((putThermal i true s).withPlant (haltPump (putThermal i true s).env i (.fault .thermal) s.plant))
  | feedback (i : PumpId) (v : Bool) :
      Event s ((putFeedback i v s).withPlant (onFeedback (putFeedback i v s).env i v s.plant))
  | surgeEnd (i : PumpId) (h : surgeDue s.env s.plant i = true) :
      Event s (s.withPlant (putPump s.env i { s.plant.pumps.get i with surge := .stopped } s.plant))
  | minRunEnd (i : PumpId) :
      Event s (s.withPlant (putPump s.env i { s.plant.pumps.get i with minRun := .stopped } s.plant))
  | restEnd (i : PumpId) (h : (s.plant.pumps.get i).run = .resting) :
      Event s (s.withPlant
        (putPump s.env i { s.plant.pumps.get i with run := .stopped, minRest := .stopped, restLength := 0 } s.plant))
  | startEntryEnd (i : PumpId) :
      Event s (s.withPlant
        (putPump s.env i { s.plant.pumps.get i with starts := (s.plant.pumps.get i).starts.drop 1 } s.plant))
  | warningEnd (i : PortalId) (h : (s.plant.portals.get i).seq = .warning) :
      Event s (s.withPlant (toBarring s.env i (.held 0) s.plant))
  | limitChange (i : PortalId) (sw : LimitId) (v : Bool) (h : limitSwitch (s.env.portalPins i) sw ≠ v) :
      Event s ((putPortalPins i (setLimit (s.env.portalPins i) sw v) s).withPlant
        (onLimit (putPortalPins i (setLimit (s.env.portalPins i) sw v) s).env i s.plant))
  | travelEnd (i : PortalId) (h : travelDue s.env s.plant i = true) :
      Event s (s.withPlant (toJammed s.env i .travel s.plant))
  | handTravelEnd (i : PortalId) (h : handTravelDue s.env s.plant i = true) :
      Event s (s.withPlant (endHand s.env i .travel s.plant))
  | loopChange (v : LoopPins) (occupied : Bool) :
      Event s ((s.withPins { s.env.pins with loops := v }).withPlant
        { s.plant with
          portals :=
            ⟨onLoop (s.withPins { s.env.pins with loops := v }).env occupied s.plant.portals.pe,
              onLoop (s.withPins { s.env.pins with loops := v }).env occupied s.plant.portals.pw⟩ })
  | clearConfirmEnd (i : PortalId) (h : (s.plant.portals.get i).seq = .clearing) :
      Event s (s.withPlant (toSealing s.env i (.held 0) s.plant))
  | clearLimitEnd (i : PortalId) (h : (s.plant.portals.get i).seq = .clearing) :
      Event s (s.withPlant (markOverdue s.env i s.plant))
  | edgeOn (i : PortalId) :
      Event s ((putPortalPins i { s.env.portalPins i with edge := true } s).withPlant
        (onEdge (putPortalPins i { s.env.portalPins i with edge := true } s).env i s.plant))
  | edgeOff (i : PortalId) : Event s (putPortalPins i { s.env.portalPins i with edge := false } s)
  | retryEnd (i : PortalId) (h : (s.plant.portals.get i).seq = .sealing) :
      Event s (s.withPlant (retrySealing s.env i s.plant))
  | window (d : Side) (w : Window) : Event s (putWindow d w s)
  | scales (v : PerSide Nat) (w : PerSide Window) :
      Event s { s with env := { s.env with cfg := { s.env.cfg with luminanceScale := v }, windows := w } }
  | portalSettings (i : PortalId) (v : PortalCfg) (h : serviceOf s.env.cfg (.portal i) = .outOfService) (hv : portalCfgFits v = true) :
      Event s (s.withCfg (putSettings (.portal i v) s.env.cfg))

/-- What a step can do to the environment, the plant and the store. -/
inductive Act (s : State) : State → Prop where
  | nothing : Act s s
  -- time and inputs that no block acts on yet
  | tick : Act s { s with env := { s.env with clock := s.env.clock + 1 } }
  | fieldRate (v : BitRate) : Act s (s.withCfg { s.env.cfg with fieldRate := v })
  | keyInput (k : PortalId) (v : Bool) :
      Act s
        { s with
          env :=
            { s.env with
              pins := { s.env.pins with keys := s.env.pins.keys.set k v }
              keys := s.env.keys.set k { s.env.keys.get k with stable := .since s.env.clock } } }
  | floatInput (u : SumpId) (f : FloatId) (v : FloatPins) :
      Act s
        { s with
          env :=
            { s.env with
              pins := { s.env.pins with floats := s.env.pins.floats.set u v }
              sumps :=
                s.env.sumps.set u
                  ((s.env.sumps.get u).setFloat f { (s.env.sumps.get u).float f with stable := .since s.env.clock }) } }
  | thermalInput (i : PumpId) (v : Bool) : Act s (putThermal i v s)
  | supplyInput (g b : Bool) : Act s (s.withPins { s.env.pins with gridOk := g, standbyOk := b })
  -- events that the plant's blocks act on
  | event {t : State} (h : Event s t) : Act s (settle t)
  | deficit (z : ZoneId) (n : Nat) : Act s (s.withPlant (measureDeficit s.env z n s.plant))
  | ramp (z : ZoneId) (h : rampDue s.env s.plant z = true) : Act s (s.withPlant (stepRamp s.env z s.plant))
  | starve (u : UnitId) (h : waitDue s.env s.plant u = true) : Act s (s.withPlant (starve s.env u s.plant))
  -- the supply
  | supplyChange (g b : Bool) (v : Supply) (h : v ≠ s.plant.arb.supply) :
      Act s ((s.withPins { s.env.pins with gridOk := g, standbyOk := b }).withPlant
        (changeSupply (s.withPins { s.env.pins with gridOk := g, standbyOk := b }).env v s.plant))
  | transferEnd (h : transferDue s.env s.plant = true) : Act s (s.withPlant (changeSupply s.env .dark s.plant))
  | spacingEnd : Act s (s.withPlant (endSpacing s.env s.plant))
  | supplyCfg (v : SupplyCfg) (hv : supplyCfgFits v = true) (hs : shedsFit s.env.cfg v = true) (hb : budgetHolds s.env s.plant v = true) :
      Act s (takeSupplyCfg v s)
  -- the Attention Unit
  | acknowledge (w : Word16) :
      Act s (s.withPlant { s.plant with attn := s.plant.attn.acknowledge s.env.clock s.env.cfg.masks w })
  | masks (w : Word16) : Act s (takeMasks w s)
  | afterRead (l : Link) (b : Bool) : Act s (putSet l ((s.changes l).afterRead b) s)
  | clearChanges (l : Link) (n : Nat) : Act s (putSet l ((s.changes l).dropOldest n) s)
  | reporting (l : Link) (r : Reporting) : Act s (takeReporting l r s)
  | moderation (l : Link) (h : moderationDue s.env s.plant l = true) : Act s (putSet l { s.changes l with timer := .ranOut } s)
  -- the store and start-up
  | save (h : notSaving s = true) : Act s (putStore (s.store.ask (.image s.env.cfg)) s)
  | restart : Act s { s with store := { s.store with restarting := true } }
  | writeEnd (how : WriteEnd) : Act s (noteFailure how (putStore (s.store.endWrite how) s))
  | boot (pins : Inputs) (cut : Bool) (b : BootIn) : Act s (bootState pins b (s.store.cut cut) s.pending s.links.lines)
  -- the order table
  | place (l : Link) (w : Wish) (h : firstFailure (placeChecks l w s) = none) : Act s (settle (placeOrder l w s))
  | amend (l : Link) (mask : Byte) (m : Marks) (r : Rank) (v : Verb) (o : Order) (ho : o ∈ s.env.table)
      (howner : o.issuer = issuerOfLink l)
      (h : firstFailure (amendChecks l mask m o (amended s.env.clock m r v o) s) = none) :
      Act s (acceptAmend m o (amended s.env.clock m r v o) s).1
  | withdraw (o : Order) (ho : o ∈ s.env.table) (hk : o.issuer ≠ .key) : Act s (acceptWithdraw o s).1
  | authority (body : List Byte) (k : Link) (m : AuthorityMap) (h : readAuthority body = some (k, m)) : Act s (acceptAuthority k m s)
  | orderExpiry (o : Order) (ho : o ∈ s.env.table) (hd : orderDue s.env o = true) :
      Act s (settle (resolve [o.unit] (removeOrders (fun x => x.number == o.number) .expired s)))
  | keyOn (k : PortalId) (h : keyDue s.env k = true) (hp : s.env.pins.keys.get k = true) :
      Act s (settle (resolve [.portal k]
        (joinTable .key (keyHolder k) (.portal k) .overriding .close none none none (setKey k true s))))
  | keyOff (k : PortalId) :
      Act s (settle (resolve [.portal k]
        (removeOrders (fun o => o.issuer == .key && o.holder == keyHolder k) .withdrawn (setKey k false s))))
  -- the units
  | service (u : UnitId) (v : Service) (hu : u ≠ .outfall) (h : serviceOf s.env.cfg u ≠ v) : Act s (changeService u v s)
  | pumpSettings (i : PumpId) (v : PumpCfg) (h : serviceOf s.env.cfg (.pump i) = .outOfService)
      (hv : settingsFit s.env.cfg (.pump i v) = true) : Act s (settle (takePumpCfg i v s))
  | zoneSettings (z : ZoneId) (v : ZoneCfg) (h : serviceOf s.env.cfg (.zone z) = .outOfService)
      (hv : settingsFit s.env.cfg (.zone z v) = true) : Act s (settle (takeZoneCfg z v s))
  -- the sumps
  | sample (u : SumpId) (a b : Nat) :
      Act s (settle
        (if (sampleSection s.env.clock (s.env.cfg.sumps.get u) a b (s.env.sumps.get u)).2 then
          latchSump u (takeSection u (sampleSection s.env.clock (s.env.cfg.sumps.get u) a b (s.env.sumps.get u)).1 s)
        else takeSection u (sampleSection s.env.clock (s.env.cfg.sumps.get u) a b (s.env.sumps.get u)).1 s))
  | floatEnd (u : SumpId) (f : FloatId) (v : FloatState) :
      Act s (settle (takeSection u
        (evaluate s.env.clock (s.env.cfg.sumps.get u).staging ((s.env.sumps.get u).setFloat f v)) s))
  | holdEnd (u : SumpId) : Act s (settle (takeSection u (stepDown (s.env.sumps.get u)) s))
  | group (u : SumpId) (n : Nat) (body : List Byte) (g : Group) (hg : readGroup n body = some g) (hf : groupFits g = true) :
      Act s (takeGroup u g s)
  | restartSection (u : SumpId) : Act s (settle (restartSump u s))
  | ring (u : SumpId) (l : List PumpId) (h : l.isPerm (s.env.ring u) = true) : Act s (takeRing u l s)

/-- The state after a command, up to the links, is one that an act leaves. -/
def Acted (s t : State) : Prop := ∃ s', Act s s' ∧ Relinked s' t

theorem Acted.of {s t : State} (h : Act s t) : Acted s t := ⟨t, h, .refl t⟩

theorem Acted.same {s t : State} (h : Relinked s t) : Acted s t := ⟨s, .nothing, h⟩

theorem Acted.nothing (s : State) : Acted s s := .of .nothing

/-! ### Requests -/

section Requests
variable {s : State} {l : Link} {body : List Byte}

/-- Whatever a request's owner does, the port adds its reply alone (R161). -/
theorem takeRequest_acted {kind tag : Byte} {f : State → State × Answer} (h : Acted s (f s).1) :
    Acted s (takeRequest l kind tag f s) := by
  simp only [takeRequest]
  split
  · obtain ⟨s', hact, hcore⟩ := h
    exact ⟨s', hact, hcore.trans (putPort_relinked _ _ _)⟩
  · exact .same (putPort_relinked _ _ _)
  · exact .same (putPort_relinked _ _ _)
  · exact .nothing s

/-- A guarded request does what its owner does where every check passes (0.7). -/
theorem guarded_acted {checks : List (Bool × Code)} {f : State → State × Answer}
    (h : firstFailure checks = none → Acted s (f s).1) : Acted s (guarded checks f s).1 := by
  obtain ⟨_, _, he⟩ | ⟨hpass, he⟩ := guarded_cases (f := f) (s := s) checks
  · rw [he]
    exact .nothing s
  · rw [he]
    exact h hpass

theorem handlePlace_acted : Acted s (handlePlace l body s).1 := by
  simp only [handlePlace]
  split
  · split
    · exact .nothing s
    · split
      · exact guarded_acted fun h => .of (.place _ _ h)
      · exact .nothing s
  · exact .nothing s

theorem handleAmend_acted : Acted s (handleAmend l body s).1 := by
  simp only [handleAmend]
  split
  · split
    · exact .nothing s
    · split
      · exact .nothing s
      · rename_i o ho
        have hmem : o ∈ s.env.table := List.mem_of_find?_eq_some ho
        split
        · exact .nothing s
        · rename_i hown
          split
          · exact .nothing s
          · split
            · exact .nothing s
            · split
              · exact guarded_acted fun h => .of (.amend l _ _ _ _ o hmem (by simpa using (not_or.mp (not_or.mp hown).2).1) h)
              · exact .nothing s
  · exact .nothing s

theorem handleWithdraw_acted : Acted s (handleWithdraw l body s).1 := by
  simp only [handleWithdraw]
  split
  · split
    · exact .nothing s
    · rename_i o ho
      split
      · exact .nothing s
      · rename_i hown
        exact .of (.withdraw o (List.mem_of_find?_eq_some ho) (not_or.mp hown).1)
  · exact .nothing s

theorem handleAuthority_acted : Acted s (handleAuthority l body s).1 := by
  refine guarded_acted fun _ => ?_
  split
  · exact .of (.authority body _ _ ‹_›)
  · exact .nothing s

theorem handleSetService_acted : Acted s (handleSetService l body s).1 := by
  simp only [handleSetService]
  split
  · refine guarded_acted fun h => ?_
    split
    · rename_i u v hu hv
      simp only [acceptService]
      split
      · exact .nothing s
      · refine .of (.service u v ?_ ‹_›)
        rintro rfl
        simp [firstFailure_eq_none, hu] at h
    · exact .nothing s
  · exact .nothing s

theorem handleHandDrive_acted : Acted s (handleHandDrive l body s).1 := by
  simp only [handleHandDrive]
  split
  · split
    · exact .nothing s
    · refine guarded_acted fun h => ?_
      split
      · rename_i d hd
        simp only [firstFailure_eq_none, List.forall_mem_cons, hd] at h
        obtain ⟨-, -, -, hlock, hhand, hready, -⟩ := h
        exact .of (.event (.drive d hd (by simpa using hlock) (by simpa using hhand) (by simpa using hready)))
      · exact .nothing s
  · exact .nothing s

theorem handleSetUnitConfig_acted : Acted s (handleSetUnitConfig l body s).1 := by
  simp only [handleSetUnitConfig]
  split
  · exact .nothing s
  · refine guarded_acted fun h => ?_
    split
    · rename_i st hst
      obtain ⟨u, hu, hread⟩ := Option.bind_eq_some_iff.mp hst
      simp only [firstFailure_eq_none, List.forall_mem_cons, hu, Option.any_some, Option.bind_some, hread, beq_iff_eq] at h
      obtain ⟨-, -, -, -, hout, hfit, -⟩ := h
      cases u with
      | pump i =>
        obtain ⟨v, -, rfl⟩ := Option.map_eq_some_iff.mp hread
        exact .of (.pumpSettings i v hout hfit)
      | portal i =>
        obtain ⟨v, -, rfl⟩ := Option.map_eq_some_iff.mp hread
        exact .of (.event (.portalSettings i v hout hfit))
      | zone z =>
        obtain ⟨v, -, rfl⟩ := Option.map_eq_some_iff.mp hread
        exact .of (.zoneSettings z v hout hfit)
      | outfall => cases hread
    · exact .nothing s

theorem handleResetFault_acted : Acted s (handleResetFault body s).1 := by
  simp only [handleResetFault]
  split
  · split
    · exact .nothing s
    · refine guarded_acted fun h => ?_
      rename_i u _
      simp only [firstFailure_eq_none, List.forall_mem_cons] at h
      obtain ⟨hkind, hfault, hcause, -⟩ := h
      cases u with
      | pump i => exact .of (.event (.resetPump i (by simpa [hasFault] using hfault)))
      | portal i => exact .of (.event (.resetPortal i hfault hcause))
      | zone z => cases hfault
      | outfall => cases hfault
  · exact .nothing s

theorem handleSetSumpConfig_acted : Acted s (handleSetSumpConfig body s).1 := by
  simp only [handleSetSumpConfig]
  split
  · refine guarded_acted fun h => ?_
    split
    · rename_i u g _ hg
      simp only [firstFailure_eq_none, List.forall_mem_cons, hg, Option.any_some] at h
      obtain ⟨-, -, -, hfit, -⟩ := h
      exact .of (.group u _ _ g hg hfit)
    · exact .nothing s
  · exact .nothing s

theorem handleRestartSection_acted : Acted s (handleRestartSection body s).1 := by
  simp only [handleRestartSection]
  split
  · split
    · exact .nothing s
    · exact .of (.restartSection _)
  · exact .nothing s

theorem handleSetRingOrder_acted : Acted s (handleSetRingOrder l body s).1 := by
  simp only [handleSetRingOrder]
  split
  · refine guarded_acted fun h => ?_
    split
    · rename_i u ring hu hr
      simp only [firstFailure_eq_none, List.forall_mem_cons, hu, hr, ringFits] at h
      obtain ⟨-, -, -, -, hperm, -⟩ := h
      exact .of (.ring u ring hperm)
    · exact .nothing s
  · exact .nothing s

theorem handleSetSupplyConfig_acted : Acted s (handleSetSupplyConfig l body s).1 := by
  refine guarded_acted fun h => ?_
  split
  · rename_i v hv
    simp only [firstFailure_eq_none, List.forall_mem_cons, hv, Option.any_some] at h
    obtain ⟨-, -, -, hfit, hshed, hbudget, -⟩ := h
    exact .of (.supplyCfg v hfit hshed hbudget)
  · exact .nothing s

theorem handleSetLuminanceConfig_acted : Acted s (handleSetLuminanceConfig l body s).1 := by
  refine guarded_acted fun _ => ?_
  split
  · exact .of (.event (.scales _ _))
  · exact .nothing s

theorem handleSetLinkConfig_acted : Acted s (handleSetLinkConfig l body s).1 := by
  refine guarded_acted fun _ => ?_
  split
  · exact ⟨_, .fieldRate _, takeUpRate_relinked _⟩
  · exact .nothing s

theorem handleAckAlerts_acted : Acted s (handleAckAlerts body s).1 := by
  simp only [handleAckAlerts]
  split
  · exact .of (.acknowledge _)
  · exact .nothing s

theorem handleSetAlertMasks_acted : Acted s (handleSetAlertMasks body s).1 := by
  simp only [handleSetAlertMasks]
  split
  · exact guarded_acted fun _ => .of (.masks _)
  · exact .nothing s

theorem handleReadChanges_acted : Acted s (handleReadChanges l body s).1 := by
  simp only [handleReadChanges]
  split
  · exact .of (.afterRead _ _)
  · exact .nothing s

theorem handleClearChanges_acted : Acted s (handleClearChanges l body s).1 := by
  simp only [handleClearChanges]
  split
  · split
    · exact .nothing s
    · exact .of (.clearChanges _ _)
  · exact .nothing s

theorem handleSetReporting_acted : Acted s (handleSetReporting l body s).1 := by
  simp only [handleSetReporting]
  split
  · refine guarded_acted fun _ => ?_
    split
    · exact .of (.reporting _ _)
    · exact .nothing s
  · exact .nothing s

theorem handleSaveConfig_acted : Acted s (handleSaveConfig body s).1 := by
  refine guarded_acted fun h => ?_
  simp only [firstFailure_eq_none, List.forall_mem_cons, Bool.and_eq_true] at h
  obtain ⟨-, ⟨hidle, -⟩, -⟩ := h
  exact .of (.save hidle)

theorem handleRestartController_acted : Acted s (handleRestartController l body s).1 :=
  guarded_acted fun _ => .of .restart

theorem handleLookup_state : (handleLookup body s).1 = s := by
  simp only [handleLookup]
  repeat' split
  all_goals rfl

theorem handleList_state : (handleList body s).1 = s := by
  simp only [handleList]
  repeat' split
  all_goals rfl

theorem handleReadUnit_state : (handleReadUnit body s).1 = s := by
  simp only [handleReadUnit]
  repeat' split
  all_goals rfl

theorem handleReadSump_state : (handleReadSump body s).1 = s := by
  simp only [handleReadSump]
  repeat' split
  all_goals rfl

theorem handleReadPlant_state : (handleReadPlant body s).1 = s := by
  simp only [handleReadPlant]
  repeat' split
  all_goals rfl

theorem handleReadAlerts_state : (handleReadAlerts body s).1 = s := by
  simp only [handleReadAlerts]
  repeat' split
  all_goals rfl

end Requests

/-! ### Every command -/

/-- An event whose condition does not hold changes nothing (log 1, log 14). -/
theorem acted_ite {s t : State} {c : Prop} [Decidable c] (h : c → Acted s t) : Acted s (if c then t else s) := by
  split
  · exact h ‹_›
  · exact .nothing s

theorem acted_ite_not {s t : State} {c : Prop} [Decidable c] (h : ¬c → Acted s t) : Acted s (if c then s else t) := by
  split
  · exact .nothing s
  · exact h ‹_›

/-- Both branches of a conditional answer answer. -/
theorem next_ite {s t : State} (c : Prop) [Decidable c] :
    (if c then (Host.Outcome.next s : Host.Outcome State Fault Refusal) else .next t) = .next (if c then s else t) := by
  split <;> rfl

theorem endReply_acted {s : State} {l : Link} {b : BootIn} : Acted s (endReply l b s) := by
  simp only [endReply]
  split
  · exact .of (.boot s.env.pins false b)
  · exact .same ((putPort_relinked _ _ _).trans (huntAgain_relinked _ _))

theorem live_of_starting {q : Pump} (h : q.run = .starting) : q.live = true := by simp [Pump.live, h]
theorem live_of_running {q : Pump} (h : q.run = .running) : q.live = true := by simp [Pump.live, h]

/-- Every command answers, and what it leaves is what an act leaves. -/
theorem exec_acted (c : Instr) (s : State) : ∃ t, exec c s = .next t ∧ Acted s t := by
  cases c with
  | place l tag body => exact ⟨_, rfl, takeRequest_acted handlePlace_acted⟩
  | amend l tag body => exact ⟨_, rfl, takeRequest_acted handleAmend_acted⟩
  | withdraw l tag body => exact ⟨_, rfl, takeRequest_acted handleWithdraw_acted⟩
  | lookupOrder l tag body => exact ⟨_, rfl, takeRequest_acted (by rw [handleLookup_state]; exact .nothing s)⟩
  | listOrders l tag body => exact ⟨_, rfl, takeRequest_acted (by rw [handleList_state]; exact .nothing s)⟩
  | setAuthority l tag body => exact ⟨_, rfl, takeRequest_acted handleAuthority_acted⟩
  | readUnit l tag body => exact ⟨_, rfl, takeRequest_acted (by rw [handleReadUnit_state]; exact .nothing s)⟩
  | setService l tag body => exact ⟨_, rfl, takeRequest_acted handleSetService_acted⟩
  | handDrive l tag body => exact ⟨_, rfl, takeRequest_acted handleHandDrive_acted⟩
  | setUnitConfig l tag body => exact ⟨_, rfl, takeRequest_acted handleSetUnitConfig_acted⟩
  | resetFault l tag body => exact ⟨_, rfl, takeRequest_acted handleResetFault_acted⟩
  | readSump l tag body => exact ⟨_, rfl, takeRequest_acted (by rw [handleReadSump_state]; exact .nothing s)⟩
  | setSumpConfig l tag body => exact ⟨_, rfl, takeRequest_acted handleSetSumpConfig_acted⟩
  | restartSection l tag body => exact ⟨_, rfl, takeRequest_acted handleRestartSection_acted⟩
  | setRingOrder l tag body => exact ⟨_, rfl, takeRequest_acted handleSetRingOrder_acted⟩
  | readPlant l tag body => exact ⟨_, rfl, takeRequest_acted (by rw [handleReadPlant_state]; exact .nothing s)⟩
  | setSupplyConfig l tag body => exact ⟨_, rfl, takeRequest_acted handleSetSupplyConfig_acted⟩
  | setLuminanceConfig l tag body => exact ⟨_, rfl, takeRequest_acted handleSetLuminanceConfig_acted⟩
  | setLinkConfig l tag body => exact ⟨_, rfl, takeRequest_acted handleSetLinkConfig_acted⟩
  | readAlerts l tag body => exact ⟨_, rfl, takeRequest_acted (by rw [handleReadAlerts_state]; exact .nothing s)⟩
  | ackAlerts l tag body => exact ⟨_, rfl, takeRequest_acted handleAckAlerts_acted⟩
  | setAlertMasks l tag body => exact ⟨_, rfl, takeRequest_acted handleSetAlertMasks_acted⟩
  | readChanges l tag body => exact ⟨_, rfl, takeRequest_acted handleReadChanges_acted⟩
  | clearChanges l tag body => exact ⟨_, rfl, takeRequest_acted handleClearChanges_acted⟩
  | setReporting l tag body => exact ⟨_, rfl, takeRequest_acted handleSetReporting_acted⟩
  | saveConfig l tag body => exact ⟨_, rfl, takeRequest_acted handleSaveConfig_acted⟩
  | restartController l tag body => exact ⟨_, rfl, takeRequest_acted handleRestartController_acted⟩
  | unknownKind l kind tag body =>
    exact ⟨_, next_ite _, acted_ite fun _ => takeRequest_acted (.nothing s)⟩
  | frameDiscarded l frame => exact ⟨_, next_ite _, acted_ite_not fun _ => .same (huntAgain_relinked l s)⟩
  | frameAbandoned l late =>
    exact ⟨_, next_ite _, acted_ite fun _ => .same ((huntAgain_relinked l s).trans (putPort_relinked _ _ _))⟩
  | replyStart l =>
    simp only [exec, execReplyStart]
    split
    · exact ⟨_, rfl, .same (putPort_relinked _ _ _)⟩
    · exact ⟨_, rfl, .nothing s⟩
  | replyEnd l boot =>
    simp only [exec, execReplyEnd]
    split
    · exact ⟨_, rfl, endReply_acted⟩
    · exact ⟨_, rfl, .nothing s⟩
  | lockoutWriteEnd how =>
    exact ⟨_, next_ite _, acted_ite fun _ => ⟨_, .writeEnd how, putPort_relinked _ _ _⟩⟩
  | saveEnd how => exact ⟨_, next_ite _, acted_ite fun _ => .of (.writeEnd how)⟩
  | startUp pins cutInside boot => exact ⟨_, rfl, .of (.boot pins cutInside boot)⟩
  | orderExpiry number =>
    simp only [exec, execOrderExpiry]
    split
    · exact ⟨_, rfl, .nothing s⟩
    · rename_i o ho
      have hdue := List.find?_some ho
      simp only [Bool.and_eq_true] at hdue
      exact ⟨_, rfl, .of (.orderExpiry o (List.mem_of_find?_eq_some ho) hdue.2)⟩
  | keySwitchChange k on => exact ⟨_, next_ite _, acted_ite_not fun _ => .of (.keyInput k on)⟩
  | keyDebounceExpiry k =>
    simp only [exec, execKeyDebounceExpiry]
    split
    · exact ⟨_, rfl, .nothing s⟩
    · rename_i hdue
      split
      · exact ⟨_, rfl, .of (.keyOn k (by simpa using hdue) ‹_›)⟩
      · exact ⟨_, rfl, .of (.keyOff k)⟩
  | sumpSample u countA countB => exact ⟨_, rfl, .of (.sample u countA countB)⟩
  | floatInputChange u f closed => exact ⟨_, next_ite _, acted_ite_not fun _ => .of (.floatInput u f _)⟩
  | floatDebounceExpiry u f => exact ⟨_, next_ite _, acted_ite fun _ => .of (.floatEnd u f _)⟩
  | stageHoldExpiry u => exact ⟨_, next_ite _, acted_ite fun _ => .of (.holdEnd u)⟩
  | dryRunInputChange i active => exact ⟨_, next_ite _, acted_ite_not fun _ => .of (.event (.dryRunInput i active))⟩
  | dryRunStop i =>
    refine ⟨_, next_ite _, acted_ite fun h => .of (.event (.halt i .dry (live_of_running ?_) nofun))⟩
    simp only [dryRunDue, Bool.and_eq_true, beq_iff_eq] at h
    exact h.1
  | runningFeedbackChange i active => exact ⟨_, next_ite _, acted_ite_not fun _ => .of (.event (.feedback i active))⟩
  | noStart i =>
    refine ⟨_, next_ite _, acted_ite fun h => .of (.event (.halt i (.fault .noStart) (live_of_starting ?_) nofun))⟩
    simp only [confirmDue, Bool.and_eq_true, beq_iff_eq] at h
    exact h.1
  | lostRun i =>
    refine ⟨_, next_ite _, acted_ite fun h => .of (.event (.halt i (.fault .lostRun) (live_of_running ?_) nofun))⟩
    simp only [lostRunDue, Bool.and_eq_true, beq_iff_eq] at h
    exact h.1
  | thermalTrip i active =>
    simp only [exec, execThermalTrip]
    split
    · exact ⟨_, rfl, .nothing s⟩
    · split
      · rename_i h
        simp only [Bool.and_eq_true] at h
        obtain ⟨rfl, hlive⟩ := h
        exact ⟨_, rfl, .of (.event (.thermal i hlive))⟩
      · exact ⟨_, rfl, .of (.thermalInput i active)⟩
  | surgeEnd i => exact ⟨_, next_ite _, acted_ite fun h => .of (.event (.surgeEnd i h))⟩
  | minRunExpiry i => exact ⟨_, next_ite _, acted_ite fun _ => .of (.event (.minRunEnd i))⟩
  | restEnd i =>
    refine ⟨_, next_ite _, acted_ite fun h => .of (.event (.restEnd i ?_))⟩
    simp only [restDue, Bool.and_eq_true, beq_iff_eq] at h
    exact h.1
  | startListEntryExpiry i => exact ⟨_, next_ite _, acted_ite fun _ => .of (.event (.startEntryEnd i))⟩
  | supplyInputChange g b =>
    refine ⟨_, next_ite _, acted_ite_not fun _ => ?_⟩
    by_cases h : nextSupply g b s.plant.arb.supply = s.plant.arb.supply
    · simp only [h, if_true]
      exact .of (.supplyInput g b)
    · simp only [h, if_false]
      exact .of (.supplyChange g b _ h)
  | transferTimeout => exact ⟨_, next_ite _, acted_ite fun h => .of (.transferEnd h)⟩
  | spacingExpiry => exact ⟨_, next_ite _, acted_ite fun _ => .of .spacingEnd⟩
  | waitLimitReached u => exact ⟨_, next_ite _, acted_ite fun h => .of (.starve u h)⟩
  | warningExpiry i =>
    refine ⟨_, next_ite _, acted_ite fun h => .of (.event (.warningEnd i ?_))⟩
    simp only [warningDue, Bool.and_eq_true, beq_iff_eq] at h
    exact h.1
  | limitSwitchChange i sw active => exact ⟨_, next_ite _, acted_ite_not fun h => .of (.event (.limitChange i sw active h))⟩
  | travelTimerExpiry i => exact ⟨_, next_ite _, acted_ite fun h => .of (.event (.travelEnd i h))⟩
  | handTravelExpiry i => exact ⟨_, next_ite _, acted_ite fun h => .of (.event (.handTravelEnd i h))⟩
  | occupancyLoopChange lp occupied => exact ⟨_, next_ite _, acted_ite_not fun _ => .of (.event (Event.loopChange (s := s) (putLoop s.env.pins.loops lp occupied) occupied))⟩
  | clearConfirmExpiry i =>
    refine ⟨_, next_ite _, acted_ite fun h => .of (.event (.clearConfirmEnd i ?_))⟩
    simp only [clearConfirmDue, Bool.and_eq_true, beq_iff_eq] at h
    exact h.1
  | clearLimitExpiry i =>
    refine ⟨_, next_ite _, acted_ite fun h => .of (.event (.clearLimitEnd i ?_))⟩
    simp only [clearLimitDue, Bool.and_eq_true, beq_iff_eq] at h
    exact h.1.1
  | safetyEdgeChange i active =>
    refine ⟨_, next_ite _, acted_ite_not fun _ => ?_⟩
    cases active with
    | true => exact .of (.event (.edgeOn i))
    | false => exact .of (.event (.edgeOff i))
  | retryDelayExpiry i =>
    refine ⟨_, next_ite _, acted_ite fun h => .of (.event (.retryEnd i ?_))⟩
    simp only [retryDue, Bool.and_eq_true, beq_iff_eq] at h
    exact h.1
  | luminanceSample d count => exact ⟨_, next_ite _, acted_ite fun _ => .of (.event (.window d _))⟩
  | luminanceLoss d => exact ⟨_, next_ite _, acted_ite fun _ => .of (.event (.window d _))⟩
  | deficitMeasurement z count => exact ⟨_, rfl, .of (.deficit z count)⟩
  | rampStep z => exact ⟨_, rfl, acted_ite fun h => .of (.ramp z h)⟩
  | moderationExpiry l => exact ⟨_, rfl, acted_ite fun h => .of (.moderation l h)⟩
  | faultyFrameByte l why => exact ⟨_, next_ite _, acted_ite fun _ => .same (huntAgain_relinked l s)⟩

/-! ### Every step -/

/-- A step is an act on a state that differs in the waiting commands and the links alone. -/
theorem step_acted (s : State) : ∃ t s0, step s = .next t ∧ SameCore s s0 ∧ Acted s0 t := by
  have hchar (l : Link) (c : LineChar) : ∃ t s0, takeChar l c s = .next t ∧ SameCore s s0 ∧ Acted s0 t := by
    simp only [takeChar]
    split
    · obtain ⟨t, ht, hact⟩ := exec_acted ‹_› (dropChar l s)
      exact ⟨t, _, ht, (dropChar_relinked l s).sameCore, hact⟩
    · exact ⟨_, s, rfl, .refl s, .same ((dropChar_relinked l s).trans (putPort_relinked _ _ _))⟩
  simp only [step]
  split
  · simp only [idle]
    split
    · obtain ⟨t, ht, hact⟩ := exec_acted ‹_› s
      exact ⟨t, s, ht, .refl s, hact⟩
    · split
      · exact hchar .field _
      · exact hchar .panel _
      · exact ⟨_, s, rfl, .refl s, _, .tick, _, rfl⟩
  · rename_i c rest _
    obtain ⟨t, ht, hact⟩ := exec_acted c { s with pending := rest }
    exact ⟨t, _, ht, ⟨_, _, rfl⟩, hact⟩

/-- A property of the environment, the plant and the store that every act keeps or establishes, every step does too. -/
theorem step_keeps {P Q : State → Prop} (hP : ∀ {s t}, SameCore s t → P s → P t) (hQ : ∀ {s t}, SameCore s t → Q s → Q t)
    (hact : ∀ {s t}, P s → Act s t → Q t) {s t : State} (hs : P s) (h : step s = .next t) : Q t := by
  obtain ⟨t', s0, ht, hsame, s', ha, hsame'⟩ := step_acted s
  cases ht.symm.trans h
  exact hQ hsame'.sameCore (hact (hP hsame hs) ha)

end Sys2Proof.Machine

/-! What the plant's blocks write, said once for each of their operations: every one of them is a run of single writes, and what a kind of
write leaves unchanged (a pump's record, the unit records, the latches, the supply state), every operation made of such writes leaves
unchanged. -/

namespace Sys2Proof.Machine

/-- One write that a block of the plant makes. -/
inductive PlantWrite where
  | pump (i : PumpId) (q : Pump)
  | portal (i : PortalId) (q : Portal)
  | zone (z : ZoneId) (q : Zone)
  | join (u : UnitId)
  | drop (u : UnitId)
  | note (u : UnitId)
  | lead (u : SumpId)
  | spacing (t : Timer)
  | raise (c : Cause)

/-- The plant after a write. -/
def PlantWrite.run (e : Env) (p : Plant) : PlantWrite → Plant
  | .pump i q => putPump e i q p
  | .portal i q => putPortal e i q p
  | .zone z q => putZone e z q p
  | .join u => joinQueue e u p
  | .drop u => dropRequest u p
  | .note u => noteGrant u p
  | .lead u => advanceLead e u p
  | .spacing t => { p with arb := { p.arb with spacing := t } }
  | .raise c => raiseCause e c p

/-- Any number of writes, each allowed by `ok` in the plant it meets. -/
def Wrote (e : Env) (ok : Plant → PlantWrite → Prop) : Plant → Plant → Prop :=
  Relation.ReflTransGen fun p q => ∃ w, ok p w ∧ q = w.run e p

/-- What a portal's sequencer may write: its portal, whose permit it never gives, its own request, and GATE_JAMMED. -/
def PortalWrite (i : PortalId) (p : Plant) : PlantWrite → Prop
  | .portal j q => j = i ∧ (q.permit = true → (p.portals.get i).permit = true)
  | .join u | .drop u => u = .portal i
  | .raise c => c = .gateJammed
  | _ => False

/-- What Pump Duty may write: pumps, their requests, the leads, and PUMP_FAULT. -/
def PumpWrite (_ : Plant) : PlantWrite → Prop
  | .pump _ _ | .lead _ => True
  | .join u | .drop u => ∃ i, u = .pump i
  | .raise c => c = .pumpFault
  | _ => False

/-- What the Lighting Controller may write at an allocation: zones, but for their deficit, its flag and their hand level. -/
def ZoneWrite (p : Plant) : PlantWrite → Prop
  | .zone z q => q.deficit = (p.zones.get z).deficit ∧ q.flag = (p.zones.get z).flag ∧ q.hand = (p.zones.get z).hand
  | _ => False

/-- What the plant's blocks may write when they act on an event. -/
def BlockWrite (p : Plant) : PlantWrite → Prop
  | .zone z q => q.deficit = (p.zones.get z).deficit ∧ q.flag = (p.zones.get z).flag ∧ q.hand = (p.zones.get z).hand
  | .raise c => c = .pumpFault ∨ c = .gateJammed
  | _ => True

section Wrote
variable {e : Env} {ok : Plant → PlantWrite → Prop} {a b p : Plant}

theorem Wrote.refl : Wrote e ok p p := Relation.ReflTransGen.refl

theorem Wrote.trans (h : Wrote e ok a b) (h' : Wrote e ok b p) : Wrote e ok a p := Relation.ReflTransGen.trans h h'

theorem Wrote.write (h : Wrote e ok a p) (w : PlantWrite) (hw : ok p w) : Wrote e ok a (w.run e p) := h.tail ⟨w, hw, rfl⟩

theorem Wrote.mono {ok' : Plant → PlantWrite → Prop} (h : Wrote e ok a p) (hok : ∀ {q w}, ok q w → ok' q w) : Wrote e ok' a p := by
  induction h with
  | refl => exact .refl
  | tail _ hw ih =>
    obtain ⟨w, hw, rfl⟩ := hw
    exact ih.write w (hok hw)

/-- A property that each allowed write keeps is kept by any number of them. -/
theorem Wrote.induct {P : Plant → Prop} (h : Wrote e ok a p) (hw : ∀ q w, ok q w → P q → P (w.run e q)) (ha : P a) : P p := by
  induction h with
  | refl => exact ha
  | tail _ hs ih =>
    obtain ⟨w, hok, rfl⟩ := hs
    exact hw _ w hok ih

/-- A value that no allowed write changes stands. -/
theorem Wrote.stands {β : Type} {f : Plant → β} (h : Wrote e ok a p) (hw : ∀ q w, ok q w → f (w.run e q) = f q) : f p = f a :=
  h.induct (P := fun q => f q = f a) (fun q w hok hq => (hw q w hok).trans hq) rfl

theorem foldl_wrote {β : Type} {f : Plant → β → Plant} (hf : ∀ q x, Wrote e ok a q → Wrote e ok a (f q x)) (l : List β)
    (h : Wrote e ok a p) : Wrote e ok a (l.foldl f p) := by
  induction l generalizing p with
  | nil => exact h
  | cons x l ih => exact ih (hf _ _ h)

end Wrote

/-! ### What a single write leaves -/

section Run
variable {e : Env} {p : Plant}

@[simp] theorem report_pumps {k : RecordKey} {r : Option Reason} : (report e k r p).pumps = p.pumps := rfl
@[simp] theorem report_portals {k : RecordKey} {r : Option Reason} : (report e k r p).portals = p.portals := rfl
@[simp] theorem report_zones {k : RecordKey} {r : Option Reason} : (report e k r p).zones = p.zones := rfl
@[simp] theorem report_units {k : RecordKey} {r : Option Reason} : (report e k r p).units = p.units := rfl
@[simp] theorem report_duty {k : RecordKey} {r : Option Reason} : (report e k r p).duty = p.duty := rfl
@[simp] theorem report_arb {k : RecordKey} {r : Option Reason} : (report e k r p).arb = p.arb := rfl

@[simp] theorem raiseCause_pumps {c : Cause} : (raiseCause e c p).pumps = p.pumps := rfl
@[simp] theorem raiseCause_portals {c : Cause} : (raiseCause e c p).portals = p.portals := rfl
@[simp] theorem raiseCause_zones {c : Cause} : (raiseCause e c p).zones = p.zones := rfl
@[simp] theorem raiseCause_units {c : Cause} : (raiseCause e c p).units = p.units := rfl
@[simp] theorem raiseCause_duty {c : Cause} : (raiseCause e c p).duty = p.duty := rfl
@[simp] theorem raiseCause_arb {c : Cause} : (raiseCause e c p).arb = p.arb := rfl

@[simp] theorem refreshConditions_pumps : (refreshConditions e p).pumps = p.pumps := rfl
@[simp] theorem refreshConditions_portals : (refreshConditions e p).portals = p.portals := rfl
@[simp] theorem refreshConditions_zones : (refreshConditions e p).zones = p.zones := rfl
@[simp] theorem refreshConditions_units : (refreshConditions e p).units = p.units := rfl
@[simp] theorem refreshConditions_duty : (refreshConditions e p).duty = p.duty := rfl
@[simp] theorem refreshConditions_arb : (refreshConditions e p).arb = p.arb := rfl

/-! #### A pump's record -/

section Pump
variable {i : PumpId} {q : Pump}

@[simp] theorem putPump_pumps : (putPump e i q p).pumps = p.pumps.set i q := by simp only [putPump]; split <;> rfl
@[simp] theorem putPump_portals : (putPump e i q p).portals = p.portals := by simp only [putPump]; split <;> rfl
@[simp] theorem putPump_zones : (putPump e i q p).zones = p.zones := by simp only [putPump]; split <;> rfl
@[simp] theorem putPump_units : (putPump e i q p).units = p.units := by simp only [putPump]; split <;> rfl
@[simp] theorem putPump_duty : (putPump e i q p).duty = p.duty := by simp only [putPump]; split <;> rfl
@[simp] theorem putPump_arb : (putPump e i q p).arb = p.arb := by simp only [putPump]; split <;> rfl

end Pump

/-! #### A portal's record -/

section Portal
variable {i : PortalId} {q : Portal}

@[simp] theorem putPortal_pumps : (putPortal e i q p).pumps = p.pumps := by simp only [putPortal]; split <;> rfl
@[simp] theorem putPortal_portals : (putPortal e i q p).portals = p.portals.set i q := by simp only [putPortal]; split <;> rfl
@[simp] theorem putPortal_zones : (putPortal e i q p).zones = p.zones := by simp only [putPortal]; split <;> rfl
@[simp] theorem putPortal_units : (putPortal e i q p).units = p.units := by simp only [putPortal]; split <;> rfl
@[simp] theorem putPortal_duty : (putPortal e i q p).duty = p.duty := by simp only [putPortal]; split <;> rfl
@[simp] theorem putPortal_arb : (putPortal e i q p).arb = p.arb := by simp only [putPortal]; split <;> rfl

end Portal

/-! #### A zone's record -/

section Zone
variable {z : ZoneId} {q : Zone}

@[simp] theorem putZone_pumps : (putZone e z q p).pumps = p.pumps := by simp only [putZone]; split <;> rfl
@[simp] theorem putZone_portals : (putZone e z q p).portals = p.portals := by simp only [putZone]; split <;> rfl
@[simp] theorem putZone_zones : (putZone e z q p).zones = p.zones.set z q := by simp only [putZone]; split <;> rfl
@[simp] theorem putZone_units : (putZone e z q p).units = p.units := by simp only [putZone]; split <;> rfl
@[simp] theorem putZone_duty : (putZone e z q p).duty = p.duty := by simp only [putZone]; split <;> rfl
@[simp] theorem putZone_arb : (putZone e z q p).arb = p.arb := by simp only [putZone]; split <;> rfl

end Zone

/-! #### The start queue and the order of grants -/

section Queue
variable {u : UnitId}

@[simp] theorem joinQueue_pumps : (joinQueue e u p).pumps = p.pumps := by simp only [joinQueue]; split <;> rfl
@[simp] theorem joinQueue_portals : (joinQueue e u p).portals = p.portals := by simp only [joinQueue]; split <;> rfl
@[simp] theorem joinQueue_zones : (joinQueue e u p).zones = p.zones := by simp only [joinQueue]; split <;> rfl
@[simp] theorem joinQueue_units : (joinQueue e u p).units = p.units := by simp only [joinQueue]; split <;> rfl
@[simp] theorem joinQueue_duty : (joinQueue e u p).duty = p.duty := by simp only [joinQueue]; split <;> rfl
@[simp] theorem joinQueue_attn : (joinQueue e u p).attn = p.attn := by simp only [joinQueue]; split <;> rfl
@[simp] theorem joinQueue_supply : (joinQueue e u p).arb.supply = p.arb.supply := by simp only [joinQueue]; split <;> rfl
@[simp] theorem joinQueue_transfer : (joinQueue e u p).arb.transfer = p.arb.transfer := by simp only [joinQueue]; split <;> rfl
@[simp] theorem joinQueue_spacing : (joinQueue e u p).arb.spacing = p.arb.spacing := by simp only [joinQueue]; split <;> rfl
@[simp] theorem joinQueue_grantOrder : (joinQueue e u p).arb.grantOrder = p.arb.grantOrder := by
  simp only [joinQueue]; split <;> rfl

@[simp] theorem dropRequest_pumps : (dropRequest u p).pumps = p.pumps := rfl
@[simp] theorem dropRequest_portals : (dropRequest u p).portals = p.portals := rfl
@[simp] theorem dropRequest_zones : (dropRequest u p).zones = p.zones := rfl
@[simp] theorem dropRequest_units : (dropRequest u p).units = p.units := rfl
@[simp] theorem dropRequest_duty : (dropRequest u p).duty = p.duty := rfl
@[simp] theorem dropRequest_attn : (dropRequest u p).attn = p.attn := rfl
@[simp] theorem dropRequest_supply : (dropRequest u p).arb.supply = p.arb.supply := rfl
@[simp] theorem dropRequest_transfer : (dropRequest u p).arb.transfer = p.arb.transfer := rfl
@[simp] theorem dropRequest_spacing : (dropRequest u p).arb.spacing = p.arb.spacing := rfl
@[simp] theorem dropRequest_grantOrder : (dropRequest u p).arb.grantOrder = p.arb.grantOrder := rfl
@[simp] theorem dropRequest_queue : (dropRequest u p).arb.queue = p.arb.queue.filter (fun r => r.unit != u) := rfl

@[simp] theorem noteGrant_pumps : (noteGrant u p).pumps = p.pumps := rfl
@[simp] theorem noteGrant_portals : (noteGrant u p).portals = p.portals := rfl
@[simp] theorem noteGrant_zones : (noteGrant u p).zones = p.zones := rfl
@[simp] theorem noteGrant_units : (noteGrant u p).units = p.units := rfl
@[simp] theorem noteGrant_duty : (noteGrant u p).duty = p.duty := rfl
@[simp] theorem noteGrant_attn : (noteGrant u p).attn = p.attn := rfl
@[simp] theorem noteGrant_supply : (noteGrant u p).arb.supply = p.arb.supply := rfl
@[simp] theorem noteGrant_transfer : (noteGrant u p).arb.transfer = p.arb.transfer := rfl
@[simp] theorem noteGrant_queue : (noteGrant u p).arb.queue = p.arb.queue := rfl
@[simp] theorem noteGrant_grantOrder : (noteGrant u p).arb.grantOrder = p.arb.grantOrder.filter (fun v => v != u) ++ [u] := rfl

/-- A unit has a request exactly while the queue holds one of it. -/
theorem queued_iff {p : Plant} {u : UnitId} : p.queued u = true ↔ u ∈ p.arb.queue.map Request.unit := by
  simp [Plant.queued, List.any_eq_true]

/-- A unit that joins stands at the end of the queue, if it did not stand in it (R106). -/
theorem joinQueue_units_queue : (joinQueue e u p).arb.queue.map Request.unit =
    if p.queued u then p.arb.queue.map Request.unit else p.arb.queue.map Request.unit ++ [u] := by
  simp only [joinQueue]
  split <;> simp

theorem joinQueue_queued {v : UnitId} : (joinQueue e u p).queued v = true ↔ v = u ∨ p.queued v = true := by
  rw [queued_iff, joinQueue_units_queue]
  split
  · next h => exact ⟨fun hv => .inr (queued_iff.mpr hv), fun hv => hv.elim (fun hvu => hvu ▸ queued_iff.mp h) queued_iff.mp⟩
  · rw [List.mem_append, List.mem_singleton, ← queued_iff, or_comm]

theorem dropRequest_units_queue : (dropRequest u p).arb.queue.map Request.unit = (p.arb.queue.map Request.unit).filter (fun v => v != u) := by
  simp [List.filter_map, Function.comp_def]

theorem dropRequest_queued {v : UnitId} : (dropRequest u p).queued v = true ↔ v ≠ u ∧ p.queued v = true := by
  rw [queued_iff, dropRequest_units_queue, List.mem_filter, ← queued_iff, and_comm]
  simp

end Queue

/-! #### The lead -/

section Lead
variable {u : SumpId}

@[simp] theorem advanceLead_pumps : (advanceLead e u p).pumps = p.pumps := rfl
@[simp] theorem advanceLead_portals : (advanceLead e u p).portals = p.portals := rfl
@[simp] theorem advanceLead_zones : (advanceLead e u p).zones = p.zones := rfl
@[simp] theorem advanceLead_units : (advanceLead e u p).units = p.units := rfl
@[simp] theorem advanceLead_attn : (advanceLead e u p).attn = p.attn := rfl
@[simp] theorem advanceLead_arb : (advanceLead e u p).arb = p.arb := rfl

end Lead

end Run

/-! ### The portals -/

section Portals
variable {e : Env} {i : PortalId} {a p : Plant}

theorem putPortal_wrote {q : Portal} (h : Wrote e (PortalWrite i) a p)
    (hp : q.permit = true → (p.portals.get i).permit = true := by simp) : Wrote e (PortalWrite i) a (putPortal e i q p) :=
  h.write (.portal i q) ⟨rfl, hp⟩

theorem joinPortal_wrote (h : Wrote e (PortalWrite i) a p) : Wrote e (PortalWrite i) a (joinQueue e (.portal i) p) :=
  h.write (.join (.portal i)) rfl

theorem raiseJam_wrote (h : Wrote e (PortalWrite i) a p) : Wrote e (PortalWrite i) a (raiseCause e .gateJammed p) :=
  h.write (.raise .gateJammed) rfl

theorem unqueuePortal_wrote (h : Wrote e (PortalWrite i) a p) : Wrote e (PortalWrite i) a (unqueuePortal e i p) :=
  putPortal_wrote (h.write (.drop (.portal i)) rfl)

theorem letGo_wrote (h : Wrote e (PortalWrite i) a p) : Wrote e (PortalWrite i) a (letGo e i p) :=
  putPortal_wrote (unqueuePortal_wrote h)

theorem driveOrQueue_wrote (h : Wrote e (PortalWrite i) a p) : Wrote e (PortalWrite i) a (driveOrQueue e i p) := by
  simp only [driveOrQueue]; split
  · exact putPortal_wrote h
  · exact joinPortal_wrote h

theorem enterIdle_wrote {st : Seq} (h : Wrote e (PortalWrite i) a p) : Wrote e (PortalWrite i) a (enterIdle e i st p) :=
  putPortal_wrote (letGo_wrote h)

theorem toOpen_wrote (h : Wrote e (PortalWrite i) a p) : Wrote e (PortalWrite i) a (toOpen e i p) :=
  putPortal_wrote (enterIdle_wrote h)

theorem toSealed_wrote (h : Wrote e (PortalWrite i) a p) : Wrote e (PortalWrite i) a (toSealed e i p) :=
  putPortal_wrote (enterIdle_wrote h)

theorem toWarning_wrote (h : Wrote e (PortalWrite i) a p) : Wrote e (PortalWrite i) a (toWarning e i p) :=
  putPortal_wrote (enterIdle_wrote h)

theorem toClearing_wrote (h : Wrote e (PortalWrite i) a p) : Wrote e (PortalWrite i) a (toClearing e i p) :=
  putPortal_wrote (enterIdle_wrote h)

theorem enterStep_wrote {st : Seq} {t : Timer} (h : Wrote e (PortalWrite i) a p) : Wrote e (PortalWrite i) a (enterStep e i st t p) :=
  putPortal_wrote h

theorem toBarring_wrote {t : Timer} (h : Wrote e (PortalWrite i) a p) : Wrote e (PortalWrite i) a (toBarring e i t p) := by
  simp only [toBarring]; split
  · exact toClearing_wrote (enterStep_wrote h)
  · exact driveOrQueue_wrote (enterStep_wrote h)

theorem toUnsealingAway_wrote {t : Timer} (h : Wrote e (PortalWrite i) a p) : Wrote e (PortalWrite i) a (toUnsealingAway e i t p) :=
  driveOrQueue_wrote (enterStep_wrote h)

theorem toLifting_wrote {t : Timer} (h : Wrote e (PortalWrite i) a p) : Wrote e (PortalWrite i) a (toLifting e i t p) := by
  simp only [toLifting]; split
  · split
    · exact toOpen_wrote (enterStep_wrote h)
    · exact driveOrQueue_wrote (enterStep_wrote h)
  · exact toUnsealingAway_wrote h

theorem toUnsealing_wrote {t : Timer} (h : Wrote e (PortalWrite i) a p) : Wrote e (PortalWrite i) a (toUnsealing e i t p) := by
  simp only [toUnsealing]; split
  · exact toLifting_wrote (letGo_wrote (enterStep_wrote h))
  · exact toUnsealingAway_wrote h

theorem toJammed_wrote {why : JamCause} (h : Wrote e (PortalWrite i) a p) : Wrote e (PortalWrite i) a (toJammed e i why p) :=
  raiseJam_wrote (putPortal_wrote (enterIdle_wrote h))

theorem obstruct_wrote (h : Wrote e (PortalWrite i) a p) : Wrote e (PortalWrite i) a (obstruct e i p) := by
  simp only [obstruct]; split
  · exact putPortal_wrote (letGo_wrote h)
  · exact toJammed_wrote h

theorem guardLost_wrote (h : Wrote e (PortalWrite i) a p) : Wrote e (PortalWrite i) a (guardLost e i p) := toBarring_wrote (letGo_wrote h)

theorem sealOrQueue_wrote (h : Wrote e (PortalWrite i) a p) : Wrote e (PortalWrite i) a (sealOrQueue e i p) := by
  simp only [sealOrQueue]; split
  · exact obstruct_wrote h
  · exact driveOrQueue_wrote h

theorem toSealing_wrote {t : Timer} (h : Wrote e (PortalWrite i) a p) : Wrote e (PortalWrite i) a (toSealing e i t p) := by
  simp only [toSealing]; split
  · split
    · exact toSealed_wrote (enterStep_wrote h)
    · exact sealOrQueue_wrote (enterStep_wrote h)
  · exact guardLost_wrote (enterStep_wrote h)

theorem toHeld_wrote (h : Wrote e (PortalWrite i) a p) : Wrote e (PortalWrite i) a (toHeld e i p) := putPortal_wrote (letGo_wrote h)

theorem toStep_wrote {st : Seq} {t : Timer} (h : Wrote e (PortalWrite i) a p) : Wrote e (PortalWrite i) a (toStep e i st t p) := by
  simp only [toStep]; split
  · exact toBarring_wrote h
  · exact toSealing_wrote h
  · exact toUnsealing_wrote h
  · exact toLifting_wrote h
  · exact h

theorem leaveHeld_wrote (h : Wrote e (PortalWrite i) a p) : Wrote e (PortalWrite i) a (leaveHeld e i p) := by
  simp only [leaveHeld]; split
  · exact putPortal_wrote h
  · exact putPortal_wrote h
  · exact putPortal_wrote h
  · exact toStep_wrote (putPortal_wrote h)
  · exact h

theorem applyDemand_wrote (h : Wrote e (PortalWrite i) a p) : Wrote e (PortalWrite i) a (applyDemand e i p) := by
  simp only [applyDemand]; split
  · split <;>
      first
      | with_reducible exact h
      | with_reducible exact toWarning_wrote h
      | with_reducible exact toOpen_wrote h
      | with_reducible exact toHeld_wrote h
      | with_reducible exact toLifting_wrote h
      | with_reducible exact toUnsealing_wrote h
      | with_reducible exact toSealing_wrote h
      | with_reducible exact toBarring_wrote h
      | with_reducible exact leaveHeld_wrote h
      | (split <;> first | with_reducible exact toSealing_wrote h | with_reducible exact h)
  · exact h

theorem portalDemands_wrote (h : Wrote e (PortalWrite i) a p) : Wrote e (PortalWrite i) a (portalDemands e i p) :=
  applyDemand_wrote (applyDemand_wrote (applyDemand_wrote (applyDemand_wrote (applyDemand_wrote h))))

theorem settlePortal_wrote (h : Wrote e (PortalWrite i) a p) : Wrote e (PortalWrite i) a (settlePortal e i p) := by
  simp only [settlePortal]; split
  · exact putPortal_wrote h
  · split
    · exact leaveHeld_wrote h
    · exact putPortal_wrote h id

theorem endHand_wrote {why : HandResult} (h : Wrote e (PortalWrite i) a p) : Wrote e (PortalWrite i) a (endHand e i why p) :=
  putPortal_wrote (letGo_wrote h)

theorem stopHand_wrote (h : Wrote e (PortalWrite i) a p) : Wrote e (PortalWrite i) a (stopHand e i p) := by
  simp only [stopHand]; split
  · exact h
  · exact endHand_wrote h

theorem setHand_wrote {m : HandMotion} (h : Wrote e (PortalWrite i) a p) : Wrote e (PortalWrite i) a (setHand e i m p) := by
  simp only [setHand]; split
  · exact endHand_wrote h
  · exact driveOrQueue_wrote (putPortal_wrote h id)

theorem onPermit_wrote (h : Wrote e (PortalWrite i) a p) : Wrote e (PortalWrite i) a (onPermit e i p) := by
  simp only [onPermit]; split
  · exact driveOrQueue_wrote h
  · exact driveOrQueue_wrote h
  · split
    · exact sealOrQueue_wrote h
    · exact guardLost_wrote h
  · split
    · exact driveOrQueue_wrote h
    · exact toUnsealingAway_wrote h
  · split
    · exact endHand_wrote h
    · split
      · exact letGo_wrote h
      · exact driveOrQueue_wrote h
  · exact letGo_wrote h

theorem withdrawPermit_wrote (h : Wrote e (PortalWrite i) a p) : Wrote e (PortalWrite i) a (withdrawPermit e i p) := by
  simp only [withdrawPermit]; split
  · exact joinPortal_wrote (putPortal_wrote h)
  · exact h

theorem completeStep_wrote (h : Wrote e (PortalWrite i) a p) : Wrote e (PortalWrite i) a (completeStep e i p) := by
  simp only [completeStep]; split
  · exact toClearing_wrote h
  · exact toSealed_wrote h
  · exact toLifting_wrote (letGo_wrote h)
  · exact toOpen_wrote h
  · exact h

theorem onLimit_wrote (h : Wrote e (PortalWrite i) a p) : Wrote e (PortalWrite i) a (onLimit e i p) := by
  simp only [onLimit]
  repeat' split
  all_goals
    first
    | with_reducible exact endHand_wrote h
    | with_reducible exact completeStep_wrote h
    | with_reducible exact guardLost_wrote h
    | with_reducible exact toUnsealingAway_wrote h
    | with_reducible exact h

theorem onEdge_wrote (h : Wrote e (PortalWrite i) a p) : Wrote e (PortalWrite i) a (onEdge e i p) := by
  simp only [onEdge]
  repeat' split
  all_goals first | with_reducible exact obstruct_wrote h | exact endHand_wrote h | exact h

theorem retrySealing_wrote (h : Wrote e (PortalWrite i) a p) : Wrote e (PortalWrite i) a (retrySealing e i p) := by
  simp only [retrySealing]; split
  · exact toSealed_wrote (putPortal_wrote h)
  · exact joinPortal_wrote (putPortal_wrote h)

theorem portalOut_wrote (h : Wrote e (PortalWrite i) a p) : Wrote e (PortalWrite i) a (portalOut e i p) :=
  putPortal_wrote (enterIdle_wrote (stopHand_wrote h))

theorem portalInHand_wrote (h : Wrote e (PortalWrite i) a p) : Wrote e (PortalWrite i) a (portalInHand e i p) := by
  simp only [portalInHand]
  split
  · exact putPortal_wrote (letGo_wrote h)
  · exact putPortal_wrote h

theorem portalInService_wrote (h : Wrote e (PortalWrite i) a p) : Wrote e (PortalWrite i) a (portalInService e i p) :=
  settlePortal_wrote (letGo_wrote (stopHand_wrote h))

theorem resetPortal_wrote (h : Wrote e (PortalWrite i) a p) : Wrote e (PortalWrite i) a (resetPortal e i p) := by
  have hhand : Wrote e (PortalWrite i) a (if (p.portals.get i).seq = .hand then stopHand e i p else p) := by
    split
    · exact stopHand_wrote h
    · exact h
  simp only [resetPortal]; split
  · split
    · exact putPortal_wrote h id
    · exact toStep_wrote (putPortal_wrote hhand)
  · exact putPortal_wrote hhand

end Portals

/-! ### Pump Duty -/

section Pumps
variable {e : Env} {a p : Plant}

theorem putPump_wrote {i : PumpId} {q : Pump} (h : Wrote e PumpWrite a p) : Wrote e PumpWrite a (putPump e i q p) :=
  h.write (.pump i q) trivial

theorem haltPump_wrote {i : PumpId} {k : Stop} (h : Wrote e PumpWrite a p) : Wrote e PumpWrite a (haltPump e i k p) := by
  have hlead : ∀ (c : Prop) [Decidable c] {u : SumpId} {q : Pump},
      Wrote e PumpWrite a (if c then advanceLead e u (putPump e i q p) else putPump e i q p) := by
    intro c _ u q
    split
    · exact (putPump_wrote h).write (.lead u) trivial
    · exact putPump_wrote h
  cases k with
  | fault f => exact (hlead _).write (.raise .pumpFault) rfl
  | _ => exact hlead _

theorem unqueuePump_wrote {i : PumpId} (h : Wrote e PumpWrite a p) : Wrote e PumpWrite a (unqueuePump e i p) :=
  putPump_wrote (h.write (.drop (.pump i)) ⟨i, rfl⟩)

theorem queuePump_wrote {i : PumpId} (h : Wrote e PumpWrite a p) : Wrote e PumpWrite a (queuePump e i p) :=
  (putPump_wrote h).write (.join (.pump i)) ⟨i, rfl⟩

theorem standingStops_wrote {u : SumpId} (n : Nat) : ∀ {p : Plant}, Wrote e PumpWrite a p → Wrote e PumpWrite a (standingStops e u n p) := by
  induction n with
  | zero => exact id
  | succ n ih =>
    intro p h
    simp only [standingStops]; split
    · exact h
    · exact ih (foldl_wrote (fun _ _ => haltPump_wrote) _ h)

theorem queueOrLeave_wrote {wanted : List PumpId} {i : PumpId} (h : Wrote e PumpWrite a p) :
    Wrote e PumpWrite a (queueOrLeave e wanted i p) := by
  simp only [queueOrLeave]; split
  · exact queuePump_wrote h
  · exact unqueuePump_wrote h
  · exact h

theorem dutySump_wrote {u : SumpId} (h : Wrote e PumpWrite a p) : Wrote e PumpWrite a (dutySump e u p) :=
  foldl_wrote (fun _ _ => queueOrLeave_wrote) _ (standingStops_wrote _ h)

theorem dutyAll_wrote (h : Wrote e PumpWrite a p) : Wrote e PumpWrite a (dutyAll e p) := foldl_wrote (fun _ _ => dutySump_wrote) _ h

theorem immediateStop_wrote {i : PumpId} (h : Wrote e PumpWrite a p) : Wrote e PumpWrite a (immediateStop e i p) := by
  simp only [immediateStop]; split
  · split <;> first | with_reducible exact haltPump_wrote h | exact unqueuePump_wrote h | exact h
  · exact h

theorem immediateStops_wrote (h : Wrote e PumpWrite a p) : Wrote e PumpWrite a (immediateStops e p) :=
  foldl_wrote (fun _ _ => immediateStop_wrote) _ h

theorem outfallStops_wrote (n : Nat) : ∀ {p : Plant}, Wrote e PumpWrite a p → Wrote e PumpWrite a (outfallStops e n p) := by
  induction n with
  | zero => exact id
  | succ n ih =>
    intro p h
    simp only [outfallStops]; split
    · split
      · exact ih (haltPump_wrote h)
      · exact h
    · exact h

theorem becomeRunning_wrote {i : PumpId} (h : Wrote e PumpWrite a p) : Wrote e PumpWrite a (becomeRunning e i p) := putPump_wrote h

theorem faultAtGrant_wrote {i : PumpId} (h : Wrote e PumpWrite a p) : Wrote e PumpWrite a (faultAtGrant e i p) :=
  (putPump_wrote h).write (.raise .pumpFault) rfl

theorem dropPumps_wrote (h : Wrote e PumpWrite a p) : Wrote e PumpWrite a (dropPumps e p) := by
  refine foldl_wrote (fun q i hq => ?_) _ h
  split
  · exact haltPump_wrote hq
  · exact hq

theorem onFeedback_wrote {i : PumpId} {v : Bool} (h : Wrote e PumpWrite a p) : Wrote e PumpWrite a (onFeedback e i v p) := by
  simp only [onFeedback]; split <;> first | with_reducible exact putPump_wrote h | exact becomeRunning_wrote h | exact h

theorem pumpOut_wrote {i : PumpId} (h : Wrote e PumpWrite a p) : Wrote e PumpWrite a (pumpOut e i p) := by
  simp only [pumpOut]
  refine putPump_wrote ?_
  split <;> first | with_reducible exact haltPump_wrote h | exact unqueuePump_wrote h | exact putPump_wrote h | exact h

theorem pumpInHand_wrote {i : PumpId} (h : Wrote e PumpWrite a p) : Wrote e PumpWrite a (pumpInHand e i p) := by
  simp only [pumpInHand]
  refine putPump_wrote ?_
  split
  · exact unqueuePump_wrote h
  · exact h

theorem pumpInService_wrote {i : PumpId} (h : Wrote e PumpWrite a p) : Wrote e PumpWrite a (pumpInService e i p) := by
  simp only [pumpInService]; split
  · exact unqueuePump_wrote h
  · exact h

end Pumps

/-! ### The zones -/

section Zones
variable {e : Env} {a p : Plant}

@[simp] theorem rerun_kept {now goal : Nat} {q : Zone} : (q.rerun now goal).deficit = q.deficit ∧ (q.rerun now goal).flag = q.flag ∧
    (q.rerun now goal).hand = q.hand ∧ (q.rerun now goal).output = q.output ∧ (q.rerun now goal).allowance = q.allowance ∧
    (q.rerun now goal).comp = q.comp := ⟨rfl, rfl, rfl, rfl, rfl, rfl⟩

/-- An allocation leaves what a measurement and a hand drive have written (R149, R43). -/
theorem takeAllowance_kept {z : ZoneId} {room : Bool} {n : Nat} {q : Zone} :
    (takeAllowance e p z room n q).deficit = q.deficit ∧ (takeAllowance e p z room n q).flag = q.flag ∧
      (takeAllowance e p z room n q).hand = q.hand := by
  simp only [takeAllowance]
  split <;> exact ⟨rfl, rfl, rfl⟩

/-- The zones of a list are written one after the other, each with a record of its own. -/
theorem foldl_putZone_wrote {l : List ZoneId} (hl : l.Nodup) {f : Plant → ZoneId → Zone}
    (hf : ∀ q z, (f q z).deficit = (p.zones.get z).deficit ∧ (f q z).flag = (p.zones.get z).flag ∧ (f q z).hand = (p.zones.get z).hand) :
    ∀ {b : Plant}, Wrote e ZoneWrite a b → (∀ z ∈ l, b.zones.get z = p.zones.get z) →
      Wrote e ZoneWrite a (l.foldl (fun b z => putZone e z (f b z) b) b) := by
  induction l with
  | nil => exact fun h _ => h
  | cons z l ih =>
    obtain ⟨hz, hnodup⟩ := List.nodup_cons.mp hl
    intro b h hb
    refine ih hnodup (h.write (.zone z (f b z)) ?_) fun y hy => ?_
    · simp only [ZoneWrite, hb z List.mem_cons_self]
      exact hf b z
    · have hne : y ≠ z := fun he => hz (he ▸ hy)
      change (putZone e z _ b).zones.get y = _
      rw [putZone_zones, PerZone.get_set_ne _ _ hne, hb y (List.mem_cons_of_mem _ hy)]

theorem lampPass_wrote (h : Wrote e ZoneWrite a p) : Wrote e ZoneWrite a (lampPass e p) := by
  simp only [lampPass]
  refine foldl_putZone_wrote (by decide) (fun q z => ?_) h fun z _ => rfl
  simpa [retarget] using takeAllowance_kept (e := e) (p := q)

end Zones

/-! ### Every block -/

section Blocks
variable {e : Env} {a p : Plant}

theorem PortalWrite.block {i : PortalId} {q : Plant} {w : PlantWrite} (h : PortalWrite i q w) : BlockWrite q w := by
  cases w <;> simp_all [PortalWrite, BlockWrite]

theorem PumpWrite.block {q : Plant} {w : PlantWrite} (h : PumpWrite q w) : BlockWrite q w := by
  cases w <;> simp_all [PumpWrite, BlockWrite]

theorem ZoneWrite.block {q : Plant} {w : PlantWrite} (h : ZoneWrite q w) : BlockWrite q w := by
  cases w <;> simp_all [ZoneWrite, BlockWrite]

theorem ofPortal {i : PortalId} {b : Plant} (h : Wrote e BlockWrite a p) (hp : Wrote e (PortalWrite i) p b) : Wrote e BlockWrite a b :=
  h.trans (hp.mono PortalWrite.block)

theorem ofPumps {b : Plant} (h : Wrote e BlockWrite a p) (hp : Wrote e PumpWrite p b) : Wrote e BlockWrite a b :=
  h.trans (hp.mono PumpWrite.block)

theorem ofZones {b : Plant} (h : Wrote e BlockWrite a p) (hp : Wrote e ZoneWrite p b) : Wrote e BlockWrite a b :=
  h.trans (hp.mono ZoneWrite.block)

theorem sequencers_wrote (h : Wrote e BlockWrite a p) : Wrote e BlockWrite a (sequencers e p) :=
  ofPortal (ofPortal h (portalDemands_wrote .refl)) (portalDemands_wrote .refl)

theorem ownersAct_wrote (h : Wrote e BlockWrite a p) : Wrote e BlockWrite a (ownersAct e p) :=
  ofZones (sequencers_wrote (ofPumps h (dutyAll_wrote .refl))) (lampPass_wrote .refl)

theorem grantPump_wrote {i : PumpId} (h : Wrote e BlockWrite a p) : Wrote e BlockWrite a (grantPump e i p) := by
  have hq : ∀ {q : Pump}, Wrote e BlockWrite a (lampPass e (putPump e i q (noteGrant (.pump i) (dropRequest (.pump i) p)))) :=
    ofZones (ofPumps ((h.write (.drop (.pump i)) trivial).write (.note (.pump i)) trivial) (putPump_wrote .refl)) (lampPass_wrote .refl)
  simp only [grantPump]
  refine Wrote.write (p := ite _ _ _) ?_ (.spacing _) trivial
  split
  · exact ofPumps hq (faultAtGrant_wrote .refl)
  · split
    · exact ofPumps hq (becomeRunning_wrote .refl)
    · exact hq

theorem grantPortal_wrote {i : PortalId} (h : Wrote e BlockWrite a p) : Wrote e BlockWrite a (grantPortal e i p) :=
  ofPortal
    (ofZones ((((ofPortal h (unqueuePortal_wrote .refl))).write (.note (.portal i)) trivial).write (.portal i _) trivial)
      (lampPass_wrote .refl))
    (onPermit_wrote .refl)

theorem grantRequest_wrote {r : Request} (h : Wrote e BlockWrite a p) : Wrote e BlockWrite a (grantRequest e r p) := by
  simp only [grantRequest]; split
  · exact grantPump_wrote h
  · exact grantPortal_wrote h
  · exact h.write (.drop r.unit) trivial

theorem grantPass_wrote (n : Nat) : ∀ {p : Plant}, Wrote e BlockWrite a p → Wrote e BlockWrite a (grantPass e n p) := by
  induction n with
  | zero => exact id
  | succ n ih =>
    intro p h
    simp only [grantPass]; split
    · exact h
    · split
      · exact ih (ownersAct_wrote (grantRequest_wrote h))
      · exact h

/-- The plant as its blocks leave it, before the condition causes are refreshed (log 19). -/
def blocksAct (e : Env) (p : Plant) : Plant := grantPass e 40 (ownersAct e (outfallStops e 8 (immediateStops e p)))

theorem settlePlant_eq : settlePlant e p = refreshConditions e (blocksAct e p) := rfl

theorem blocksAct_wrote (h : Wrote e BlockWrite a p) : Wrote e BlockWrite a (blocksAct e p) :=
  grantPass_wrote _ (ownersAct_wrote (ofPumps h (outfallStops_wrote _ (immediateStops_wrote .refl))))

end Blocks

end Sys2Proof.Machine

/-! What an event before `settle` writes, and the Attention Unit: its relay's rule and its changed sets are kept by every report, raise and
refreshed condition (R174 to R181), so by every step. -/

namespace Sys2Proof.Machine

/-! ### What an event leaves -/

section Event
variable {s t : State}

/-- An event before the blocks act writes pins, windows, luminance scales and portal settings, and the plant; nothing else. -/
theorem Event.frame (h : Event s t) :
    t.store = s.store ∧
      t.env =
        { s.env with
          pins := t.env.pins
          windows := t.env.windows
          cfg := { s.env.cfg with luminanceScale := t.env.cfg.luminanceScale, portals := t.env.cfg.portals } } := by
  cases h <;> exact ⟨rfl, rfl⟩

/-- Its plant keeps the unit records, and the Attention Unit changes by reports and raises. -/
theorem Event.kept (h : Event s t) : Kept t.env s.plant t.plant := by
  cases h with
  | drive d => exact applyDrive_kept .refl
  | resetPump i => exact report_kept (resetPump_kept .refl)
  | resetPortal i => exact report_kept (resetPortal_kept .refl)
  | dryRunInput i v => exact putPump_kept .refl
  | halt i k => exact haltPump_kept .refl
  | thermal i => exact haltPump_kept (e := (putThermal i true s).env) (i := i) (k := .fault .thermal) .refl
  | feedback i v => exact onFeedback_kept .refl
  | surgeEnd i => exact putPump_kept .refl
  | minRunEnd i => exact putPump_kept .refl
  | restEnd i => exact putPump_kept .refl
  | startEntryEnd i => exact putPump_kept .refl
  | warningEnd i => exact toBarring_kept .refl
  | limitChange i sw v => exact onLimit_kept .refl
  | travelEnd i => exact toJammed_kept .refl
  | handTravelEnd i => exact endHand_kept .refl
  | loopChange v occupied => exact Kept.refl.same rfl rfl
  | clearConfirmEnd i => exact toSealing_kept .refl
  | clearLimitEnd i => exact markOverdue_kept .refl
  | edgeOn i => exact onEdge_kept .refl
  | edgeOff i => exact .refl
  | retryEnd i => exact retrySealing_kept .refl
  | window d w => exact .refl
  | scales v w => exact .refl
  | portalSettings i v => exact .refl

end Event

/-! ### Changed sets (R179 to R181) -/

section ChangedSets
variable {c : ChangedSet} {now : Nat}

/-- A report leaves a changed set in order: an entry keeps its place, a new record joins, a 65th empties the set. -/
theorem ChangedSetOk.take {k : RecordKey} {why : Option Reason} (h : ChangedSetOk c) : ChangedSetOk (c.take now k why) := by
  obtain ⟨hlen, hnodup, hempty⟩ := h
  simp only [ChangedSet.take]
  split
  · have hkeys : (c.entries.map fun x => if x.key == k then { x with reason := why.or x.reason } else x).map Entry.key =
        c.entries.map Entry.key := by
      rw [List.map_map]
      refine List.map_congr_left fun x _ => ?_
      simp only [Function.comp]
      split <;> rfl
    exact ⟨by simpa using hlen, by simpa only [hkeys] using hnodup, fun h => hempty (by simpa using h)⟩
  · split
    · exact ⟨Nat.zero_le _, List.nodup_nil, fun _ => rfl⟩
    · rename_i hnew hroom
      refine ⟨?_, ?_, by simp⟩
      · simp only [List.length_append, List.length_singleton]
        omega
      · rw [List.map_append]
        refine List.Nodup.append hnodup (List.nodup_singleton _) ?_
        simpa [List.disjoint_right] using hnew

theorem ChangedSetOk.dropOldest (n : Nat) (h : ChangedSetOk c) : ChangedSetOk (c.dropOldest n) := by
  obtain ⟨hlen, hnodup, hempty⟩ := h
  refine ⟨?_, ?_, fun he => ?_⟩
  · simp only [ChangedSet.dropOldest, List.length_drop]
    omega
  · rw [ChangedSet.dropOldest, List.map_drop]
    exact hnodup.sublist (List.drop_sublist _ _)
  · simp only [ChangedSet.dropOldest] at he ⊢
    simp [he]

theorem ChangedSetOk.afterRead (b : Bool) (h : ChangedSetOk c) : ChangedSetOk (c.afterRead b) := by
  have hread : ChangedSetOk { c with overfull := false } := h
  simp only [ChangedSet.afterRead]
  split
  · exact hread.dropOldest _
  · exact hread

/-- A timer that runs stands beside an entry, so that it may run out (R181). -/
theorem ChangedSetOk.retimed {m : ModTimer} (h : ChangedSetOk c) (hm : c.timer = .stopped → m = .stopped) :
    ChangedSetOk { c with timer := m } := by
  obtain ⟨hlen, hnodup, hempty⟩ := h
  exact ⟨hlen, hnodup, fun he => hm (hempty he)⟩

theorem freshSet_ok : ChangedSetOk freshSet := ⟨Nat.zero_le _, List.nodup_nil, fun _ => rfl⟩

end ChangedSets

/-! ### The Attention Unit's record -/

/-- The relay follows its rule and both changed sets are in order. -/
def AttnOk (masks : Word16) (a : Attention) : Prop :=
  a.relayOn = relayRule a.present masks ∧ ∀ l : Link, ChangedSetOk (a.sets.get l)

section Attention
variable {masks : Word16} {a : Attention} {now : Nat}

@[simp] theorem setCount_present (a : Attention) (c : Cause) (n : Nat) : (a.setCount c n).present = a.present := rfl
@[simp] theorem setCount_sets (a : Attention) (c : Cause) (n : Nat) : (a.setCount c n).sets = a.sets := rfl
@[simp] theorem setCount_relayOn (a : Attention) (c : Cause) (n : Nat) : (a.setCount c n).relayOn = a.relayOn := rfl

/-- Counts may be written one after the other; the present set, the changed sets and the relay stand. -/
theorem foldl_setCount (l : List Cause) (n : Nat) (a : Attention) :
    (l.foldl (fun b c => b.setCount c n) a).present = a.present ∧ (l.foldl (fun b c => b.setCount c n) a).sets = a.sets ∧
      (l.foldl (fun b c => b.setCount c n) a).relayOn = a.relayOn := by
  induction l generalizing a with
  | nil => exact ⟨rfl, rfl, rfl⟩
  | cons c l ih => exact ih (a.setCount c n)

/-- A report to both sets keeps both in order. -/
theorem reported_ok {k : RecordKey} {why : Option Reason} (h : ∀ l : Link, ChangedSetOk (a.sets.get l)) (l : Link) :
    ChangedSetOk ((a.report now k why).sets.get l) := by
  cases l with
  | field => exact (h .field).take
  | panel => exact (h .panel).take

theorem report_attnOk {k : RecordKey} {why : Option Reason} (h : AttnOk masks a) : AttnOk masks (a.report now k why) :=
  ⟨h.1, reported_ok h.2⟩

/-- The relay set again by its rule. -/
theorem setRelay_attnOk (h : ∀ l : Link, ChangedSetOk (a.sets.get l)) : AttnOk masks (a.setRelay masks) := ⟨rfl, h⟩

theorem raise_attnOk {c : Cause} (h : AttnOk masks a) : AttnOk masks (a.raise now masks c) :=
  setRelay_attnOk (reported_ok (a := { a with present := a.present ||| c.bit }.setCount c (min 255 (a.count c + 1))) h.2)

theorem conditions_attnOk {w : Word16} (h : AttnOk masks a) : AttnOk masks (a.conditions now masks w) := by
  simp only [Attention.conditions]
  split
  · exact h
  · exact setRelay_attnOk (reported_ok (a := { a with present := _ }) h.2)

theorem acknowledge_attnOk {w : Word16} (h : AttnOk masks a) : AttnOk masks (a.acknowledge now masks w) := by
  simp only [Attention.acknowledge]
  split
  · exact h
  · refine setRelay_attnOk (reported_ok ?_)
    rw [(foldl_setCount _ 0 _).2.1]
    exact h.2

end Attention

/-! ### Every operation of a step -/

section Steps
variable {s : State}

/-- The state's Attention Unit is in order. -/
def AttentionOk (s : State) : Prop := AttnOk s.env.cfg.masks s.plant.attn

theorem AttnReach.ok {e : Env} {a b : Attention} (h : AttnReach e a b) (ha : AttnOk e.cfg.masks a) : AttnOk e.cfg.masks b :=
  h.induct (fun _ _ _ => report_attnOk) (fun _ _ => raise_attnOk) (fun _ _ => conditions_attnOk) ha

/-- What keeps the plant's frame keeps the Attention Unit in order. -/
theorem Kept.attnOk {e : Env} {p q : Plant} (h : Kept e p q) (hp : AttnOk e.cfg.masks p.attn) : AttnOk e.cfg.masks q.attn := h.attn.ok hp

theorem foldl_attnOk {β : Type} {masks : Word16} {f : Plant → β → Plant} (hf : ∀ p x, AttnOk masks p.attn → AttnOk masks (f p x).attn)
    (l : List β) {p : Plant} (h : AttnOk masks p.attn) : AttnOk masks (l.foldl f p).attn := by
  induction l generalizing p with
  | nil => exact h
  | cons x l ih => exact ih (hf _ _ h)

theorem settle_attentionOk (h : AttentionOk s) : AttentionOk (settle s) := (settlePlant_kept .refl).attnOk h

theorem resolve_attentionOk {us : List UnitId} (h : AttentionOk s) : AttentionOk (resolve us s) :=
  foldl_attnOk (masks := s.env.cfg.masks) (f := fun p u => syncUnit (resolve us s).env u p)
    (fun _ _ hp => (syncUnit_attn (e := (resolve us s).env)).ok hp) us
    (foldl_attnOk (f := fun p n => report (resolve us s).env (.order n) none p) (fun _ _ hp => report_attnOk hp) _ h)

theorem removeOrders_attentionOk {gone : Order → Bool} {why : Reason} (h : AttentionOk s) : AttentionOk (removeOrders gone why s) :=
  foldl_attnOk (masks := s.env.cfg.masks) (f := fun p (o : Order) => report s.env (.order o.number) (some why) p)
    (fun _ _ hp => report_attnOk hp) _ h

theorem standDown_attentionOk (h : AttentionOk s) : AttentionOk (standDown s) := resolve_attentionOk (removeOrders_attentionOk h)

theorem joinTable_attentionOk {issuer : Issuer} {holder : Nat} {u : UnitId} {r : Rank} {v : Verb} {x y z : Option Nat}
    (h : AttentionOk s) : AttentionOk (joinTable issuer holder u r v x y z s) := report_attnOk h

theorem putStore_attentionOk {t : Store} (h : AttentionOk s) : AttentionOk (putStore t s) := by
  simp only [putStore]
  split
  · exact h
  · exact report_attnOk (masks := s.env.cfg.masks) h

theorem noteFailure_attentionOk {how : WriteEnd} (h : AttentionOk s) : AttentionOk (noteFailure how s) := by
  simp only [noteFailure]
  split
  · exact h
  · exact raise_attnOk (masks := s.env.cfg.masks) h

theorem takeSection_attentionOk {u : SumpId} {m : Section} (h : AttentionOk s) : AttentionOk (takeSection u m s) := by
  have hsec {c : Bool} {e : Env} (he : e.cfg = s.env.cfg) : AttnOk s.env.cfg.masks (reportSection e u (s.env.sumps.get u) m c s.plant).attn := by
    have := (reportSection_kept (e := e) (u := u) (old := s.env.sumps.get u) (new := m) (c := c) (Kept.refl (p := s.plant))).attnOk
    rw [he] at this
    exact this h
  simp only [takeSection]
  split
  · exact standDown_attentionOk (hsec rfl)
  · exact hsec rfl

theorem latchSump_attentionOk {u : SumpId} (h : AttentionOk s) : AttentionOk (latchSump u s) := by
  simp only [latchSump]
  split <;> exact h

theorem putSet_attentionOk {l : Link} {c : ChangedSet} (h : AttentionOk s) (hc : ChangedSetOk c) : AttentionOk (putSet l c s) := by
  refine ⟨h.1, fun k => ?_⟩
  by_cases hk : k = l
  · subst hk
    simpa [putSet] using hc
  · simpa [putSet, PerLink.get_set_ne _ _ hk] using h.2 k

theorem recordService_attentionOk {u : UnitId} {v : Service} (h : AttentionOk s) : AttentionOk (recordService u v s) := by
  have hmasks : (s.env.cfg.setService u v).masks = s.env.cfg.masks := by cases u <;> rfl
  have hin : AttentionOk
      { s with env := { s.env with cfg := s.env.cfg.setService u v }, plant := enterService { s.env with cfg := s.env.cfg.setService u v } u v s.plant } := by
    refine (enterService_kept (e := { s.env with cfg := s.env.cfg.setService u v }) .refl).attnOk ?_
    simp only [hmasks]
    exact h
  exact report_attnOk (resolve_attentionOk (us := [u]) hin)

theorem changeService_attentionOk {u : UnitId} {v : Service} (h : AttentionOk s) : AttentionOk (changeService u v s) := by
  simp only [changeService]
  split
  · exact settle_attentionOk ((makeRoom_kept _ .refl).attnOk (recordService_attentionOk h))
  · exact settle_attentionOk (recordService_attentionOk h)

theorem placeOrder_attentionOk {l : Link} {w : Wish} (h : AttentionOk s) : AttentionOk (placeOrder l w s) := by
  have hout : AttentionOk
      (if (replacedBy s l w).isSome then removeOrders (sameOwner (issuerOfLink l) w.holder w.unit) .replaced s else s) := by
    split
    · exact removeOrders_attentionOk h
    · exact h
  simp only [placeOrder]
  split
  · exact putStore_attentionOk (resolve_attentionOk (joinTable_attentionOk hout))
  · exact resolve_attentionOk (joinTable_attentionOk hout)

theorem acceptAmend_attentionOk {m : Marks} {o a : Order} (h : AttentionOk s) : AttentionOk (acceptAmend m o a s).1 := by
  have hrep : AttnOk s.env.cfg.masks (report s.env (.order o.number) none s.plant).attn := report_attnOk h
  simp only [acceptAmend]
  split
  · refine settle_attentionOk ?_
    split
    · exact hrep
    · exact resolve_attentionOk hrep
  · exact h

theorem acceptWithdraw_attentionOk {o : Order} (h : AttentionOk s) : AttentionOk (acceptWithdraw o s).1 := by
  refine settle_attentionOk ?_
  split
  · exact putStore_attentionOk (resolve_attentionOk (removeOrders_attentionOk h))
  · exact resolve_attentionOk (removeOrders_attentionOk h)

theorem restartSump_attentionOk {u : SumpId} (h : AttentionOk s) : AttentionOk (restartSump u s) := takeSection_attentionOk (s := { s with plant := resetLead u s.plant }) h

theorem takeGroup_attentionOk {u : SumpId} {g : Group} (h : AttentionOk s) : AttentionOk (takeGroup u g s) := by
  refine settle_attentionOk ?_
  cases g with
  | calibration c => exact restartSump_attentionOk (s := s.withCfg _) h
  | staging st => exact takeSection_attentionOk (s := s.withCfg _) h
  | floats f => exact h
  | positions l => exact latchSump_attentionOk (s := s.withCfg _) h

theorem takePumpCfg_attentionOk {i : PumpId} {v : PumpCfg} (h : AttentionOk s) : AttentionOk (takePumpCfg i v s) := by
  simp only [takePumpCfg]
  split
  · exact h
  · exact standDown_attentionOk h

theorem takeSupplyCfg_attentionOk {v : SupplyCfg} (h : AttentionOk s) : AttentionOk (takeSupplyCfg v s) :=
  (checkWaits_kept (checkSpacing_kept (checkTransfer_kept (settlePlant_kept .refl)))).attnOk h

theorem bootState_attentionOk (pins : Inputs) (b : BootIn) (t : Store) (pd : List Instr) (lines : PerLink (List LineChar)) :
    AttentionOk (bootState pins b t pd lines) := by
  refine ⟨?_, fun l => ?_⟩
  · simp only [bootState, bootAttention, (foldl_setCount _ 1 _).1]
  · simp only [bootState, bootAttention, (foldl_setCount _ 1 _).2.1, PerLink.get_all]
    exact freshSet_ok

/-- Every act keeps the relay's rule and both changed sets in order. -/
theorem Act.attentionOk {t : State} (h : AttentionOk s) (ha : Act s t) : AttentionOk t := by
  cases ha with
  | nothing => exact h
  | tick => exact h
  | fieldRate v => exact h
  | keyInput k v => exact h
  | floatInput u f v => exact h
  | thermalInput i v => exact h
  | supplyInput g b => exact h
  | @event s1 he =>
    have hmasks : s1.env.cfg.masks = s.env.cfg.masks := by rw [he.frame.2]
    refine settle_attentionOk (he.kept.attnOk ?_)
    rw [hmasks]
    exact h
  | deficit z n => exact (measureDeficit_kept .refl).attnOk h
  | ramp z _ => exact (stepRamp_kept .refl).attnOk h
  | starve u _ => exact (starve_kept .refl).attnOk h
  | supplyChange g b v _ => exact (changeSupply_kept .refl).attnOk h
  | transferEnd _ => exact (changeSupply_kept .refl).attnOk h
  | spacingEnd => exact (endSpacing_kept .refl).attnOk h
  | supplyCfg v _ _ _ => exact takeSupplyCfg_attentionOk h
  | acknowledge w => exact acknowledge_attnOk h
  | masks w => exact setRelay_attnOk h.2
  | afterRead l b => exact putSet_attentionOk h ((h.2 l).afterRead b)
  | clearChanges l n => exact putSet_attentionOk h ((h.2 l).dropOldest n)
  | reporting l r =>
    refine putSet_attentionOk (s := s.withCfg _) h ((h.2 l).retimed fun hm => ?_)
    change ModTimer.recheck _ _ (s.plant.attn.sets.get l).timer = _
    rw [hm, ModTimer.recheck]
    nofun
  | moderation l hdue =>
    refine putSet_attentionOk h ((h.2 l).retimed fun hm => ?_)
    simp [moderationDue, hm] at hdue
  | save _ => exact putStore_attentionOk h
  | restart => exact h
  | writeEnd how => exact noteFailure_attentionOk (putStore_attentionOk h)
  | boot pins cut b => exact bootState_attentionOk ..
  | place l w _ => exact settle_attentionOk (placeOrder_attentionOk h)
  | amend l mask m r v o _ _ _ => exact acceptAmend_attentionOk h
  | withdraw o _ _ => exact acceptWithdraw_attentionOk h
  | authority body k m _ => exact settle_attentionOk (standDown_attentionOk (s := s.withCfg _) h)
  | orderExpiry o _ _ => exact settle_attentionOk (resolve_attentionOk (removeOrders_attentionOk h))
  | keyOn k _ _ => exact settle_attentionOk (resolve_attentionOk (joinTable_attentionOk (s := setKey k true s) h))
  | keyOff k => exact settle_attentionOk (resolve_attentionOk (removeOrders_attentionOk (s := setKey k false s) h))
  | service u v _ _ => exact changeService_attentionOk h
  | pumpSettings i v _ _ => exact settle_attentionOk (takePumpCfg_attentionOk h)
  | zoneSettings z v _ _ => exact settle_attentionOk ((putZone_kept .refl).attnOk h)
  | sample u a b =>
    refine settle_attentionOk ?_
    split
    · exact latchSump_attentionOk (takeSection_attentionOk h)
    · exact takeSection_attentionOk h
  | floatEnd u f v => exact settle_attentionOk (takeSection_attentionOk h)
  | holdEnd u => exact settle_attentionOk (takeSection_attentionOk h)
  | group u n body g _ _ => exact takeGroup_attentionOk h
  | restartSection u => exact settle_attentionOk (restartSump_attentionOk h)
  | ring u l _ => exact settle_attentionOk h

end Steps

/-- Settles O52: every act keeps the Attention Unit in order. -/
theorem attentionInvariantKept : Obligations.AttentionInvariantKept := fun _ _ hr hc hstep =>
  step_keeps (P := AttentionOk) (Q := AttentionOk) (fun ⟨_, _, h⟩ hs => h ▸ hs) (fun ⟨_, _, h⟩ hs => h ▸ hs)
    (fun hs ha => ha.attentionOk hs) ⟨hr, hc⟩ hstep

end Sys2Proof.Machine

/-! The duty rings (R74 to R79): every write of the plant's blocks keeps each lead within its ring and each latch beside its position; the
moves of pumps and the new orders keep the rings themselves. -/

namespace Sys2Proof.Machine

/-! ### Operations that are runs of writes of any kind -/

/-- Every write is allowed. -/
def AnyWrite (_ : Plant) (_ : PlantWrite) : Prop := True

section Any
variable {e : Env} {a p : Plant}

theorem Wrote.any {ok : Plant → PlantWrite → Prop} (h : Wrote e ok a p) : Wrote e AnyWrite a p := h.mono fun _ => trivial

theorem Wrote.then_any {ok : Plant → PlantWrite → Prop} {b : Plant} (h : Wrote e AnyWrite a p) (h' : Wrote e ok p b) : Wrote e AnyWrite a b :=
  h.trans h'.any

theorem putZone_any {z : ZoneId} {q : Zone} (h : Wrote e AnyWrite a p) : Wrote e AnyWrite a (putZone e z q p) := h.write (.zone z q) trivial

theorem raiseCause_any {c : Cause} (h : Wrote e AnyWrite a p) : Wrote e AnyWrite a (raiseCause e c p) := h.write (.raise c) trivial

theorem measureDeficit_wrote {z : ZoneId} {n : Nat} (h : Wrote e AnyWrite a p) : Wrote e AnyWrite a (measureDeficit e z n p) := by
  simp only [measureDeficit]
  split
  · split
    · exact (raiseCause_any (putZone_any h)).then_any (lampPass_wrote .refl)
    · exact (putZone_any h).then_any (lampPass_wrote .refl)
  · exact h

theorem stepRamp_wrote {z : ZoneId} (h : Wrote e AnyWrite a p) : Wrote e AnyWrite a (stepRamp e z p) := by
  simp only [stepRamp]
  split
  · exact putZone_any h
  · exact h

theorem starve_wrote {u : UnitId} (h : Wrote e AnyWrite a p) : Wrote e AnyWrite a (starve e u p) := by
  simp only [starve]
  split
  · exact raiseCause_any (h.then_any (putPump_wrote .refl))
  · exact raiseCause_any (h.write (.portal _ _) trivial)
  · exact h

theorem checkWaits_wrote (h : Wrote e AnyWrite a p) : Wrote e AnyWrite a (checkWaits e p) := foldl_wrote (fun _ _ => starve_wrote) _ h

theorem withdrawPermits_wrote {l : List PortalId} (h : Wrote e AnyWrite a p) : Wrote e AnyWrite a (withdrawPermits e l p) :=
  foldl_wrote (fun _ _ hq => hq.then_any (withdrawPermit_wrote .refl)) _ h

theorem dropZones_wrote (h : Wrote e AnyWrite a p) : Wrote e AnyWrite a (dropZones e p) := foldl_wrote (fun _ _ => putZone_any) _ h

theorem makeRoom_wrote (n : Nat) : ∀ {p : Plant}, Wrote e AnyWrite a p → Wrote e AnyWrite a (makeRoom e n p) := by
  induction n with
  | zero => exact id
  | succ n ih =>
    intro p h
    simp only [makeRoom]
    split
    · split
      · exact ih (h.then_any (haltPump_wrote .refl))
      · exact withdrawPermits_wrote h
    · exact h

theorem onLock_wrote {u : UnitId} (h : Wrote e AnyWrite a p) : Wrote e AnyWrite a (onLock e u p) := by
  cases u with
  | pump i =>
    simp only [onLock]
    split
    · exact h.then_any (putPump_wrote .refl)
    · exact h
  | portal i =>
    simp only [onLock]
    split
    · exact h.then_any (putPortal_wrote (stopHand_wrote .refl))
    · split <;> first | with_reducible exact h | exact h.then_any (toHeld_wrote .refl)
    · exact h
  | zone z =>
    simp only [onLock]
    split
    · exact putZone_any h
    · exact h
  | outfall => exact h

theorem onUnlock_wrote {u : UnitId} (h : Wrote e AnyWrite a p) : Wrote e AnyWrite a (onUnlock e u p) := by
  simp only [onUnlock]
  split
  · split
    · exact h.then_any (settlePortal_wrote .refl)
    · exact h
  · exact h

theorem enterService_wrote {u : UnitId} {v : Service} (h : Wrote e AnyWrite a p) : Wrote e AnyWrite a (enterService e u v p) := by
  simp only [enterService]
  split
  · exact h.then_any (pumpOut_wrote .refl)
  · exact h.then_any (pumpInHand_wrote .refl)
  · exact h.then_any (pumpInService_wrote .refl)
  · exact h.then_any (portalOut_wrote .refl)
  · exact h.then_any (portalInHand_wrote .refl)
  · exact h.then_any (portalInService_wrote .refl)
  · exact putZone_any h
  · exact putZone_any h
  · exact h
  · exact h

theorem applyDrive_wrote {d : Drive} (h : Wrote e AnyWrite a p) : Wrote e AnyWrite a (applyDrive e d p) := by
  cases d with
  | pump i on => exact h.then_any (putPump_wrote .refl)
  | motion i m => exact h.then_any (setHand_wrote .refl)
  | gateStop i =>
    simp only [applyDrive]
    split
    · exact h.then_any (endHand_wrote .refl)
    · exact h
  | barrierStop i =>
    simp only [applyDrive]
    split
    · exact h.then_any (endHand_wrote .refl)
    · exact h
  | signal i c => exact h.write (.portal i _) trivial
  | level z n => exact putZone_any h

end Any

/-! ### The duty of a sump -/

section Duty
variable {e : Env} {p q : Plant}

/-- Only the lead's advance writes the duty of a sump, and it stays within the ring (R75). -/
theorem advanceLead_fits {u : SumpId} (h : DutyFits e.cfg p.duty) : DutyFits e.cfg (advanceLead e u p).duty := by
  intro v
  by_cases hv : v = u
  · subst hv
    obtain ⟨hlow, hhigh, hlen⟩ := h v
    change 1 ≤ _ ∧ _ ≤ (e.ring v).length ∧ _ = (e.ring v).length
    change _ ≤ (e.ring v).length at hhigh
    simp only [advanceLead, PerSump.get_set]
    refine ⟨?_, ?_, hlen⟩ <;> split <;> omega
  · simpa only [advanceLead, PerSump.get_set_ne _ _ hv] using h v

theorem write_fits {w : PlantWrite} (h : DutyFits e.cfg p.duty) : DutyFits e.cfg (w.run e p).duty := by
  cases w with
  | lead u => exact advanceLead_fits h
  | pump i q => simpa [PlantWrite.run] using h
  | portal i q => simpa [PlantWrite.run] using h
  | zone z q => simpa [PlantWrite.run] using h
  | join u => simpa [PlantWrite.run] using h
  | drop u => exact h
  | note u => exact h
  | spacing t => exact h
  | raise c => exact h

theorem Wrote.fits {ok : Plant → PlantWrite → Prop} (hw : Wrote e ok p q) (h : DutyFits e.cfg p.duty) : DutyFits e.cfg q.duty :=
  hw.induct (P := fun q => DutyFits e.cfg q.duty) (fun _ _ _ => write_fits) h

theorem resetLead_fits {u : SumpId} (h : DutyFits e.cfg p.duty) : DutyFits e.cfg (resetLead u p).duty := by
  intro v
  by_cases hv : v = u
  · subst hv
    obtain ⟨hlow, hhigh, hlen⟩ := h v
    simp only [resetLead, PerSump.get_set]
    exact ⟨Nat.le_refl 1, by omega, hlen⟩
  · simpa only [resetLead, PerSump.get_set_ne _ _ hv] using h v

/-- The four pairs of levels reach every latch of a ring (R79). -/
theorem evaluateLatches_fits {u : SumpId} {f : Nat} (hr : RingsIn e.cfg) (h : DutyFits e.cfg p.duty) :
    DutyFits e.cfg (evaluateLatches e u f p).duty := by
  intro v
  by_cases hv : v = u
  · subst hv
    obtain ⟨hlow, hhigh, hlen⟩ := h v
    obtain ⟨-, hfour, -, hpos, -⟩ := hr v
    simp only [evaluateLatches, PerSump.get_set, List.length_zipWith]
    exact ⟨hlow, hhigh, by omega⟩
  · simpa only [evaluateLatches, PerSump.get_set_ne _ _ hv] using h v

theorem settlePlant_fits (h : DutyFits e.cfg p.duty) : DutyFits e.cfg (settlePlant e p).duty := (blocksAct_wrote .refl).fits h

theorem syncUnit_fits {u : UnitId} (h : DutyFits e.cfg p.duty) : DutyFits e.cfg (syncUnit e u p).duty := by
  simp only [syncUnit]
  repeat' split
  · exact h
  · exact (onLock_wrote .refl).fits h
  · exact (onUnlock_wrote .refl).fits h
  · exact h

theorem foldl_fits {β : Type} {c : WorkConfig} {f : Plant → β → Plant} (hf : ∀ p x, DutyFits c p.duty → DutyFits c (f p x).duty)
    (l : List β) {p : Plant} (h : DutyFits c p.duty) : DutyFits c (l.foldl f p).duty := by
  induction l generalizing p with
  | nil => exact h
  | cons x l ih => exact ih (hf _ _ h)

theorem changeSupply_fits {v : Supply} (h : DutyFits e.cfg p.duty) : DutyFits e.cfg (changeSupply e v p).duty :=
  settlePlant_fits ((dropZones_wrote (withdrawPermits_wrote ((dropPumps_wrote .refl).any))).fits
    (p := setSupply e v p) h)

end Duty

/-! ### The rings -/

/-- The rings depend on the sumps' settings and on the pumps' sumps alone. -/
theorem RingsIn.congr {c c' : WorkConfig} (h : RingsIn c) (hs : c'.sumps = c.sumps)
    (hp : ∀ i, (c'.pumps.get i).sump = (c.pumps.get i).sump) : RingsIn c' := by
  intro u
  obtain ⟨h1, h4, hnodup, hpos, hmem⟩ := h u
  rw [hs]
  exact ⟨h1, h4, hnodup, hpos, fun i => by rw [hp]; exact hmem i⟩

theorem factoryDefaults_rings : RingsIn factoryDefaults := by
  intro u
  cases u <;> exact ⟨by decide, by decide, by decide, by decide, fun i => by cases i <;> decide⟩

/-- What `RingsOk` asks of the store. -/
def StoreRings (t : Store) : Prop :=
  (∀ c, t.image = some c → RingsIn c) ∧ (∀ w, t.inProgress = some w → ImageOk w) ∧ (∀ w, t.waiting = some w → ImageOk w)

theorem RingsOk.intro {s : State} (hr : RingsIn s.env.cfg) (hd : DutyFits s.env.cfg s.plant.duty) (ht : StoreRings s.store) : RingsOk s :=
  ⟨hr, hd, ht⟩

section Store
variable {t : Store}

/-- What a store write asks for keeps what holds of every write. -/
theorem ask_writes {P : Write → Prop} {w : Write} (hin : ∀ x, t.inProgress = some x → P x) (hwait : ∀ x, t.waiting = some x → P x) (hw : P w) :
    (t.ask w).image = t.image ∧ (t.ask w).lockArea = t.lockArea ∧ (∀ x, (t.ask w).inProgress = some x → P x) ∧
      ∀ x, (t.ask w).waiting = some x → P x := by
  simp only [Store.ask]
  split
  · exact ⟨rfl, rfl, fun x hx => Option.some.inj hx ▸ hw, hwait⟩
  · exact ⟨rfl, rfl, hin, fun x hx => Option.some.inj hx ▸ hw⟩

/-- An area after a write holds what it held, what was written, or nothing sound (R184). -/
theorem areaAfter_some {α : Type} {how : WriteEnd} {new v : α} {old : Option α} (h : areaAfter how new old = some v) :
    v = new ∨ old = some v := by
  cases how with
  | succeeded => exact .inl (Option.some.inj h).symm
  | notTaken => exact .inr h
  | readBackDiffers => cases h

theorem endWrite_writes {P : Write → Prop} (how : WriteEnd) (hin : ∀ x, t.inProgress = some x → P x) (hwait : ∀ x, t.waiting = some x → P x) :
    (∀ x, (t.endWrite how).inProgress = some x → P x) ∧ ∀ x, (t.endWrite how).waiting = some x → P x := by
  simp only [Store.endWrite]
  split
  · exact ⟨hwait, by simp⟩
  · exact ⟨hwait, by simp⟩
  · exact ⟨hin, hwait⟩

/-- The image after the end of a write is the one before it or the one that was being written. -/
theorem endWrite_image {how : WriteEnd} {c : WorkConfig} (h : (t.endWrite how).image = some c) :
    t.image = some c ∨ t.inProgress = some (.image c) := by
  simp only [Store.endWrite] at h
  split at h
  · next c' hc =>
    obtain rfl | hold := areaAfter_some h
    · exact .inr hc
    · exact .inl hold
  · exact .inl h
  · exact .inl h

theorem endWrite_lockArea {how : WriteEnd} {l : List StoredLock} (h : (t.endWrite how).lockArea = some l) :
    t.lockArea = some l ∨ t.inProgress = some (.locks l) := by
  simp only [Store.endWrite] at h
  split at h
  · exact .inl h
  · next l' hl =>
    obtain rfl | hold := areaAfter_some h
    · exact .inr hl
    · exact .inl hold
  · exact .inl h

/-- A cut-off write leaves an area as it was, or unsound (R184). -/
theorem cut_image {b : Bool} {c : WorkConfig} (h : (t.cut b).image = some c) : t.image = some c := by
  simp only [Store.cut] at h
  split at h
  · cases h
  · exact h
  · exact h

theorem cut_lockArea {b : Bool} {l : List StoredLock} (h : (t.cut b).lockArea = some l) : t.lockArea = some l := by
  simp only [Store.cut] at h
  split at h
  · exact h
  · cases h
  · exact h

theorem StoreRings.ask {w : Write} (h : StoreRings t) (hw : ImageOk w) : StoreRings (t.ask w) := by
  obtain ⟨himage, hin, hwait⟩ := h
  obtain ⟨hi, -, hin', hwait'⟩ := ask_writes hin hwait hw
  exact ⟨by rwa [hi], hin', hwait'⟩

theorem StoreRings.endWrite {how : WriteEnd} (h : StoreRings t) : StoreRings (t.endWrite how) := by
  obtain ⟨himage, hin, hwait⟩ := h
  exact ⟨fun c hc => (endWrite_image hc).elim (himage c) (hin (.image c)), endWrite_writes how hin hwait⟩

end Store

/-- A configuration that start-up takes is the image's or the factory defaults', but for the service states (R190). -/
theorem bootConfig_cases (t : Store) : ∃ c, (t.image = some c ∨ c = factoryDefaults) ∧ (bootConfig t = c ∨ bootConfig t = c.allOut) := by
  refine ⟨t.image.getD factoryDefaults, ?_, ?_⟩
  · cases t.image with
    | none => exact .inr rfl
    | some c => exact .inl rfl
  · simp only [bootConfig]
    split
    · exact .inl rfl
    · exact .inr rfl

theorem bootConfig_rings {t : Store} (h : ∀ c, t.image = some c → RingsIn c) : RingsIn (bootConfig t) := by
  obtain ⟨c, hc, he⟩ := bootConfig_cases t
  have hin : RingsIn c := hc.elim (h c) fun hd => hd ▸ factoryDefaults_rings
  obtain he | he := he
  · exact he ▸ hin
  · exact he ▸ hin.congr rfl fun _ => rfl

/-! ### The move of a pump (R77) -/

section Move
variable {c : WorkConfig} {i : PumpId} {v : PumpCfg}

theorem putPumpSettings_sump {j : PumpId} :
    ((putSettings (.pump i v) c).pumps.get j).sump = if j = i then v.sump else (c.pumps.get j).sump := by
  split
  · next h => rw [h]; simp [putSettings]
  · next h => simp [putSettings, PerPump.get_set_ne _ _ h]

theorem moveRings_ring {old new u : SumpId} (hne : new ≠ old) :
    ((moveRings i old new c).sumps.get u).ring =
        (if u = new then (c.sumps.get new).ring ++ [i]
         else if u = old then (c.sumps.get old).ring.filter (fun j => j != i) else (c.sumps.get u).ring) ∧
      ((moveRings i old new c).sumps.get u).positions = (c.sumps.get u).positions := by
  by_cases hn : u = new
  · subst hn
    simp [moveRings, WorkConfig.setRing, PerSump.get_set_ne _ _ hne]
  · by_cases ho : u = old
    · subst ho
      simp [moveRings, WorkConfig.setRing, PerSump.get_set_ne _ _ hn, hn]
    · simp [moveRings, WorkConfig.setRing, PerSump.get_set_ne _ _ hn, PerSump.get_set_ne _ _ ho, hn, ho]

/-- A list without doubles loses one entry with a pump that stands in it. -/
theorem length_without {l : List PumpId} (hl : l.Nodup) (hi : i ∈ l) : (l.filter (fun j => j != i)).length = l.length - 1 := by
  rw [← hl.erase_eq_filter, List.length_erase_of_mem hi]

theorem moveRings_in (h : RingsIn c) (hne : v.sump ≠ (c.pumps.get i).sump)
    (hold : (c.sumps.get (c.pumps.get i).sump).ring.length ≠ 1) (hnew : (c.sumps.get v.sump).ring.length < 4) :
    RingsIn (moveRings i (c.pumps.get i).sump v.sump (putSettings (.pump i v) c)) := by
  have hi : i ∈ (c.sumps.get (c.pumps.get i).sump).ring := ((h _).2.2.2.2 i).mpr rfl
  intro u
  obtain ⟨hring, hposition⟩ := moveRings_ring (c := putSettings (.pump i v) c) (i := i) (u := u) hne
  have hpump (j : PumpId) : ((moveRings i (c.pumps.get i).sump v.sump (putSettings (.pump i v) c)).pumps.get j).sump =
      if j = i then v.sump else (c.pumps.get j).sump := putPumpSettings_sump
  obtain ⟨h1, h4, hnodup, hpos, hmem⟩ := h u
  rw [hring, hposition]
  simp only [hpump]
  change _ ∧ _ ∧ _ ∧ (c.sumps.get u).positions.length = 4 ∧ _
  simp only [show (putSettings (.pump i v) c).sumps = c.sumps from rfl]
  by_cases hun : u = v.sump
  · subst hun
    have hnot : i ∉ (c.sumps.get v.sump).ring := fun hm => hne ((hmem i).mp hm).symm
    simp only [if_true, List.length_append, List.length_singleton]
    refine ⟨by omega, by omega, List.Nodup.append hnodup (List.nodup_singleton _) (by simpa using hnot), hpos, fun j => ?_⟩
    by_cases hj : j = i
    · simp [hj]
    · simp [hj, hmem]
  · simp only [hun, if_false]
    by_cases huo : u = (c.pumps.get i).sump
    · subst huo
      simp only [if_true]
      rw [length_without hnodup hi]
      have := List.length_pos_of_mem hi
      refine ⟨by omega, by omega, hnodup.filter _, hpos, fun j => ?_⟩
      by_cases hj : j = i
      · simp [hj, hne]
      · simp [hj, hmem]
    · simp only [huo, if_false]
      refine ⟨h1, h4, hnodup, hpos, fun j => ?_⟩
      by_cases hj : j = i
      · subst hj
        simp only [if_true, hmem]
        exact ⟨fun he => absurd he.symm huo, fun he => absurd he.symm hun⟩
      · simp [hj, hmem]

theorem moveDuty_get {old new u : SumpId} {d : PerSump Duty} (hne : new ≠ old) :
    (moveDuty old new d).get u =
      if u = new then { lead := 1, latches := (d.get new).latches ++ [false] }
      else if u = old then { lead := 1, latches := (d.get old).latches.dropLast } else d.get u := by
  by_cases hn : u = new
  · subst hn
    simp [moveDuty, PerSump.get_set_ne _ _ hne]
  · by_cases ho : u = old
    · subst ho
      simp [moveDuty, PerSump.get_set_ne _ _ hn, hn]
    · simp [moveDuty, PerSump.get_set_ne _ _ hn, PerSump.get_set_ne _ _ ho, hn, ho]

theorem moveDuty_fits {d : PerSump Duty} (h : RingsIn c) (hd : DutyFits c d) (hne : v.sump ≠ (c.pumps.get i).sump)
    (hold : (c.sumps.get (c.pumps.get i).sump).ring.length ≠ 1) :
    DutyFits (moveRings i (c.pumps.get i).sump v.sump (putSettings (.pump i v) c)) (moveDuty (c.pumps.get i).sump v.sump d) := by
  have hi : i ∈ (c.sumps.get (c.pumps.get i).sump).ring := ((h _).2.2.2.2 i).mpr rfl
  intro u
  obtain ⟨hring, -⟩ := moveRings_ring (c := putSettings (.pump i v) c) (i := i) (u := u) hne
  rw [hring, moveDuty_get hne]
  simp only [show (putSettings (.pump i v) c).sumps = c.sumps from rfl]
  obtain ⟨hlow, hhigh, hlen⟩ := hd u
  by_cases hun : u = v.sump
  · subst hun
    simp [hlen]
  · simp only [hun, if_false]
    by_cases huo : u = (c.pumps.get i).sump
    · subst huo
      simp only [if_true]
      rw [length_without (h _).2.2.1 hi, List.length_dropLast, hlen]
      have := List.length_pos_of_mem hi
      omega
    · simpa only [huo, if_false] using ⟨hlow, hhigh, hlen⟩

end Move

/-! ### Every act -/

section Acts
variable {s t : State}

/-- The rings and the store stand, and the duty fits. -/
theorem RingsOk.of (h : RingsOk s) (hs : t.env.cfg.sumps = s.env.cfg.sumps)
    (hp : ∀ i, (t.env.cfg.pumps.get i).sump = (s.env.cfg.pumps.get i).sump) (ht : t.store = s.store)
    (hd : DutyFits s.env.cfg s.plant.duty → DutyFits s.env.cfg t.plant.duty) : RingsOk t := by
  obtain ⟨hrings, hduty, hstore⟩ := h
  refine ⟨hrings.congr hs hp, fun u => ?_, by rwa [ht]⟩
  have := hd hduty u
  rwa [hs]

theorem withPlant_ringsOk {p : Plant} (h : RingsOk s) (hd : DutyFits s.env.cfg s.plant.duty → DutyFits s.env.cfg p.duty) :
    RingsOk (s.withPlant p) := ⟨h.1, hd h.2.1, h.2.2⟩

theorem settle_ringsOk (h : RingsOk s) : RingsOk (settle s) := h.of rfl (fun _ => rfl) rfl settlePlant_fits

theorem resolve_ringsOk {us : List UnitId} (h : RingsOk s) : RingsOk (resolve us s) :=
  h.of rfl (fun _ => rfl) rfl fun hd =>
    foldl_fits (f := fun p u => syncUnit (resolve us s).env u p) (fun _ _ hp => syncUnit_fits (e := (resolve us s).env) hp) us
      (foldl_fits (f := fun p n => report (resolve us s).env (.order n) none p) (fun _ _ hp => hp) _ hd)

theorem removeOrders_duty (gone : Order → Bool) (why : Reason) (s : State) : (removeOrders gone why s).plant.duty = s.plant.duty := by
  simp only [removeOrders]
  generalize s.env.table.filter gone = l
  generalize s.plant = p
  induction l generalizing p with
  | nil => rfl
  | cons o l ih => exact (ih _).trans rfl

theorem removeOrders_ringsOk {gone : Order → Bool} {why : Reason} (h : RingsOk s) : RingsOk (removeOrders gone why s) :=
  h.of rfl (fun _ => rfl) rfl fun hd => by rwa [removeOrders_duty]

theorem standDown_ringsOk (h : RingsOk s) : RingsOk (standDown s) := resolve_ringsOk (removeOrders_ringsOk h)

theorem putStore_duty (x : Store) (s : State) : (putStore x s).plant.duty = s.plant.duty := by
  simp only [putStore]
  split <;> rfl

theorem putStore_ringsOk {x : Store} (h : RingsOk s) (hx : StoreRings x) : RingsOk (putStore x s) := by
  obtain ⟨hr, hd, -⟩ := h
  exact .intro (by rwa [putStore_env]) (by rwa [putStore_env, putStore_duty]) (by rwa [putStore_store])

theorem askLockoutWrite_ringsOk (h : RingsOk s) : RingsOk (askLockoutWrite s) := putStore_ringsOk h (StoreRings.ask h.2.2 trivial)

theorem reportSection_duty {e : Env} {u : SumpId} {old new : Section} {c : Bool} {p : Plant} :
    (reportSection e u old new c p).duty = p.duty := by
  simp only [reportSection]
  repeat' split
  all_goals rfl

theorem takeSection_ringsOk {u : SumpId} {m : Section} (h : RingsOk s) : RingsOk (takeSection u m s) := by
  simp only [takeSection]
  split
  · exact standDown_ringsOk (h.of rfl (fun _ => rfl) rfl fun hd => by rwa [reportSection_duty])
  · exact h.of rfl (fun _ => rfl) rfl fun hd => by rwa [reportSection_duty]

theorem latchSump_ringsOk {u : SumpId} (h : RingsOk s) : RingsOk (latchSump u s) := by
  simp only [latchSump]
  split
  · exact h.of rfl (fun _ => rfl) rfl (evaluateLatches_fits h.1)
  · exact h

theorem restartSump_ringsOk {u : SumpId} (h : RingsOk s) : RingsOk (restartSump u s) :=
  takeSection_ringsOk (h.of (t := { s with plant := resetLead u s.plant }) rfl (fun _ => rfl) rfl (resetLead_fits (e := s.env)))

/-- A write of one group keeps the ring and the count of positions. -/
theorem withGroup_rings {c : SumpCfg} {n : Nat} {body : List Byte} {g : Group} (hg : readGroup n body = some g) :
    (c.withGroup g).ring = c.ring ∧ (c.positions.length = 4 → (c.withGroup g).positions.length = 4) := by
  cases g with
  | calibration v => exact ⟨rfl, id⟩
  | staging v => exact ⟨rfl, id⟩
  | floats v => exact ⟨rfl, id⟩
  | positions l =>
    refine ⟨rfl, fun _ => ?_⟩
    simp only [readGroup] at hg
    split at hg
    · simp only [readCalibration] at hg
      split at hg <;> cases hg
    · simp only [readStaging] at hg
      split at hg <;> cases hg
    · simp only [readFloats] at hg
      repeat' split at hg
      all_goals cases hg
    · simp only [readPositions] at hg
      split at hg <;> cases hg
      rfl
    · cases hg

theorem setSump_ringsOk {u : SumpId} {v : SumpCfg} (h : RingsOk s) (hring : v.ring = (s.env.cfg.sumps.get u).ring) (hpos : v.positions.length = 4) :
    RingsOk (s.withCfg { s.env.cfg with sumps := s.env.cfg.sumps.set u v }) := by
  obtain ⟨hr, hd, hstore⟩ := h
  have hsame (x : SumpId) : ((s.env.cfg.sumps.set u v).get x).ring = (s.env.cfg.sumps.get x).ring ∧
      ((s.env.cfg.sumps.set u v).get x).positions.length = 4 := by
    by_cases hw : x = u
    · subst hw
      simp [hring, hpos]
    · obtain ⟨-, -, -, hfour, -⟩ := hr x
      simp [PerSump.get_set_ne _ _ hw, hfour]
  refine .intro (fun x => ?_) (fun x => ?_) hstore
  · obtain ⟨h1, h4, hnodup, -, hmem⟩ := hr x
    obtain ⟨hw, hfour⟩ := hsame x
    simp only [State.withCfg, hw]
    exact ⟨h1, h4, hnodup, hfour, hmem⟩
  · simp only [State.withCfg, hsame]
    exact hd x

theorem takeGroup_ringsOk {u : SumpId} {n : Nat} {body : List Byte} {g : Group} (hg : readGroup n body = some g) (h : RingsOk s) :
    RingsOk (takeGroup u g s) := by
  obtain ⟨hring, hpos⟩ := withGroup_rings (c := s.env.cfg.sumps.get u) hg
  have hset := setSump_ringsOk h hring (hpos (h.1 u).2.2.2.1)
  refine settle_ringsOk ?_
  cases g with
  | calibration c => exact restartSump_ringsOk hset
  | staging st => exact takeSection_ringsOk hset
  | floats f => exact hset
  | positions l => exact latchSump_ringsOk hset

theorem takeRing_ringsOk {u : SumpId} {l : List PumpId} (hl : l.isPerm (s.env.ring u) = true) (h : RingsOk s) : RingsOk (takeRing u l s) := by
  have hperm : l.Perm (s.env.cfg.sumps.get u).ring := List.isPerm_iff.mp hl
  obtain ⟨hr, hd, hstore⟩ := h
  refine settle_ringsOk (.intro (fun x => ?_) (fun x => ?_) hstore)
  · obtain ⟨h1, h4, hnodup, hpos, hmem⟩ := hr x
    by_cases hw : x = u
    · subst hw
      simp only [WorkConfig.setRing, PerSump.get_set, hperm.length_eq, hperm.nodup_iff, hperm.mem_iff]
      exact ⟨h1, h4, hnodup, hpos, hmem⟩
    · simp only [WorkConfig.setRing, PerSump.get_set_ne _ _ hw]
      exact ⟨h1, h4, hnodup, hpos, hmem⟩
  · have := resetLead_fits (e := s.env) (u := u) hd x
    by_cases hw : x = u
    · subst hw
      simpa only [WorkConfig.setRing, PerSump.get_set, hperm.length_eq] using this
    · simpa only [WorkConfig.setRing, PerSump.get_set_ne _ _ hw] using this

theorem takePumpCfg_ringsOk {i : PumpId} {v : PumpCfg} (hv : settingsFit s.env.cfg (.pump i v) = true) (h : RingsOk s) :
    RingsOk (takePumpCfg i v s) := by
  simp only [settingsFit, Bool.and_eq_true, moveFits, Bool.or_eq_true, beq_iff_eq, bne_iff_ne, decide_eq_true_eq] at hv
  obtain ⟨-, hmove⟩ := hv
  simp only [takePumpCfg]
  split
  · next hsame =>
    refine h.of rfl (fun j => ?_) rfl id
    rw [putPumpSettings_sump]
    split
    · next hj => rw [hj, hsame]; rfl
    · rfl
  · next hne =>
    obtain ⟨hold, hnew⟩ := hmove.resolve_left hne
    obtain ⟨hr, hd, hstore⟩ := h
    exact standDown_ringsOk (.intro (moveRings_in hr hne hold hnew) (moveDuty_fits hr hd hne hold) hstore)

theorem setService_rings {c : WorkConfig} {u : UnitId} {v : Service} :
    (c.setService u v).sumps = c.sumps ∧ (c.setService u v).pumps = c.pumps := by
  cases u <;> exact ⟨rfl, rfl⟩

theorem changeService_ringsOk {u : UnitId} {v : Service} (h : RingsOk s) : RingsOk (changeService u v s) := by
  obtain ⟨hsumps, hpumps⟩ := setService_rings (c := s.env.cfg) (u := u) (v := v)
  have hset : RingsOk (s.withCfg (s.env.cfg.setService u v)) := h.of hsumps (fun i => by simp only [State.withCfg, hpumps]) rfl id
  have henter : RingsOk ((s.withCfg (s.env.cfg.setService u v)).withPlant
      (enterService (s.withCfg (s.env.cfg.setService u v)).env u v s.plant)) :=
    hset.of rfl (fun _ => rfl) rfl (enterService_wrote (e := (s.withCfg _).env) .refl).fits
  have hrec : RingsOk (recordService u v s) := (resolve_ringsOk (us := [u]) henter).of rfl (fun _ => rfl) rfl id
  simp only [changeService]
  split
  · exact settle_ringsOk (withPlant_ringsOk hrec (makeRoom_wrote _ .refl).fits)
  · exact settle_ringsOk hrec

theorem placeOrder_ringsOk {l : Link} {w : Wish} (h : RingsOk s) : RingsOk (placeOrder l w s) := by
  have hout : RingsOk
      (if (replacedBy s l w).isSome then removeOrders (sameOwner (issuerOfLink l) w.holder w.unit) .replaced s else s) := by
    split
    · exact removeOrders_ringsOk h
    · exact h
  have hin {x : State} {issuer : Issuer} (hx : RingsOk x) :
      RingsOk (joinTable issuer w.holder w.unit w.rank w.verb w.arg w.yieldStage w.expiry x) := hx.of rfl (fun _ => rfl) rfl id
  simp only [placeOrder]
  split
  · exact askLockoutWrite_ringsOk (resolve_ringsOk (hin hout))
  · exact resolve_ringsOk (hin hout)

/-- Every event before the blocks act keeps the duty of the sumps. -/
theorem Event.fits (h : Event s t) (hd : DutyFits t.env.cfg s.plant.duty) : DutyFits t.env.cfg t.plant.duty := by
  cases h with
  | drive d => exact (applyDrive_wrote (e := s.env) .refl).fits hd
  | resetPump i => exact (putPump_wrote (e := s.env) .refl).fits hd
  | resetPortal i => exact (resetPortal_wrote (e := s.env) .refl).fits hd
  | dryRunInput i v => exact (putPump_wrote (e := (putDryRun i v s).env) .refl).fits hd
  | halt i k => exact (haltPump_wrote (e := s.env) .refl).fits hd
  | thermal i => exact (haltPump_wrote (e := (putThermal i true s).env) (i := i) (k := .fault .thermal) .refl).fits hd
  | feedback i v => exact (onFeedback_wrote (e := (putFeedback i v s).env) .refl).fits hd
  | surgeEnd i => exact (putPump_wrote (e := s.env) .refl).fits hd
  | minRunEnd i => exact (putPump_wrote (e := s.env) .refl).fits hd
  | restEnd i => exact (putPump_wrote (e := s.env) .refl).fits hd
  | startEntryEnd i => exact (putPump_wrote (e := s.env) .refl).fits hd
  | warningEnd i => exact (toBarring_wrote (e := s.env) .refl).fits hd
  | limitChange i sw v => exact (onLimit_wrote (e := (putPortalPins i _ s).env) .refl).fits hd
  | travelEnd i => exact (toJammed_wrote (e := s.env) .refl).fits hd
  | handTravelEnd i => exact (endHand_wrote (e := s.env) .refl).fits hd
  | loopChange v occupied => exact hd
  | clearConfirmEnd i => exact (toSealing_wrote (e := s.env) .refl).fits hd
  | clearLimitEnd i => exact (raiseCause_any (c := .clearOverdue) (putPortal_wrote (e := s.env) (i := i) .refl).any).fits hd
  | edgeOn i => exact (onEdge_wrote (e := (putPortalPins i _ s).env) .refl).fits hd
  | edgeOff i => exact hd
  | retryEnd i => exact (retrySealing_wrote (e := s.env) .refl).fits hd
  | window d w => exact hd
  | scales v w => exact hd
  | portalSettings i v => exact hd

theorem takeSupplyCfg_ringsOk {v : SupplyCfg} (h : RingsOk s) : RingsOk (takeSupplyCfg v s) := by
  refine h.of rfl (fun _ => rfl) rfl fun hd => ?_
  let e : Env := { s.env with cfg := { s.env.cfg with supply := v } }
  have htransfer : DutyFits e.cfg (checkTransfer e (settlePlant e s.plant)).duty := by
    simp only [checkTransfer]
    split
    · exact changeSupply_fits (settlePlant_fits hd)
    · exact settlePlant_fits hd
  have hspacing : DutyFits e.cfg (checkSpacing e (checkTransfer e (settlePlant e s.plant))).duty := by
    simp only [checkSpacing]
    split
    · exact settlePlant_fits (p := { checkTransfer e (settlePlant e s.plant) with arb := _ }) htransfer
    · exact htransfer
  exact (checkWaits_wrote (e := e) .refl).fits hspacing

theorem bootState_ringsOk (pins : Inputs) (b : BootIn) {x : Store} (pd : List Instr) (lines : PerLink (List LineChar))
    (hx : ∀ c, x.image = some c → RingsIn c) : RingsOk (bootState pins b x pd lines) := by
  have hr : RingsIn (bootEnv pins x).cfg := bootConfig_rings hx
  refine .intro hr ?_ ⟨hx, by simp [bootState], by simp [bootState]⟩
  refine (lampPass_wrote (e := bootEnv pins x) .refl).fits fun u => ?_
  obtain ⟨h1, -⟩ := hr u
  cases u <;> exact ⟨Nat.le_refl 1, h1, by simp [freshDuty, PerSump.get, Env.ring]⟩

/-- Every act keeps the rings. -/
theorem Act.ringsOk (h : RingsOk s) (ha : Act s t) : RingsOk t := by
  have same {x : State} (hs : x.env.cfg.sumps = s.env.cfg.sumps) (hp : x.env.cfg.pumps = s.env.cfg.pumps) (ht : x.store = s.store)
      (hd : x.plant.duty = s.plant.duty) : RingsOk x := h.of hs (fun i => by rw [hp]) ht fun h => by rwa [hd]
  cases ha with
  | nothing => exact h
  | tick => exact h
  | fieldRate v => exact same rfl rfl rfl rfl
  | keyInput k v => exact h
  | floatInput u f v => exact h
  | thermalInput i v => exact h
  | supplyInput g b => exact h
  | @event s1 he =>
    obtain ⟨hstore, henv⟩ := he.frame
    have hcfg : s1.env.cfg.sumps = s.env.cfg.sumps ∧ s1.env.cfg.pumps = s.env.cfg.pumps := by rw [henv]; exact ⟨rfl, rfl⟩
    refine settle_ringsOk (h.of hcfg.1 (fun i => by rw [hcfg.2]) hstore fun hd u => ?_)
    have := he.fits (fun x => by rw [hcfg.1]; exact hd x) u
    rwa [hcfg.1] at this
  | deficit z n => exact withPlant_ringsOk h (measureDeficit_wrote .refl).fits
  | ramp z _ => exact withPlant_ringsOk h (stepRamp_wrote .refl).fits
  | starve u _ => exact withPlant_ringsOk h (starve_wrote .refl).fits
  | supplyChange g b v _ => exact withPlant_ringsOk (s := s.withPins _) h changeSupply_fits
  | transferEnd _ => exact withPlant_ringsOk h changeSupply_fits
  | spacingEnd => exact withPlant_ringsOk h (settlePlant_fits (p := { s.plant with arb := { s.plant.arb with spacing := .stopped } }))
  | supplyCfg v _ _ _ => exact takeSupplyCfg_ringsOk h
  | acknowledge w => exact same rfl rfl rfl rfl
  | masks w => exact same rfl rfl rfl rfl
  | afterRead l b => exact same rfl rfl rfl rfl
  | clearChanges l n => exact same rfl rfl rfl rfl
  | reporting l r => exact same rfl rfl rfl rfl
  | moderation l _ => exact same rfl rfl rfl rfl
  | save _ => exact putStore_ringsOk h (StoreRings.ask h.2.2 h.1)
  | restart => exact h
  | writeEnd how =>
    have hput : RingsOk (putStore (s.store.endWrite how) s) := putStore_ringsOk h (StoreRings.endWrite h.2.2)
    simp only [noteFailure]
    split
    · exact hput
    · exact hput
  | boot pins cut b => exact bootState_ringsOk _ _ _ _ fun c hc => h.2.2.1 c (cut_image hc)
  | place l w _ => exact settle_ringsOk (placeOrder_ringsOk h)
  | amend l mask m r v o _ _ _ =>
    simp only [acceptAmend]
    split
    · refine settle_ringsOk ?_
      split
      · exact same rfl rfl rfl rfl
      · exact resolve_ringsOk (same rfl rfl rfl rfl)
    · exact h
  | withdraw o _ _ =>
    refine settle_ringsOk ?_
    split
    · exact askLockoutWrite_ringsOk (resolve_ringsOk (removeOrders_ringsOk h))
    · exact resolve_ringsOk (removeOrders_ringsOk h)
  | authority body k m _ => exact settle_ringsOk (standDown_ringsOk (same rfl rfl rfl rfl))
  | orderExpiry o _ _ => exact settle_ringsOk (resolve_ringsOk (removeOrders_ringsOk h))
  | keyOn k _ _ => exact settle_ringsOk (resolve_ringsOk (same rfl rfl rfl rfl))
  | keyOff k => exact settle_ringsOk (resolve_ringsOk (removeOrders_ringsOk (same rfl rfl rfl rfl)))
  | service u v _ _ => exact changeService_ringsOk h
  | pumpSettings i v _ hv => exact settle_ringsOk (takePumpCfg_ringsOk hv h)
  | zoneSettings z v _ _ =>
    exact settle_ringsOk (h.of rfl (fun _ => rfl) rfl (putZone_any (e := (s.withCfg (putSettings (.zone z v) s.env.cfg)).env) .refl).fits)
  | sample u a b =>
    refine settle_ringsOk ?_
    split
    · exact latchSump_ringsOk (takeSection_ringsOk h)
    · exact takeSection_ringsOk h
  | floatEnd u f v => exact settle_ringsOk (takeSection_ringsOk h)
  | holdEnd u => exact settle_ringsOk (takeSection_ringsOk h)
  | group u n body g hg _ => exact takeGroup_ringsOk hg h
  | restartSection u => exact settle_ringsOk (restartSump_ringsOk h)
  | ring u l hl => exact takeRing_ringsOk hl h

end Acts

/-- Settles O55: every act keeps the rings of the configuration and of the store, and the duty that fits them. -/
theorem ringInvariantKept : Obligations.RingInvariantKept := fun _ _ =>
  step_keeps (P := RingsOk) (Q := RingsOk) (fun ⟨_, _, h⟩ hs => h ▸ hs) (fun ⟨_, _, h⟩ hs => h ▸ hs) fun hs ha => ha.ringsOk hs

end Sys2Proof.Machine

/-! Sump Measurement's ranges (R50), the underpass stage (R66), and the STANDING orders that no stage has outrun (R23, R24): a rise of a
stage, a write of an authority map and a pump's move stand orders down, and nothing else brings a relevant stage above a yield stage. -/

namespace Sys2Proof.Machine

/-! ### The ranges of a section (R50) -/

section Ranges
variable {st : Staging} {m : Section}

/-- What `SectionOk` asks, by name. -/
structure SectionIn (m : Section) : Prop where
  level : ∀ f, m.level = some f → f ≤ 9999
  rate : ∀ r, m.rate = some r → -9999 ≤ r ∧ r ≤ 9999
  level10 : ∀ f, m.level10 = some f → f ≤ 9999
  rateCount : m.rateCount ≤ 39
  forecast : ∀ n, m.forecast = some n → 1 ≤ n ∧ n ≤ 9999
  invalidCount : m.invalidCount ≤ 8
  stage : m.stage ≤ 4
  candidate : ∀ c, m.candidate = some c → c ≤ 3
  hold : m.hold = .stopped ↔ m.candidate = none
  mute : m.mode = .float ∨ m.mode = .barred → m.rate = none ∧ m.forecast = none

theorem sectionOk_iff : SectionOk m ↔ SectionIn m :=
  ⟨fun ⟨h1, h2, h3, h4, h5, h6, h7, h8, h9, h10⟩ => ⟨h1, h2, h3, h4, h5, h6, h7, h8, h9, h10⟩,
    fun ⟨h1, h2, h3, h4, h5, h6, h7, h8, h9, h10⟩ => ⟨h1, h2, h3, h4, h5, h6, h7, h8, h9, h10⟩⟩

theorem freshSection_in (reload : Nat) : SectionIn (freshSection reload) where
  level := nofun
  rate := nofun
  level10 := nofun
  rateCount := Nat.zero_le _
  forecast := nofun
  invalidCount := Nat.zero_le _
  stage := Nat.zero_le _
  candidate := nofun
  hold := ⟨fun _ => rfl, fun _ => rfl⟩
  mute := nofun

theorem levelOfCount_le {z k n L : Nat} (h : levelOfCount z k n = some L) : L ≤ 9999 := by
  rw [levelOfCount_eq] at h
  split at h
  · split at h <;> cases h <;> omega
  · cases h

theorem filterLevel_le (w L f : Nat) : filterLevel w L f ≤ 9999 := Nat.min_le_left ..

theorem rateBetween_in (f g : Nat) : -9999 ≤ rateBetween f g ∧ rateBetween f g ≤ 9999 := by
  simp only [rateBetween]
  omega

theorem forecastTo_in {t3 : Nat} {r : Option Int} {f n : Nat} (h : forecastTo t3 r f = some n) : 1 ≤ n ∧ n ≤ 9999 := by
  simp only [forecastTo] at h
  split at h
  · cases h
  · split at h
    · cases h
      simp only [clampTo]
      omega
    · cases h

/-- A vote keeps a section's ranges, and the level that it makes of a sample is a level. -/
theorem vote_in {d : Nat} {x : Sample} (hA : ∀ L, x.levelA = some L → L ≤ 9999) (hB : ∀ L, x.levelB = some L → L ≤ 9999)
    (h : SectionIn m) : SectionIn (vote d x m).1 ∧ ∀ L, (vote d x m).2 = some L → L ≤ 9999 := by
  have counted {mode : Mode} {n k : Nat} (hmode : ¬(mode = .float ∨ mode = .barred)) (hk : k ≤ 8) :
      SectionIn { m with mode := mode, allowance := n, invalidCount := k } :=
    { h with invalidCount := hk, mute := fun hm => absurd hm hmode }
  have muted {mode : Mode} {n k : Nat} (hk : k ≤ 8) :
      SectionIn { m with mode := mode, allowance := n, invalidCount := k, rate := none, forecast := none } :=
    { h with rate := nofun, forecast := nofun, invalidCount := hk, mute := fun _ => ⟨rfl, rfl⟩ }
  simp only [vote]
  split
  · exact ⟨h, nofun⟩
  · split
    · rename_i a b ha hb
      simp only [votePair]
      split
      · refine ⟨counted (by decide) (Nat.zero_le _), fun L hL => ?_⟩
        cases hL
        have := hA a ha
        have := hB b hb
        omega
      · split
        · exact ⟨muted (Nat.zero_le _), nofun⟩
        · refine ⟨counted (by decide) (Nat.zero_le _), fun L hL => ?_⟩
          cases hL
          simp only [nearer]
          repeat' split
          all_goals first | exact hA a ha | exact hB b hb
    · rename_i a ha _
      exact ⟨counted (by decide) (Nat.zero_le _), fun L hL => Option.some.inj hL ▸ hA a ha⟩
    · rename_i b _ hb
      exact ⟨counted (by decide) (Nat.zero_le _), fun L hL => Option.some.inj hL ▸ hB b hb⟩
    · refine ⟨?_, nofun⟩
      simp only [voteNeither]
      split
      · exact muted (Nat.le_refl 8)
      · rename_i hcount
        exact { h with invalidCount := by simp only [Config.floatAfterInvalid] at hcount; change m.invalidCount + 1 ≤ 8; omega }

/-- A filtered level keeps the ranges of a section that forecasts (R57, R58). -/
theorem followLevel_in {w L : Nat} {endsFloat : Bool} {f : Nat} (hmode : ¬(m.mode = .float ∨ m.mode = .barred)) (h : SectionIn m) :
    SectionIn (followLevel w L f endsFloat m) ∧ (followLevel w L f endsFloat m).mode = m.mode := by
  have filtered : ∀ g, some (filterLevel w L f) = some g → g ≤ 9999 :=
    fun g hg => Option.some.inj hg ▸ filterLevel_le ..
  have started : SectionIn { m with level := some (filterLevel w L f), level10 := some (filterLevel w L f), rateCount := 0 } :=
    { h with level := filtered, level10 := filtered, rateCount := Nat.zero_le _ }
  simp only [followLevel]
  split
  · exact ⟨started, rfl⟩
  · split
    · exact ⟨started, rfl⟩
    · split
      · exact ⟨{ started with rate := fun r hr => Option.some.inj hr ▸ rateBetween_in .., mute := fun hm => absurd hm hmode }, rfl⟩
      · rename_i hcount
        exact ⟨{ h with
          level := filtered
          rateCount := by simp only [Config.rateCountLast] at hcount; change m.rateCount + 1 ≤ 39; omega }, rfl⟩

/-- A level that goes into a section with neither FLOAT nor BARRED keeps its ranges (R57 to R59). -/
theorem takeLevel_in {L : Nat} {endsFloat : Bool} (hL : L ≤ 9999) (hmode : ¬(m.mode = .float ∨ m.mode = .barred)) (h : SectionIn m) :
    SectionIn (takeLevel st L endsFloat m) := by
  have forecast {m1 : Section} (h1 : SectionIn m1) (hm1 : m1.mode = m.mode) :
      SectionIn { m1 with forecast := m1.level.bind (forecastTo st.t3 m1.rate) } :=
    { h1 with
      forecast := fun n hn => by
        obtain ⟨f, -, hf⟩ := Option.bind_eq_some_iff.mp hn
        exact forecastTo_in hf
      mute := fun hm => absurd (hm1 ▸ hm) hmode }
  simp only [takeLevel]
  match m.level with
  | none => exact forecast { h with level := fun f hf => Option.some.inj hf ▸ hL } rfl
  | some f =>
    obtain ⟨hfollow, hsame⟩ := followLevel_in (w := st.w) (L := L) (f := f) (endsFloat := endsFloat) hmode h
    exact forecast hfollow hsame

/-- An evaluation keeps the ranges: a candidate stands below the stage, beside a running hold (R63, R64). -/
theorem evaluate_in {now : Nat} (h : SectionIn m) : SectionIn (evaluate now st m) := by
  obtain ⟨_, he⟩ | ⟨_, d, _, hd, he⟩ | ⟨_, _, he⟩ := evaluate_cases now st m <;> rw [he]
  · exact { h with stage := stageRaw_le st m, candidate := nofun, hold := ⟨fun _ => rfl, fun _ => rfl⟩ }
  · refine { h with candidate := fun c hc => ?_, hold := ⟨fun hh => ?_, nofun⟩ }
    · cases hc
      have := h.stage
      omega
    · by_cases hstop : m.hold = .stopped <;> simp [hstop] at hh
  · exact { h with candidate := nofun, hold := ⟨fun _ => rfl, fun _ => rfl⟩ }

theorem stepDown_in (h : SectionIn m) : SectionIn (stepDown m) := by
  simp only [stepDown]
  split
  · rename_i c _ hc
    have := h.candidate c hc
    exact { h with stage := by change c ≤ 4; omega, candidate := nofun, hold := ⟨fun _ => rfl, fun _ => rfl⟩ }
  · exact h

theorem restarted_in {reload : Nat} (h : SectionIn m) : SectionIn (restarted reload m) :=
  { h with
    level := nofun
    rate := nofun
    level10 := nofun
    rateCount := Nat.zero_le _
    forecast := nofun
    invalidCount := Nat.zero_le _
    candidate := nofun
    hold := ⟨fun _ => rfl, fun _ => rfl⟩
    mute := nofun }

theorem setFloat_in {f : FloatId} {v : FloatState} (h : SectionIn m) : SectionIn (m.setFloat f v) := by
  cases f <;> exact { h with }

theorem repolarise_in {now : Nat} {old new : FloatCfg} (h : SectionIn m) : SectionIn (repolarise now old new m) := { h with }

theorem restage_in {now : Nat} (h : SectionIn m) : SectionIn (restage now st m) := by
  simp only [restage]
  split
  · exact stepDown_in (evaluate_in h)
  · exact evaluate_in h

theorem sampleSection_in {now a b : Nat} {c : SumpCfg} (h : SectionIn m) : SectionIn (sampleSection now c a b m).1 := by
  have hlast : SectionIn { m with last := some (sampleOf c.calibration a b) } := { h with }
  obtain ⟨hvote, hlevel⟩ := vote_in (d := c.calibration.d) (x := sampleOf c.calibration a b) (fun _ => levelOfCount_le)
    (fun _ => levelOfCount_le) hlast
  simp only [sampleSection]
  refine evaluate_in ?_
  split
  · rename_i L hL
    refine takeLevel_in (hlevel L hL) ?_ hvote
    have := (vote_voted { m with last := some (sampleOf c.calibration a b) } c.calibration.d (sampleOf c.calibration a b)).mode L hL
    rintro (he | he) <;> simp [he] at this
  · exact hvote

end Ranges

/-! ### The stages and the STANDING orders -/

/-- What the statement keeps, of the environment alone. -/
structure StagesIn (e : Env) : Prop where
  sections : ∀ u, SectionIn (e.sumps.get u)
  underpass : e.underpass = underpassOf e.sumps
  yields : ∀ o ∈ e.table, o.rank = .standing → e.relevantStage o.unit < effectiveYield e.cfg o.issuer o.yieldStage

section Stages
variable {e e' : Env} {s t : State}

/-- The stages, the pumps' sumps and the default yield stages: what the relevant and the effective yield stages are made of. -/
structure SameStages (e e' : Env) : Prop where
  stage : ∀ u, (e'.sumps.get u).stage ≤ (e.sumps.get u).stage
  sumps : ∀ i, (e'.cfg.pumps.get i).sump = (e.cfg.pumps.get i).sump
  authority : e'.cfg.authority = e.cfg.authority

theorem underpassOf_mono {a b : PerSump Section} (h : ∀ u, (a.get u).stage ≤ (b.get u).stage) : underpassOf a ≤ underpassOf b := by
  have hc := h .c
  have he := h .e
  have hw := h .w
  simp only [PerSump.get] at hc he hw
  simp only [underpassOf]
  omega

theorem SameStages.relevant (h : SameStages e e') (hu : e.underpass = underpassOf e.sumps) (hu' : e'.underpass = underpassOf e'.sumps)
    (u : UnitId) : e'.relevantStage u ≤ e.relevantStage u := by
  cases u with
  | pump i =>
    simp only [Env.relevantStage, Env.stageOf, Env.sumpOf, h.sumps]
    exact h.stage _
  | _ =>
    simp only [Env.relevantStage, hu, hu']
    exact underpassOf_mono h.stage

theorem SameStages.yield (h : SameStages e e') (i : Issuer) (y : Option Nat) : effectiveYield e'.cfg i y = effectiveYield e.cfg i y := by
  simp only [effectiveYield, defaultYieldOf, h.authority]

theorem relevantStage_table (l : List Order) (u : UnitId) : ({ e with table := l } : Env).relevantStage u = e.relevantStage u := by
  cases u <;> rfl

/-- Stages that do not rise, beside a table whose STANDING orders stood before, keep everything. -/
theorem StagesIn.of (h : StagesIn e) (hs : ∀ u, SectionIn (e'.sumps.get u)) (hu : e'.underpass = underpassOf e'.sumps)
    (hsame : SameStages e e')
    (ht : ∀ o ∈ e'.table, o.rank = .standing → ∃ o' ∈ e.table, o'.rank = .standing ∧ o'.unit = o.unit ∧ o'.issuer = o.issuer ∧
      o'.yieldStage = o.yieldStage) : StagesIn e' := by
  refine ⟨hs, hu, fun o ho hrank => ?_⟩
  obtain ⟨o', ho', hrank', hunit, hissuer, hyield⟩ := ht o ho hrank
  have := h.yields o' ho' hrank'
  have := hsame.relevant h.underpass hu o.unit
  rw [hsame.yield, ← hissuer, ← hyield]
  rw [hunit] at *
  omega

/-- A table whose records were there before, in some governance. -/
theorem StagesIn.table (h : StagesIn e) {l : List Order}
    (ht : ∀ o ∈ l, o.rank = .standing → ∃ o' ∈ e.table, o'.rank = .standing ∧ o'.unit = o.unit ∧ o'.issuer = o.issuer ∧
      o'.yieldStage = o.yieldStage) : StagesIn { e with table := l } :=
  h.of h.sections h.underpass ⟨fun _ => Nat.le_refl _, fun _ => rfl, rfl⟩ ht

theorem StagesIn.same (h : StagesIn e) (hs : e'.sumps = e.sumps) (hu : e'.underpass = e.underpass) (ht : e'.table = e.table)
    (hp : ∀ i, (e'.cfg.pumps.get i).sump = (e.cfg.pumps.get i).sump) (ha : e'.cfg.authority = e.cfg.authority) : StagesIn e' :=
  h.of (by rw [hs]; exact h.sections) (by rw [hs, hu]; exact h.underpass) ⟨fun u => by rw [hs], hp, ha⟩
    fun o ho hrank => ⟨o, ht ▸ ho, hrank, rfl, rfl, rfl⟩

theorem resolveTable_stages {c : WorkConfig} {us : List UnitId} (h : StagesIn e) : StagesIn { e with table := resolveTable c us e.table } := by
  refine h.table fun o ho hrank => ?_
  obtain ⟨o', ho', he⟩ := mem_resolveTable c us e.table ho
  rw [he] at hrank ⊢
  exact ⟨o', ho', hrank, rfl, rfl, rfl⟩

theorem filter_stages {f : Order → Bool} (h : StagesIn e) : StagesIn { e with table := e.table.filter f } :=
  h.table fun o ho hrank => ⟨o, List.mem_of_mem_filter ho, hrank, rfl, rfl, rfl⟩

theorem resolve_stages {us : List UnitId} (h : StagesIn s.env) : StagesIn (resolve us s).env := resolveTable_stages h

theorem removeOrders_stages {gone : Order → Bool} {why : Reason} (h : StagesIn s.env) : StagesIn (removeOrders gone why s).env := filter_stages h

/-- An order that is not outrun as it joins, and every record of before. -/
theorem join_stages {o : Order} {n : Nat} (h : StagesIn e)
    (ho : o.rank = .standing → e.relevantStage o.unit < effectiveYield e.cfg o.issuer o.yieldStage) :
    StagesIn { e with table := e.table ++ [o], counter := n } := by
  refine ⟨h.sections, h.underpass, fun x hx hrank => ?_⟩
  obtain hx | hx := List.mem_append.mp hx
  · exact h.yields x hx hrank
  · cases List.mem_singleton.mp hx
    exact ho hrank

/-- Stand-down leaves no outrun order, whatever the stages and the maps were before (R23). -/
theorem standDown_stages (hs : ∀ u, SectionIn (s.env.sumps.get u)) (hu : s.env.underpass = underpassOf s.env.sumps) :
    StagesIn (standDown s).env := by
  refine resolve_stages ⟨hs, hu, fun o ho hrank => ?_⟩
  have hkept := (List.mem_filter.mp ho).2
  simp only [outrun, hrank, beq_self_eq_true, Bool.true_and, Bool.not_eq_true', decide_eq_false_iff_not, not_le] at hkept
  exact hkept

/-- A section's record is taken: a rise stands orders down, and no order is outrun without one (R23, R65). -/
theorem takeSection_stages {u : SumpId} {m : Section} (h : StagesIn s.env) (hm : SectionIn m) : StagesIn (takeSection u m s).env := by
  have hsections (v : SumpId) : SectionIn ((s.env.sumps.set u m).get v) := by
    by_cases hv : v = u
    · subst hv
      rwa [PerSump.get_set]
    · rw [PerSump.get_set_ne _ _ hv]
      exact h.sections v
  simp only [takeSection]
  split
  · exact standDown_stages hsections rfl
  · rename_i hrise
    refine h.of hsections rfl ⟨fun v => ?_, fun _ => rfl, rfl⟩ fun o ho hrank => ⟨o, ho, hrank, rfl, rfl, rfl⟩
    by_cases hv : v = u
    · subst hv
      simpa using hrise
    · simp [PerSump.get_set_ne _ _ hv]

theorem latchSump_stages {u : SumpId} (h : StagesIn s.env) : StagesIn (latchSump u s).env := by rwa [latchSump_env]

theorem restartSump_stages {u : SumpId} (h : StagesIn s.env) : StagesIn (restartSump u s).env :=
  takeSection_stages (s := { s with plant := resetLead u s.plant }) h (evaluate_in (restarted_in (h.sections u)))

/-- A section whose stage stands takes other floats or timers. -/
theorem setSection_stages {u : SumpId} {m : Section} {v : Inputs} (h : StagesIn e) (hm : SectionIn m) (hstage : m.stage = (e.sumps.get u).stage) :
    StagesIn { e with pins := v, sumps := e.sumps.set u m } := by
  have hsame (x : SumpId) : ((e.sumps.set u m).get x).stage = (e.sumps.get x).stage := by
    by_cases hx : x = u
    · subst hx
      rw [PerSump.get_set, hstage]
    · rw [PerSump.get_set_ne _ _ hx]
  refine h.of (fun x => ?_) ?_ ⟨fun x => (hsame x).le, fun _ => rfl, rfl⟩ fun o ho hrank => ⟨o, ho, hrank, rfl, rfl, rfl⟩
  · by_cases hx : x = u
    · subst hx
      rwa [PerSump.get_set]
    · rw [PerSump.get_set_ne _ _ hx]
      exact h.sections x
  · change e.underpass = underpassOf (e.sumps.set u m)
    rw [h.underpass]
    exact Nat.le_antisymm (underpassOf_mono fun x => (hsame x).ge) (underpassOf_mono fun x => (hsame x).le)

theorem setFloat_stage {m : Section} {f : FloatId} {v : FloatState} : (m.setFloat f v).stage = m.stage := by cases f <;> rfl

theorem takeGroup_stages {u : SumpId} {g : Group} (h : StagesIn s.env) : StagesIn (takeGroup u g s).env := by
  have hcfg : StagesIn (s.withCfg { s.env.cfg with sumps := s.env.cfg.sumps.set u ((s.env.cfg.sumps.get u).withGroup g) }).env :=
    h.same rfl rfl rfl (fun _ => rfl) rfl
  simp only [takeGroup, settle_env]
  cases g with
  | calibration c => exact restartSump_stages hcfg
  | staging st => exact takeSection_stages hcfg (restage_in (h.sections u))
  | floats f =>
    exact setSection_stages (e := (s.withCfg _).env) (v := s.env.pins) hcfg
      (repolarise_in (h.sections u)) rfl
  | positions l => exact latchSump_stages hcfg

theorem takePumpCfg_stages {i : PumpId} {v : PumpCfg} (h : StagesIn s.env) : StagesIn (takePumpCfg i v s).env := by
  simp only [takePumpCfg]
  split
  · next hsump =>
    refine h.same rfl rfl rfl (fun j => ?_) rfl
    change ((s.env.cfg.pumps.set i v).get j).sump = _
    by_cases hj : j = i
    · subst hj
      rw [PerPump.get_set, hsump]
      rfl
    · rw [PerPump.get_set_ne _ _ hj]
  · exact standDown_stages h.sections h.underpass

theorem setService_stages {c : WorkConfig} {u : UnitId} {v : Service} :
    (c.setService u v).pumps = c.pumps ∧ (c.setService u v).authority = c.authority := by
  cases u <;> exact ⟨rfl, rfl⟩

theorem changeService_stages {u : UnitId} {v : Service} (h : StagesIn s.env) : StagesIn (changeService u v s).env := by
  have henv : (changeService u v s).env = (recordService u v s).env := by
    simp only [changeService, settle_env]
    split <;> rfl
  rw [henv]
  obtain ⟨hpumps, hauthority⟩ := setService_stages (c := s.env.cfg) (u := u) (v := v)
  exact resolveTable_stages (e := (s.withCfg (s.env.cfg.setService u v)).env)
    (h.same rfl rfl rfl (fun i => by simp only [State.withCfg, hpumps]) hauthority)

/-- The order that a PLACE or a key switch adds. -/
theorem joinTable_stages {issuer : Issuer} {holder : Nat} {u : UnitId} {r : Rank} {v : Verb} {x y z : Option Nat} (h : StagesIn s.env)
    (hstage : stageAllows s.env issuer u r y = true) : StagesIn (joinTable issuer holder u r v x y z s).env := by
  refine join_stages h fun hr => ?_
  change r = .standing at hr
  simpa [stageAllows, hr] using hstage

theorem placeOrder_stages {l : Link} {w : Wish} (h : StagesIn s.env)
    (hstage : stageAllows s.env (issuerOfLink l) w.unit w.rank w.yieldStage = true) : StagesIn (placeOrder l w s).env := by
  have hout : StagesIn
        (if (replacedBy s l w).isSome then removeOrders (sameOwner (issuerOfLink l) w.holder w.unit) .replaced s else s).env ∧
      stageAllows
        (if (replacedBy s l w).isSome then removeOrders (sameOwner (issuerOfLink l) w.holder w.unit) .replaced s else s).env
        (issuerOfLink l) w.unit w.rank w.yieldStage = true := by
    split
    · refine ⟨removeOrders_stages h, ?_⟩
      have hsame : (removeOrders (sameOwner (issuerOfLink l) w.holder w.unit) .replaced s).env.relevantStage w.unit =
          s.env.relevantStage w.unit := by cases w.unit <;> rfl
      simp only [stageAllows, hsame]
      exact hstage
    · exact ⟨h, hstage⟩
  simp only [placeOrder]
  split
  · rw [askLockoutWrite_env]
    exact resolve_stages (joinTable_stages hout.1 hout.2)
  · exact resolve_stages (joinTable_stages hout.1 hout.2)

theorem acceptAmend_stages {l : Link} {mask : Byte} {m : Marks} {o a : Order} (h : StagesIn s.env) (ho : a.issuer = issuerOfLink l)
    (hchecks : firstFailure (amendChecks l mask m o a s) = none) : StagesIn (acceptAmend m o a s).1.env := by
  simp only [firstFailure_eq_none, amendChecks, List.forall_mem_cons] at hchecks
  obtain ⟨-, -, -, hstage, -⟩ := hchecks
  have hrep : StagesIn { s.env with table := replaceRecord { a with revision := o.revision + 1 } s.env.table } := by
    refine ⟨h.sections, h.underpass, fun x hx hrank => ?_⟩
    obtain ⟨y, hy, rfl⟩ := List.mem_map.mp hx
    split at hrank
    · rename_i heq
      simp only [heq, if_true]
      change a.rank = .standing at hrank
      rw [relevantStage_table]
      simpa [stageAllows, hrank, ← ho] using hstage
    · rename_i hne
      simp only [hne]
      exact h.yields y hy hrank
  simp only [acceptAmend]
  split
  · simp only [settle_env]
    split
    · exact hrep
    · exact resolve_stages (s := { s with env := { s.env with table := _ }, plant := _ }) hrep
  · exact h

theorem bootState_stages (pins : Inputs) (b : BootIn) (x : Store) (pd : List Instr) (lines : PerLink (List LineChar)) :
    StagesIn (bootState pins b x pd lines).env := by
  refine ⟨fun u => ?_, ?_, fun o ho hrank => ?_⟩
  · cases u <;> exact freshSection_in _
  · rfl
  · obtain ⟨o', ho', he⟩ := mem_resolveTable _ _ _ ho
    obtain ⟨k, -, rfl⟩ := List.mem_map.mp ho'
    rw [he] at hrank
    cases hrank

/-- Every act keeps the sections in range and the table free of outrun orders. -/
theorem Act.stages (h : StagesIn s.env) (ha : Act s t) : StagesIn t.env := by
  cases ha with
  | nothing => exact h
  | tick => exact h.same rfl rfl rfl (fun _ => rfl) rfl
  | fieldRate v => exact h.same rfl rfl rfl (fun _ => rfl) rfl
  | keyInput k v => exact h.same rfl rfl rfl (fun _ => rfl) rfl
  | floatInput u f v => exact setSection_stages h (setFloat_in (h.sections u)) setFloat_stage
  | thermalInput i v => exact h.same rfl rfl rfl (fun _ => rfl) rfl
  | supplyInput g b => exact h.same rfl rfl rfl (fun _ => rfl) rfl
  | @event s1 he =>
    have henv := he.frame.2
    exact h.same (e' := s1.env) (by rw [henv]) (by rw [henv]) (by rw [henv]) (fun _ => by rw [henv]) (by rw [henv])
  | deficit z n => exact h
  | ramp z _ => exact h
  | starve u _ => exact h
  | supplyChange g b v _ => exact h.same rfl rfl rfl (fun _ => rfl) rfl
  | transferEnd _ => exact h
  | spacingEnd => exact h
  | supplyCfg v _ _ _ => exact h.same rfl rfl rfl (fun _ => rfl) rfl
  | acknowledge w => exact h
  | masks w => exact h.same rfl rfl rfl (fun _ => rfl) rfl
  | afterRead l b => exact h
  | clearChanges l n => exact h
  | reporting l r => exact h.same rfl rfl rfl (fun _ => rfl) rfl
  | moderation l _ => exact h
  | save _ => rwa [putStore_env]
  | restart => exact h
  | writeEnd how =>
    have : (noteFailure how (putStore (s.store.endWrite how) s)).env = s.env := by
      simp only [noteFailure]
      split <;> simp
    rwa [this]
  | boot pins cut b => exact bootState_stages ..
  | place l w hw =>
    simp only [firstFailure_eq_none, placeChecks, List.forall_mem_cons] at hw
    obtain ⟨-, -, -, hstage, -⟩ := hw
    exact placeOrder_stages h hstage
  | amend l mask m r v o _ howner hchecks => exact acceptAmend_stages h (by exact howner) hchecks
  | withdraw o _ _ =>
    simp only [acceptWithdraw, settle_env]
    split
    · rw [askLockoutWrite_env]
      exact resolve_stages (removeOrders_stages h)
    · exact resolve_stages (removeOrders_stages h)
  | authority body k m _ => exact standDown_stages h.sections h.underpass
  | orderExpiry o _ _ => exact resolve_stages (removeOrders_stages h)
  | keyOn k _ _ =>
    exact resolve_stages (joinTable_stages (s := setKey k true s) (h.same rfl rfl rfl (fun _ => rfl) rfl) rfl)
  | keyOff k => exact resolve_stages (removeOrders_stages (s := setKey k false s) (h.same rfl rfl rfl (fun _ => rfl) rfl))
  | service u v _ _ => exact changeService_stages h
  | pumpSettings i v _ _ => exact takePumpCfg_stages h
  | zoneSettings z v _ _ => exact h.same rfl rfl rfl (fun _ => rfl) rfl
  | sample u a b =>
    simp only [settle_env]
    split
    · exact latchSump_stages (takeSection_stages h (sampleSection_in (h.sections u)))
    · exact takeSection_stages h (sampleSection_in (h.sections u))
  | floatEnd u f v => exact takeSection_stages h (evaluate_in (setFloat_in (h.sections u)))
  | holdEnd u => exact takeSection_stages h (stepDown_in (h.sections u))
  | group u n body g _ _ => exact takeGroup_stages h
  | restartSection u => exact restartSump_stages h
  | ring u l _ => exact h.same rfl rfl rfl (fun _ => rfl) rfl

end Stages

/-- Settles O53: every act keeps the stages and the STANDING orders. -/
theorem stageInvariantKept : Obligations.StageInvariantKept := by
  rintro s t ⟨hsections, hunder⟩ ⟨-, hyields⟩ hstep
  have h : StagesIn t.env :=
    step_keeps (P := fun s => StagesIn s.env) (Q := fun s => StagesIn s.env) (fun ⟨_, _, h⟩ hs => h ▸ hs) (fun ⟨_, _, h⟩ hs => h ▸ hs)
      (fun hs ha => ha.stages hs) ⟨fun u => sectionOk_iff.mp (hsections u), hunder, hyields⟩ hstep
  exact ⟨⟨fun u => sectionOk_iff.mpr (h.sections u), h.underpass⟩, h.underpass, h.yields⟩

end Sys2Proof.Machine

/-! The order table's rules (R5, R6, R25, R26, R27) through every act, and the governance and the derived unit fields that the table gives
(R9, R11, R33): what a unit's record and its orders' governance depend on is the list of the numbers and ranks on it. -/

namespace Sys2Proof.Machine

/-! ### What governance depends on (R9, R11) -/

section Ranked
variable {c c' : WorkConfig} {table table' : List Order} {u : UnitId} {o : Order}

/-- The numbers and ranks of the orders on a unit, in table order. -/
def rankedOn (table : List Order) (u : UnitId) : List (Nat × Rank) :=
  (table.filter (fun o => o.unit == u)).map (fun o => (o.number, o.rank))

/-- The higher rank, the later among equals (R9). -/
def better (best : Option (Nat × Rank)) (x : Nat × Rank) : Option (Nat × Rank) :=
  match best with
  | none => some x
  | some b => if b.2.height ≤ x.2.height then some x else some b

theorem governorOf_ranked (table : List Order) (u : UnitId) :
    (governorOf table u).map (fun o => (o.number, o.rank)) = (rankedOn table u).foldl better none := by
  rw [rankedOn, List.foldl_map, governorOf]
  symm
  refine List.foldl_hom (Option.map fun o : Order => (o.number, o.rank)) (init := none) fun best o => ?_
  cases best with
  | none => rfl
  | some b =>
    simp only [Option.map_some, better]
    split <;> rfl

theorem governorNumber_congr (hs : serviceOf c' u = serviceOf c u) (hr : rankedOn table' u = rankedOn table u) :
    governorNumber c' table' u = governorNumber c table u := by
  have hnumber (l : List Order) : (governorOf l u).map Order.number = ((rankedOn l u).foldl better none).map Prod.fst := by
    rw [← governorOf_ranked, Option.map_map]
    rfl
  simp only [governorNumber, hs, hnumber, hr]

theorem lockFlag_ranked (table : List Order) (u : UnitId) : lockFlag table u = (rankedOn table u).any (fun x => x.2 == .lockout) := by
  simp [lockFlag, rankedOn, List.any_map, List.any_filter, Function.comp_def]

theorem unitRecOf_congr (hs : serviceOf c' u = serviceOf c u) (hr : rankedOn table' u = rankedOn table u) :
    unitRecOf c' table' u = unitRecOf c table u := by
  simp only [unitRecOf, lockFlag_ranked, governorNumber_congr hs hr, hs, hr]

theorem governanceOf_congr (hs : serviceOf c' o.unit = serviceOf c o.unit) (hr : rankedOn table' o.unit = rankedOn table o.unit) :
    governanceOf c' table' o = governanceOf c table o := by
  simp only [governanceOf, governorNumber_congr hs hr, hs]

theorem rankedOn_of_filter (h : table'.filter (fun o => o.unit == u) = table.filter (fun o => o.unit == u)) :
    rankedOn table' u = rankedOn table u := by
  simp only [rankedOn, h]

/-- A rewrite that keeps number, unit and rank of every record keeps what governs. -/
theorem rankedOn_map {f : Order → Order} (hf : ∀ o ∈ table, (f o).number = o.number ∧ (f o).unit = o.unit ∧ (f o).rank = o.rank) :
    rankedOn (table.map f) u = rankedOn table u := by
  induction table with
  | nil => rfl
  | cons o l ih =>
    obtain ⟨hnumber, hunit, hrank⟩ := hf o (List.mem_cons_self ..)
    have hl := ih fun x hx => hf x (List.mem_cons_of_mem _ hx)
    simp only [rankedOn] at hl
    simp only [rankedOn, List.map_cons, List.filter_cons, hunit]
    split
    · simp only [List.map_cons, hnumber, hrank, hl]
    · exact hl

@[simp] theorem resolveTable_ranked (us : List UnitId) : rankedOn (resolveTable c us table) u = rankedOn table u :=
  rankedOn_map fun o _ => by split <;> exact ⟨rfl, rfl, rfl⟩

end Ranked

/-! ### Governance that is resolved but for some units -/

/-- Governance and unit records are as the table gives them, but for the units listed. -/
def GovernedBut (us : List UnitId) (s : State) : Prop :=
  (∀ o ∈ s.env.table, o.unit ∉ us → o.governance = governanceOf s.env.cfg s.env.table o) ∧
  ∀ u : UnitId, u ∉ us → s.plant.units.get u = unitRecOf s.env.cfg s.env.table u

section Governed
variable {s t : State} {us : List UnitId}

theorem governedBut_nil : GovernedBut [] s ↔ GovernanceOk s := by simp [GovernedBut, GovernanceOk]

/-- The orders and the service states of every unit but those listed stand. -/
theorem GovernanceOk.but (h : GovernanceOk s) (hs : ∀ u, u ∉ us → serviceOf t.env.cfg u = serviceOf s.env.cfg u)
    (hf : ∀ u, u ∉ us → t.env.table.filter (fun o => o.unit == u) = s.env.table.filter (fun o => o.unit == u))
    (hu : t.plant.units = s.plant.units) : GovernedBut us t := by
  obtain ⟨horders, hunits⟩ := h
  refine ⟨fun o ho hn => ?_, fun u hn => ?_⟩
  · have hmem : o ∈ s.env.table :=
      List.mem_of_mem_filter (hf o.unit hn ▸ List.mem_filter.mpr ⟨ho, by simp⟩)
    rw [horders o hmem]
    exact (governanceOf_congr (hs _ hn) (rankedOn_of_filter (hf _ hn))).symm
  · rw [hu, hunits u]
    exact (unitRecOf_congr (hs _ hn) (rankedOn_of_filter (hf _ hn))).symm

/-- Table, service states and unit records stand. -/
theorem GovernanceOk.same (h : GovernanceOk s) (ht : t.env.table = s.env.table) (hs : ∀ u, serviceOf t.env.cfg u = serviceOf s.env.cfg u)
    (hu : t.plant.units = s.plant.units) : GovernanceOk t :=
  governedBut_nil.mp (h.but (fun u _ => hs u) (fun u _ => by rw [ht]) hu)

theorem foldl_syncUnit_units (e : Env) (u : UnitId) (us : List UnitId) (p : Plant) :
    (us.foldl (fun a v => syncUnit e v a) p).units.get u = p.units.get u ∧ u ∉ us ∨
      (us.foldl (fun a v => syncUnit e v a) p).units.get u = unitRecOf e.cfg e.table u := by
  induction us generalizing p with
  | nil => exact .inl ⟨rfl, by simp⟩
  | cons v us ih =>
    obtain ⟨hu, hn⟩ | hu := ih (syncUnit e v p)
    · rw [List.foldl_cons, hu]
      by_cases hv : u = v
      · subst hv
        right
        obtain he | ⟨he, hrec⟩ := syncUnit_units (e := e) (u := u) (p := p)
        · rw [he, PerUnit.get_set]
        · rw [he, hrec]
      · left
        refine ⟨?_, by simp [hv, hn]⟩
        obtain he | ⟨he, -⟩ := syncUnit_units (e := e) (u := v) (p := p)
        · rw [he, PerUnit.get_set_ne _ _ hv]
        · rw [he]
    · exact .inr hu

theorem foldl_report_units {β : Type} (e : Env) (k : β → RecordKey) (r : Option Reason) (l : List β) (p : Plant) :
    (l.foldl (fun a x => report e (k x) r a) p).units = p.units := by
  induction l generalizing p with
  | nil => rfl
  | cons x l ih => exact (ih _).trans rfl

/-- A resolution of the units that are not governed yet governs every unit (R9, R11). -/
theorem GovernedBut.resolve (h : GovernedBut us s) : GovernanceOk (resolve us s) := by
  obtain ⟨horders, hunits⟩ := h
  refine ⟨fun o ho => ?_, fun u => ?_⟩
  · obtain ⟨o', ho', rfl⟩ := List.mem_map.mp ho
    split
    · exact (governanceOf_congr rfl (resolveTable_ranked us)).symm
    · rename_i hn
      rw [horders o' ho' (by simpa using hn)]
      exact (governanceOf_congr rfl (resolveTable_ranked us)).symm
  · have hrec : unitRecOf s.env.cfg (resolveTable s.env.cfg us s.env.table) u = unitRecOf s.env.cfg s.env.table u :=
      unitRecOf_congr rfl (resolveTable_ranked us)
    obtain ⟨hu, hn⟩ | hu := foldl_syncUnit_units { s.env with table := resolveTable s.env.cfg us s.env.table } u us
      ((changedGovernance s.env.cfg us s.env.table).foldl
        (fun a n => report { s.env with table := resolveTable s.env.cfg us s.env.table } (.order n) none a) s.plant)
    · refine hu.trans ?_
      rw [foldl_report_units _ RecordKey.order, hunits u hn]
      exact hrec.symm
    · exact hu

theorem GovernanceOk.resolve (h : GovernanceOk s) : GovernanceOk (resolve us s) :=
  GovernedBut.resolve (h.but (fun _ _ => rfl) (fun _ _ => rfl) rfl)

end Governed

/-! ### The table by itself -/

/-- What `TableOk` asks of the records themselves. -/
structure Records (table : List Order) : Prop where
  numbers : (table.map Order.number).Nodup
  range : ∀ o ∈ table, 1 ≤ o.number ∧ o.number ≤ 65535
  owners : (table.map (fun o => (o.issuer, o.holder, o.unit))).Nodup
  count : table.countP Order.fromLink ≤ 30
  panel : ∀ o ∈ table, o.rank = .lockout → o.issuer = .panel

/-- What `TableOk` asks of a KEY order, where `on` says which switches are on. -/
def KeyOrderFits (on : PortalId → Bool) (o : Order) : Prop :=
  ∃ k : PortalId, o.holder = keyHolder k ∧ o.unit = .portal k ∧ o.rank = .overriding ∧ o.verb = .close ∧ o.expiresAt = none ∧ on k = true

/-- The KEY orders stand exactly with their switches (R26). -/
structure KeysIn (table : List Order) (on : PortalId → Bool) : Prop where
  fits : ∀ o ∈ table, o.issuer = .key → KeyOrderFits on o
  stands : ∀ k : PortalId, on k = true → ∃ o ∈ table, o.issuer = .key ∧ o.holder = keyHolder k

/-- What `TableOk` asks of the environment. -/
structure TableIn (e : Env) : Prop where
  records : Records e.table
  counter : 1 ≤ e.counter ∧ e.counter ≤ 65535
  keys : KeysIn e.table fun k => (e.keys.get k).on
  field : FieldCannotLock e.cfg

/-- What `TableOk` asks of the store. -/
structure StoreLocks (t : Store) : Prop where
  area : ∀ l, t.lockArea = some l → LocksOk l
  inProgress : ∀ w, t.inProgress = some w → WriteOk w ∧ ImageCannotLock w
  waiting : ∀ w, t.waiting = some w → WriteOk w ∧ ImageCannotLock w
  image : ∀ c, t.image = some c → FieldCannotLock c

theorem tableOk_iff {s : State} : TableOk s ↔ TableIn s.env ∧ StoreLocks s.store :=
  ⟨fun ⟨h1, h2, h3, h4, h5, h6, h7, h8, h9, h10, h11, h12, h13⟩ => ⟨⟨⟨h1, h2, h4, h5, h8⟩, h3, ⟨h6, h7⟩, h12⟩, ⟨h9, h10, h11, h13⟩⟩,
    fun ⟨⟨⟨h1, h2, h4, h5, h8⟩, h3, ⟨h6, h7⟩, h12⟩, ⟨h9, h10, h11, h13⟩⟩ =>
      ⟨h1, h2, h3, h4, h5, h6, h7, h8, h9, h10, h11, h12, h13⟩⟩

section Records
variable {table : List Order} {on : PortalId → Bool} {o : Order}

/-- A record by its number (R6). -/
theorem Records.unique (h : Records table) {a b : Order} (ha : a ∈ table) (hb : b ∈ table) (hn : a.number = b.number) : a = b :=
  List.inj_on_of_nodup_map h.numbers ha hb hn

theorem Records.filter (h : Records table) (f : Order → Bool) : Records (table.filter f) where
  numbers := h.numbers.sublist (List.filter_sublist.map _)
  range o ho := h.range o (List.mem_of_mem_filter ho)
  owners := h.owners.sublist (List.filter_sublist.map _)
  count := (List.filter_sublist.countP_le).trans h.count
  panel o ho := h.panel o (List.mem_of_mem_filter ho)

/-- A rewrite that keeps the number, the owner and the unit of every record, and brings no lockout of another's. -/
theorem Records.map (h : Records table) {f : Order → Order}
    (hf : ∀ o ∈ table, (f o).number = o.number ∧ (f o).issuer = o.issuer ∧ (f o).holder = o.holder ∧ (f o).unit = o.unit)
    (hlock : ∀ o ∈ table, (f o).rank = .lockout → o.issuer = .panel) : Records (table.map f) where
  numbers := by
    rw [List.map_map, show table.map (Order.number ∘ f) = table.map Order.number from List.map_congr_left fun o ho => (hf o ho).1]
    exact h.numbers
  range x hx := by
    obtain ⟨o, ho, rfl⟩ := List.mem_map.mp hx
    rw [(hf o ho).1]
    exact h.range o ho
  owners := by
    rw [List.map_map, List.map_congr_left (g := fun o => (o.issuer, o.holder, o.unit)) fun o ho => ?_]
    · exact h.owners
    · obtain ⟨-, h1, h2, h3⟩ := hf o ho
      simp [h1, h2, h3]
  count := by
    rw [List.countP_map]
    refine (List.countP_congr fun o ho => ?_).trans_le h.count
    simp [Order.fromLink, (hf o ho).2.1]
  panel x hx hrank := by
    obtain ⟨o, ho, rfl⟩ := List.mem_map.mp hx
    rw [(hf o ho).2.1]
    exact hlock o ho hrank

theorem Records.append (h : Records table) (hnumber : ∀ x ∈ table, x.number ≠ o.number) (hrange : 1 ≤ o.number ∧ o.number ≤ 65535)
    (howner : ∀ x ∈ table, (x.issuer, x.holder, x.unit) ≠ (o.issuer, o.holder, o.unit))
    (hcount : o.fromLink = true → table.countP Order.fromLink < 30) (hlock : o.rank = .lockout → o.issuer = .panel) :
    Records (table ++ [o]) where
  numbers := by
    rw [List.map_append]
    exact h.numbers.append (List.nodup_singleton _) (by simpa using hnumber)
  range x hx := (List.mem_append.mp hx).elim (h.range x) fun he => List.mem_singleton.mp he ▸ hrange
  owners := by
    rw [List.map_append]
    refine h.owners.append (List.nodup_singleton _) ?_
    simpa using howner
  count := by
    rw [List.countP_append, List.countP_singleton]
    have := h.count
    split
    · have := hcount ‹_›
      omega
    · omega
  panel x hx := (List.mem_append.mp hx).elim (h.panel x) fun he => List.mem_singleton.mp he ▸ hlock

/-- KEY orders are told apart by their switches, so there are at most two of them. -/
theorem KeysIn.count (h : KeysIn table on) (hr : Records table) : table.countP (fun o => o.issuer == .key) ≤ 2 := by
  have hsub : (table.filter (fun o => o.issuer == .key)).map (fun o => (o.issuer, o.holder, o.unit)) ⊆
      [(Issuer.key, 1, UnitId.portal .pe), (Issuer.key, 2, UnitId.portal .pw)] := by
    intro x hx
    obtain ⟨o, ho, rfl⟩ := List.mem_map.mp hx
    obtain ⟨ho, hkey⟩ := List.mem_filter.mp ho
    obtain ⟨k, hholder, hunit, -⟩ := h.fits o ho (by simpa using hkey)
    rw [hholder, hunit, show o.issuer = .key by simpa using hkey]
    cases k <;> simp [keyHolder]
  have hnodup := (hr.filter (fun o => o.issuer == .key)).owners
  have := (hnodup.subperm hsub).length_le
  simpa [List.countP_eq_length_filter] using this

/-- The table holds at most 32 orders (R5). -/
theorem KeysIn.length (h : KeysIn table on) (hr : Records table) : table.length ≤ 32 := by
  have hsplit : table.length = table.countP Order.fromLink + table.countP (fun o => o.issuer == .key) := by
    rw [List.length_eq_countP_add_countP Order.fromLink]
    congr 1
    refine List.countP_congr fun o _ => ?_
    simp [Order.fromLink]
  have := hr.count
  have := h.count hr
  omega

end Records

/-! ### A free number (R6) -/

section FreeNumber

theorem iterate_nextNumber {n : Nat} (h : 1 ≤ n ∧ n ≤ 65535) (j : Nat) : nextNumber^[j] n = (n - 1 + j) % 65535 + 1 := by
  induction j with
  | zero => simp only [Function.iterate_zero, id]; omega
  | succ j ih =>
    rw [Function.iterate_succ_apply', ih]
    simp only [nextNumber]
    split <;> omega

/-- The search ends at a free number if it tries one. -/
theorem freeNumber_free (table : List Order) (k : Nat) :
    ∀ {n : Nat}, (∃ j < k, nextNumber^[j] n ∉ table.map Order.number) → freeNumber table k n ∉ table.map Order.number := by
  induction k with
  | zero => rintro n ⟨j, hj, -⟩; omega
  | succ k ih =>
    rintro n ⟨j, hj, hfree⟩
    simp only [freeNumber]
    split
    · rename_i htaken
      refine ih ?_
      cases j with
      | zero =>
        obtain ⟨o, ho, hn⟩ := List.any_eq_true.mp htaken
        exact absurd (List.mem_map.mpr ⟨o, ho, by simpa using hn⟩) hfree
      | succ j => exact ⟨j, by omega, by simpa [Function.iterate_succ_apply] using hfree⟩
    · rename_i hn
      simpa using hn

/-- Of 33 consecutive numbers at least one is free in a table of at most 32 orders (R6). -/
theorem exists_free {table : List Order} (hl : table.length ≤ 32) {n : Nat} (h : 1 ≤ n ∧ n ≤ 65535) :
    ∃ j < 33, nextNumber^[j] n ∉ table.map Order.number := by
  by_contra hall
  have htaken : ∀ j < 33, nextNumber^[j] n ∈ table.map Order.number := by
    intro j hj
    by_contra hfree
    exact hall ⟨j, hj, hfree⟩
  have hnodup : ((List.range 33).map fun j => nextNumber^[j] n).Nodup := by
    refine List.Nodup.map_on (fun i hi j hj hij => ?_) List.nodup_range
    rw [List.mem_range] at hi hj
    rw [iterate_nextNumber h, iterate_nextNumber h] at hij
    omega
  have hsub : ((List.range 33).map fun j => nextNumber^[j] n) ⊆ table.map Order.number := by
    intro x hx
    obtain ⟨j, hj, rfl⟩ := List.mem_map.mp hx
    exact htaken j (List.mem_range.mp hj)
  have := (hnodup.subperm hsub).length_le
  simp only [List.length_map, List.length_range] at this
  omega

theorem freeNumber_fresh {table : List Order} (hl : table.length ≤ 32) {n : Nat} (h : 1 ≤ n ∧ n ≤ 65535) :
    freeNumber table 33 n ∉ table.map Order.number := freeNumber_free table 33 (exists_free hl h)

end FreeNumber

/-! ### The operations on the table -/

section Operations
variable {e : Env} {s t : State}

theorem TableIn.fresh (h : TableIn s.env) {x : Order} (hx : x ∈ s.env.table) : x.number ≠ drawNumber s :=
  fun he => freeNumber_fresh (h.keys.length h.records) h.counter (List.mem_map.mpr ⟨x, hx, he⟩)

theorem TableIn.drawn (h : TableIn s.env) : 1 ≤ drawNumber s ∧ drawNumber s ≤ 65535 := freeNumber_range _ _ h.counter

/-- Table, counter, switches and FIELD's map stand. -/
theorem TableIn.same {e' : Env} (h : TableIn e) (ht : e'.table = e.table) (hc : e'.counter = e.counter)
    (hk : ∀ k, (e'.keys.get k).on = (e.keys.get k).on) (ha : e'.cfg.authority.field = e.cfg.authority.field) : TableIn e' where
  records := ht ▸ h.records
  counter := hc ▸ h.counter
  keys := by
    rw [ht, show (fun k => (e'.keys.get k).on) = fun k => (e.keys.get k).on from funext hk]
    exact h.keys
  field u := by
    rw [ha]
    exact h.field u

/-- Orders that are no KEY orders leave. -/
theorem TableIn.filter (h : TableIn e) {gone : Order → Bool} (hg : ∀ o ∈ e.table, gone o = true → o.issuer ≠ .key) :
    TableIn { e with table := e.table.filter (fun o => !gone o) } where
  records := h.records.filter _
  counter := h.counter
  keys :=
    { fits := fun o ho => h.keys.fits o (List.mem_of_mem_filter ho)
      stands := fun k hk => by
        obtain ⟨o, ho, hkey, hholder⟩ := h.keys.stands k hk
        refine ⟨o, List.mem_filter.mpr ⟨ho, ?_⟩, hkey, hholder⟩
        by_contra hgone
        exact hg o ho (by simpa using hgone) hkey }
  field := h.field

/-- A rewrite that leaves KEY orders alone, and moves no owner, number or unit. -/
theorem TableIn.map (h : TableIn e) {f : Order → Order}
    (hf : ∀ o ∈ e.table, (f o).number = o.number ∧ (f o).issuer = o.issuer ∧ (f o).holder = o.holder ∧ (f o).unit = o.unit)
    (hkey : ∀ o ∈ e.table, o.issuer = .key → (f o).rank = o.rank ∧ (f o).verb = o.verb ∧ (f o).expiresAt = o.expiresAt)
    (hlock : ∀ o ∈ e.table, (f o).rank = .lockout → o.issuer = .panel) : TableIn { e with table := e.table.map f } where
  records := h.records.map hf hlock
  counter := h.counter
  keys :=
    { fits := fun x hx hissuer => by
        obtain ⟨o, ho, rfl⟩ := List.mem_map.mp hx
        obtain ⟨-, hi, hh, hu⟩ := hf o ho
        rw [hi] at hissuer
        obtain ⟨k, h1, h2, h3, h4, h5, h6⟩ := h.keys.fits o ho hissuer
        obtain ⟨hr, hv, hx⟩ := hkey o ho hissuer
        exact ⟨k, hh.trans h1, hu.trans h2, hr.trans h3, hv.trans h4, hx.trans h5, h6⟩
      stands := fun k hk => by
        obtain ⟨o, ho, hissuer, hholder⟩ := h.keys.stands k hk
        obtain ⟨-, hi, hh, -⟩ := hf o ho
        exact ⟨f o, List.mem_map.mpr ⟨o, ho, rfl⟩, hi.trans hissuer, hh.trans hholder⟩ }
  field := h.field

theorem TableIn.resolve (h : TableIn s.env) {us : List UnitId} : TableIn (resolve us s).env :=
  h.map (fun o _ => by split <;> exact ⟨rfl, rfl, rfl, rfl⟩) (fun o _ _ => by split <;> exact ⟨rfl, rfl, rfl⟩) fun o ho => by
    split <;> exact h.records.panel o ho

/-- An order of a link joins. -/
theorem TableIn.join (h : TableIn s.env) {l : Link} {holder : Nat} {u : UnitId} {r : Rank} {v : Verb} {x y z : Option Nat}
    (howner : ∀ o ∈ s.env.table, sameOwner (issuerOfLink l) holder u o = false) (hcount : s.env.table.countP Order.fromLink < 30)
    (hlock : r = .lockout → l = .panel) : TableIn (joinTable (issuerOfLink l) holder u r v x y z s).env where
  records := by
    refine h.records.append (fun o ho => h.fresh ho) h.drawn (fun o ho he => ?_) (fun _ => hcount) fun hr => ?_
    · have := howner o ho
      simp only [Prod.mk.injEq] at he
      simp [sameOwner, he] at this
    · rw [hlock hr]
      rfl
  counter := nextNumber_range h.drawn
  keys :=
    { fits := fun o ho hkey => by
        obtain ho | ho := List.mem_append.mp ho
        · exact h.keys.fits o ho hkey
        · cases List.mem_singleton.mp ho
          cases l <;> cases hkey
      stands := fun k hk => by
        obtain ⟨o, ho, hkey⟩ := h.keys.stands k hk
        exact ⟨o, List.mem_append_left _ ho, hkey⟩ }
  field := h.field

theorem keyHolder_inj {a b : PortalId} (h : keyHolder a = keyHolder b) : a = b := by
  cases a <;> cases b <;> simp_all [keyHolder]

theorem setKey_on {k j : PortalId} {v : Bool} :
    ((setKey k v s).env.keys.get j).on = if j = k then v else (s.env.keys.get j).on := by
  by_cases hj : j = k
  · subst hj
    simp [setKey]
  · simp [setKey, PerPortal.get_set_ne _ _ hj, hj]

/-- The KEY order of a switch that turns on joins (R26). -/
theorem TableIn.keyJoins (h : TableIn s.env) {k : PortalId} (hoff : (s.env.keys.get k).on = false) :
    TableIn (joinTable .key (keyHolder k) (.portal k) .overriding .close none none none (setKey k true s)).env where
  records := by
    refine h.records.append (fun o ho => h.fresh (s := s) ho) (h.drawn (s := s)) (fun o ho he => ?_) nofun nofun
    simp only [Prod.mk.injEq] at he
    obtain ⟨hkey, hholder, -⟩ := he
    obtain ⟨j, hj, -, -, -, -, hon⟩ := h.keys.fits o ho hkey
    rw [keyHolder_inj (hj.symm.trans hholder)] at hon
    simp [hoff] at hon
  counter := nextNumber_range (h.drawn (s := s))
  keys :=
    { fits := fun o ho hkey => by
        obtain ho | ho := List.mem_append.mp ho
        · obtain ⟨j, h1, h2, h3, h4, h5, hon⟩ := h.keys.fits o ho hkey
          refine ⟨j, h1, h2, h3, h4, h5, setKey_on.trans ?_⟩
          split
          · rfl
          · exact hon
        · cases List.mem_singleton.mp ho
          exact ⟨k, rfl, rfl, rfl, rfl, rfl, setKey_on.trans (if_pos rfl)⟩
      stands := fun j hj => by
        change ((setKey k true s).env.keys.get j).on = true at hj
        rw [setKey_on] at hj
        split at hj
        · next he => exact ⟨_, List.mem_append_right _ (List.mem_singleton.mpr rfl), rfl, by rw [he]⟩
        · obtain ⟨o, ho, hkey⟩ := h.keys.stands j hj
          exact ⟨o, List.mem_append_left _ ho, hkey⟩ }
  field := h.field

/-- The KEY order of a switch that turns off leaves (R26). -/
theorem TableIn.keyLeaves (h : TableIn s.env) {k : PortalId} :
    TableIn (removeOrders (fun o => o.issuer == .key && o.holder == keyHolder k) .withdrawn (setKey k false s)).env where
  records := h.records.filter _
  counter := h.counter
  keys :=
    { fits := fun o ho hkey => by
        obtain ⟨ho, hstays⟩ := List.mem_filter.mp ho
        obtain ⟨j, h1, h2, h3, h4, h5, hon⟩ := h.keys.fits o ho hkey
        refine ⟨j, h1, h2, h3, h4, h5, setKey_on.trans ?_⟩
        rw [if_neg]
        · exact hon
        · rintro rfl
          simp [hkey, h1] at hstays
      stands := fun j hj => by
        change ((setKey k false s).env.keys.get j).on = true at hj
        rw [setKey_on] at hj
        split at hj
        · cases hj
        · next hne =>
          obtain ⟨o, ho, hkey, hholder⟩ := h.keys.stands j hj
          refine ⟨o, List.mem_filter.mpr ⟨ho, ?_⟩, hkey, hholder⟩
          simp only [hkey, hholder, beq_self_eq_true, Bool.true_and, Bool.not_eq_true', beq_eq_false_iff_ne]
          exact fun he => hne (keyHolder_inj he) }
  field := h.field

/-- The lockouts of a table in order can be restored (R27, R188). -/
theorem Records.locks {table : List Order} (h : Records table) : LocksOk (lockouts table) := by
  have hpanel : ∀ o ∈ table.filter (fun o => o.rank == .lockout), o.issuer = .panel := fun o ho =>
    h.panel o (List.mem_of_mem_filter ho) (by simpa using (List.mem_filter.mp ho).2)
  have hlock := h.filter (fun o => o.rank == .lockout)
  refine ⟨?_, ?_, fun k hk => ?_, ?_⟩
  · rw [lockouts, List.length_map]
    refine le_trans ?_ hlock.count
    rw [List.countP_eq_length.mpr fun o ho => by simp [Order.fromLink, hpanel o ho]]
  · simp only [lockouts, List.map_map]
    exact hlock.numbers
  · obtain ⟨o, ho, rfl⟩ := List.mem_map.mp hk
    exact hlock.range o ho
  · simp only [lockouts, List.map_map]
    refine List.Nodup.of_map (fun x => (Issuer.panel, x)) ?_
    rw [List.map_map]
    refine (List.map_congr_left fun o ho => ?_) ▸ hlock.owners
    simp [hpanel o ho]

end Operations

/-! ### The store -/

section Store
variable {x : Store}

theorem StoreLocks.ask {w : Write} (h : StoreLocks x) (hw : WriteOk w ∧ ImageCannotLock w) : StoreLocks (x.ask w) := by
  obtain ⟨himage, harea, hin, hwait⟩ := ask_writes h.inProgress h.waiting hw
  exact ⟨by rw [harea]; exact h.area, hin, hwait, by rw [himage]; exact h.image⟩

theorem StoreLocks.endWrite {how : WriteEnd} (h : StoreLocks x) : StoreLocks (x.endWrite how) := by
  obtain ⟨hin, hwait⟩ := endWrite_writes how h.inProgress h.waiting
  refine ⟨fun l hl => ?_, hin, hwait, fun c hc => ?_⟩
  · exact (endWrite_lockArea hl).elim (h.area l) fun hp => (h.inProgress _ hp).1
  · exact (endWrite_image hc).elim (h.image c) fun hp => (h.inProgress _ hp).2

end Store

/-! ### Orders and governance together -/

/-- What the statement keeps, by parts. -/
structure OrdersOk (s : State) : Prop where
  table : TableIn s.env
  store : StoreLocks s.store
  governed : GovernanceOk s

section Orders
variable {s t : State}

theorem OrdersOk.same (h : OrdersOk s) (hx : StoreLocks t.store) (ht : t.env.table = s.env.table) (hc : t.env.counter = s.env.counter)
    (hk : ∀ k, (t.env.keys.get k).on = (s.env.keys.get k).on) (ha : t.env.cfg.authority.field = s.env.cfg.authority.field)
    (hs : ∀ u, serviceOf t.env.cfg u = serviceOf s.env.cfg u) (hu : t.plant.units = s.plant.units) : OrdersOk t :=
  ⟨h.table.same ht hc hk ha, hx, h.governed.same ht hs hu⟩

theorem OrdersOk.withPlant (h : OrdersOk s) {p : Plant} (hu : p.units = s.plant.units) : OrdersOk (s.withPlant p) :=
  h.same h.store rfl rfl (fun _ => rfl) rfl (fun _ => rfl) hu

theorem settle_units (s : State) : (settle s).plant.units = s.plant.units := (settlePlant_kept (e := s.env) .refl).units

theorem OrdersOk.settle (h : OrdersOk s) : OrdersOk (settle s) := h.withPlant (settle_units s)

/-- Orders of units that are then resolved leave. -/
theorem OrdersOk.remove (h : OrdersOk s) {gone : Order → Bool} {why : Reason} {us : List UnitId}
    (hkey : ∀ o ∈ s.env.table, gone o = true → o.issuer ≠ .key) (hunit : ∀ o ∈ s.env.table, gone o = true → o.unit ∈ us) :
    OrdersOk (resolve us (removeOrders gone why s)) where
  table := (h.table.filter hkey).resolve (s := removeOrders gone why s)
  store := h.store
  governed := by
    refine GovernedBut.resolve (h.governed.but (fun _ _ => rfl) (fun u hu => ?_) (removeOrders_units ..))
    simp only [removeOrders_table, List.filter_filter]
    refine List.filter_congr fun o ho => ?_
    by_cases hgone : gone o = true
    · have : o.unit ≠ u := fun he => hu (he ▸ hunit o ho hgone)
      simp [this]
    · simp [hgone]

theorem OrdersOk.standDown (h : OrdersOk s) : OrdersOk (standDown s) := by
  refine h.remove (fun o ho hgone hkey => ?_) fun o ho hgone => ?_
  · obtain ⟨k, -, -, hrank, -⟩ := h.table.keys.fits o ho hkey
    simp [outrun, hrank] at hgone
  · rw [List.mem_eraseDups]
    exact List.mem_map.mpr ⟨o, List.mem_filter.mpr ⟨ho, hgone⟩, rfl⟩

theorem putStore_units (x : Store) (s : State) : (putStore x s).plant.units = s.plant.units := by
  simp only [putStore]
  split <;> rfl

theorem OrdersOk.putStore (h : OrdersOk s) {x : Store} (hx : StoreLocks x) : OrdersOk (putStore x s) := by
  have henv := putStore_env x s
  exact h.same (by rwa [putStore_store]) (by rw [henv]) (by rw [henv]) (fun _ => by rw [henv]) (by rw [henv]) (fun _ => by rw [henv])
    (putStore_units x s)

theorem OrdersOk.askLockoutWrite (h : OrdersOk s) : OrdersOk (askLockoutWrite s) :=
  h.putStore (h.store.ask ⟨h.table.records.locks, trivial⟩)

theorem reportSection_units {e : Env} {u : SumpId} {old new : Section} {c : Bool} {p : Plant} :
    (reportSection e u old new c p).units = p.units := by
  simp only [reportSection]
  repeat' split
  all_goals rfl

theorem OrdersOk.takeSection {u : SumpId} {m : Section} (h : OrdersOk s) : OrdersOk (takeSection u m s) := by
  simp only [Machine.takeSection]
  split
  · exact .standDown (h.same h.store rfl rfl (fun _ => rfl) rfl (fun _ => rfl) reportSection_units)
  · exact h.same h.store rfl rfl (fun _ => rfl) rfl (fun _ => rfl) reportSection_units

theorem OrdersOk.latchSump {u : SumpId} (h : OrdersOk s) : OrdersOk (latchSump u s) := by
  simp only [Machine.latchSump]
  split
  · exact h.same h.store rfl rfl (fun _ => rfl) rfl (fun _ => rfl) rfl
  · exact h

theorem OrdersOk.restartSump {u : SumpId} (h : OrdersOk s) : OrdersOk (restartSump u s) :=
  .takeSection (s := { s with plant := resetLead u s.plant }) (h.withPlant (p := resetLead u s.plant) rfl)

/-- A configuration with the same authority and the same service states. -/
theorem OrdersOk.withCfg {c : WorkConfig} (h : OrdersOk s) (ha : c.authority = s.env.cfg.authority)
    (hs : ∀ u, serviceOf c u = serviceOf s.env.cfg u) : OrdersOk (s.withCfg c) :=
  h.same h.store rfl rfl (fun _ => rfl) (by rw [State.withCfg, ha]) hs rfl

theorem serviceOf_stands {c c' : WorkConfig} (hp : c'.pumpService = c.pumpService) (hq : c'.portalService = c.portalService)
    (hz : c'.zoneService = c.zoneService) (u : UnitId) : serviceOf c' u = serviceOf c u := by
  cases u <;> simp only [serviceOf, hp, hq, hz]

theorem OrdersOk.takeGroup {u : SumpId} {g : Group} (h : OrdersOk s) : OrdersOk (takeGroup u g s) := by
  have hcfg : OrdersOk (s.withCfg { s.env.cfg with sumps := s.env.cfg.sumps.set u ((s.env.cfg.sumps.get u).withGroup g) }) :=
    h.withCfg rfl (serviceOf_stands rfl rfl rfl)
  refine .settle ?_
  cases g with
  | calibration c => exact hcfg.restartSump
  | staging st => exact hcfg.takeSection
  | floats f => exact hcfg.same hcfg.store rfl rfl (fun _ => rfl) rfl (fun _ => rfl) rfl
  | positions l => exact hcfg.latchSump

theorem OrdersOk.takePumpCfg {i : PumpId} {v : PumpCfg} (h : OrdersOk s) : OrdersOk (takePumpCfg i v s) := by
  simp only [Machine.takePumpCfg]
  split
  · exact h.withCfg (c := putSettings (.pump i v) s.env.cfg) rfl (serviceOf_stands rfl rfl rfl)
  · exact .standDown (h.same h.store rfl rfl (fun _ => rfl) rfl (serviceOf_stands rfl rfl rfl) rfl)

/-! ### PLACE and AMEND -/

/-- FIELD's map holds LOCKOUT for no unit, so a lockout that a map allows is the panel's (R7, R8). -/
theorem mapAllows_lockout {c : WorkConfig} {l : Link} {u : UnitId} (hf : FieldCannotLock c) (h : mapAllows c l u .lockout = true) :
    l = .panel := by
  cases l with
  | panel => rfl
  | field =>
    have := hf u
    simp only [mapAllows, RankSet.allows, PerLink.get] at h
    rw [this] at h
    cases h

theorem issuerOfLink_ne_key (l : Link) : issuerOfLink l ≠ .key := by cases l <;> nofun

theorem issuerOfLink_panel {l : Link} (h : l = .panel) : issuerOfLink l = .panel := by rw [h]; rfl

/-- The replaced order leaves: then no order has the owner of the PLACE, and there is room for one more (R5, R14). -/
theorem replaced_leaves {l : Link} {w : Wish} {x : State} (h : TableIn s.env)
    (hx : x = if (replacedBy s l w).isSome then removeOrders (sameOwner (issuerOfLink l) w.holder w.unit) .replaced s else s)
    (hroom : ((replacedBy s l w).isSome || decide (s.env.table.countP Order.fromLink < Config.linkOrderLimit)) = true) :
    TableIn x.env ∧ (∀ o ∈ x.env.table, sameOwner (issuerOfLink l) w.holder w.unit o = false) ∧ x.env.table.countP Order.fromLink < 30 := by
  split at hx
  · rename_i hsome
    subst hx
    obtain ⟨o, ho⟩ := Option.isSome_iff_exists.mp hsome
    have hmem := List.mem_of_find?_eq_some ho
    have hown : sameOwner (issuerOfLink l) w.holder w.unit o = true := List.find?_some ho
    have hissuer {y : Order} (hy : sameOwner (issuerOfLink l) w.holder w.unit y = true) : y.issuer = issuerOfLink l := by
      simp only [sameOwner, Bool.and_eq_true, beq_iff_eq] at hy
      exact hy.1.1
    refine ⟨h.filter fun y _ hy => hissuer hy ▸ issuerOfLink_ne_key l, fun y hy => ?_, ?_⟩
    · simpa using (List.mem_filter.mp hy).2
    · have hsplit := List.countP_eq_countP_filter_add s.env.table Order.fromLink (sameOwner (issuerOfLink l) w.holder w.unit)
      have hold : 0 < (s.env.table.filter (sameOwner (issuerOfLink l) w.holder w.unit)).countP Order.fromLink := by
        refine List.countP_pos_iff.mpr ⟨o, List.mem_filter.mpr ⟨hmem, hown⟩, ?_⟩
        simp only [Order.fromLink, hissuer hown, bne_iff_ne]
        exact issuerOfLink_ne_key l
      have := h.records.count
      rw [removeOrders_table]
      omega
  · rename_i hnone
    subst hx
    refine ⟨h, fun o ho => ?_, of_decide_eq_true ((Bool.or_eq_true_iff.mp hroom).resolve_left hnone)⟩
    simp only [replacedBy, Option.isSome_iff_ne_none, ne_eq, not_not, List.find?_eq_none] at hnone
    simpa using hnone o ho

theorem OrdersOk.placeOrder {l : Link} {w : Wish} (h : OrdersOk s) (hw : firstFailure (placeChecks l w s) = none) :
    OrdersOk (placeOrder l w s) := by
  simp only [firstFailure_eq_none, placeChecks, List.forall_mem_cons] at hw
  obtain ⟨-, -, hmap, -, -, hroom, -⟩ := hw
  generalize hx : (if (replacedBy s l w).isSome then removeOrders (sameOwner (issuerOfLink l) w.holder w.unit) .replaced s else s) = x
  obtain ⟨htable, howner, hcount⟩ := replaced_leaves h.table hx.symm hroom
  have hstands : x.store = s.store ∧ x.env.cfg = s.env.cfg ∧ x.plant.units = s.plant.units ∧
      ∀ u, u ≠ w.unit → x.env.table.filter (fun o => o.unit == u) = s.env.table.filter (fun o => o.unit == u) := by
    rw [← hx]
    split
    · refine ⟨rfl, rfl, removeOrders_units .., fun u hu => ?_⟩
      simp only [removeOrders_table, List.filter_filter]
      refine List.filter_congr fun o _ => ?_
      by_cases ho : o.unit = u
      · simp [sameOwner, ho, hu]
      · simp [ho]
    · exact ⟨rfl, rfl, rfl, fun _ _ => rfl⟩
  obtain ⟨hstore, hcfg, hunits, hfilter⟩ := hstands
  have hlock : w.rank = .lockout → l = .panel := fun hr => mapAllows_lockout h.table.field (hr ▸ hmap)
  have hin : OrdersOk (resolve [w.unit]
      (joinTable (issuerOfLink l) w.holder w.unit w.rank w.verb w.arg w.yieldStage w.expiry x)) := by
    refine ⟨(htable.join howner hcount hlock).resolve, hstore ▸ h.store, GovernedBut.resolve (h.governed.but (fun u _ => ?_) (fun u hu => ?_) hunits)⟩
    · simp only [joinTable, hcfg]
    · have hne : u ≠ w.unit := by simpa using hu
      rw [← hfilter u hne]
      simp [joinTable, hne.symm]
  simp only [Machine.placeOrder, hx]
  split
  · exact hin.askLockoutWrite
  · exact hin

theorem replaceRecord_filter {a : Order} {table : List Order} (ha : ∀ o ∈ table, o.number = a.number → o.unit = a.unit) {u : UnitId}
    (hu : u ≠ a.unit) : (replaceRecord a table).filter (fun o => o.unit == u) = table.filter (fun o => o.unit == u) := by
  induction table with
  | nil => rfl
  | cons o l ih =>
    have hl := ih fun x hx => ha x (List.mem_cons_of_mem _ hx)
    simp only [replaceRecord] at hl
    simp only [replaceRecord, List.map_cons, List.filter_cons, hl]
    by_cases hn : o.number = a.number
    · have := ha o (List.mem_cons_self ..) hn
      simp [hn, this, hu.symm]
    · simp [hn]

theorem OrdersOk.acceptAmend {l : Link} {mask : Byte} {m : Marks} {r : Rank} {v : Verb} {o : Order} (h : OrdersOk s) (ho : o ∈ s.env.table)
    (howner : o.issuer = issuerOfLink l) (hchecks : firstFailure (amendChecks l mask m o (amended s.env.clock m r v o) s) = none) :
    OrdersOk (acceptAmend m o (amended s.env.clock m r v o) s).1 := by
  simp only [firstFailure_eq_none, amendChecks, List.forall_mem_cons] at hchecks
  obtain ⟨-, -, hmap, -, -⟩ := hchecks
  generalize hb : { amended s.env.clock m r v o with revision := o.revision + 1 } = b
  have hkept : b.number = o.number ∧ b.issuer = o.issuer ∧ b.holder = o.holder ∧ b.unit = o.unit ∧ b.governance = o.governance ∧ b.rank = r := by
    rw [← hb]
    exact ⟨rfl, rfl, rfl, rfl, rfl, rfl⟩
  obtain ⟨hnumber, hissuer, hholder, hunit, hgovernance, hrank⟩ := hkept
  have hunique {x : Order} (hx : x ∈ s.env.table) (hn : x.number = b.number) : x = o :=
    h.table.records.unique hx ho (hn.trans hnumber)
  have htable : TableIn { s.env with table := replaceRecord b s.env.table } := by
    refine h.table.map (fun x hx => ?_) (fun x hx hkey => ?_) fun x hx => ?_
    · split
      · rename_i hn
        rw [hunique hx (by simpa using hn)]
        exact ⟨hnumber, hissuer, hholder, hunit⟩
      · exact ⟨rfl, rfl, rfl, rfl⟩
    · split
      · rename_i hn
        rw [hunique hx (by simpa using hn), howner] at hkey
        exact absurd hkey (issuerOfLink_ne_key l)
      · exact ⟨rfl, rfl, rfl⟩
    · split
      · rename_i hn
        rw [hunique hx (by simpa using hn), hrank, howner]
        intro hr
        exact issuerOfLink_panel (mapAllows_lockout h.table.field (u := o.unit) (by subst hr; exact hmap))
      · exact h.table.records.panel x hx
  simp only [Machine.acceptAmend, hb]
  split
  · refine .settle ?_
    split
    · rename_i hsame
      have hranked (u : UnitId) : rankedOn (replaceRecord b s.env.table) u = rankedOn s.env.table u := by
        refine rankedOn_map fun x hx => ?_
        split
        · rename_i hn
          rw [hunique hx (by simpa using hn)]
          exact ⟨hnumber, hunit, hrank.trans hsame.symm⟩
        · exact ⟨rfl, rfl, rfl⟩
      refine ⟨htable, h.store, fun x hx => ?_, fun u => ?_⟩
      · obtain ⟨y, hy, rfl⟩ := List.mem_map.mp hx
        have hold : ∀ z : Order, governanceOf s.env.cfg (replaceRecord b s.env.table) z = governanceOf s.env.cfg s.env.table z :=
          fun z => governanceOf_congr rfl (hranked _)
        refine Eq.trans ?_ (hold _).symm
        split
        · rw [hgovernance, h.governed.1 o ho]
          simp only [governanceOf, hunit, hnumber]
        · exact h.governed.1 y hy
      · exact (h.governed.2 u).trans (unitRecOf_congr rfl (hranked u)).symm
    · refine ⟨htable.resolve (s := { s with env := { s.env with table := _ }, plant := _ }), h.store,
        GovernedBut.resolve (h.governed.but (fun _ _ => rfl) (fun u hu => ?_) rfl)⟩
      refine replaceRecord_filter (fun x hx hn => ?_) (by rw [hunit]; simpa using hu)
      rw [hunique hx hn, hunit]
  · exact h

/-! ### Service states, maps and start-up -/

theorem serviceOf_setService {c : WorkConfig} {u v : UnitId} {x : Service} (h : v ≠ u) : serviceOf (c.setService u x) v = serviceOf c v := by
  cases u <;> cases v <;> try rfl
  · exact PerPump.get_set_ne _ _ (fun he => h (he ▸ rfl))
  · exact PerPortal.get_set_ne _ _ (fun he => h (he ▸ rfl))
  · exact PerZone.get_set_ne _ _ (fun he => h (he ▸ rfl))

theorem OrdersOk.changeService {u : UnitId} {v : Service} (h : OrdersOk s) : OrdersOk (changeService u v s) := by
  have hrec : OrdersOk (recordService u v s) := by
    have henter : (enterService (s.withCfg (s.env.cfg.setService u v)).env u v s.plant).units = s.plant.units :=
      (enterService_kept (e := (s.withCfg (s.env.cfg.setService u v)).env) .refl).units
    have htable : TableIn (s.withCfg (s.env.cfg.setService u v)).env :=
      h.table.same rfl rfl (fun _ => rfl) (congrArg PerLink.field (setService_stages (c := s.env.cfg) (u := u) (v := v)).2)
    have hres : OrdersOk (resolve [u] ((s.withCfg (s.env.cfg.setService u v)).withPlant
        (enterService (s.withCfg (s.env.cfg.setService u v)).env u v s.plant))) := by
      refine ⟨htable.resolve (s := (s.withCfg (s.env.cfg.setService u v)).withPlant _), h.store,
        GovernedBut.resolve (h.governed.but (fun x hx => ?_) (fun _ _ => rfl) henter)⟩
      exact serviceOf_setService (by simpa using hx)
    exact hres.withPlant (p := report _ (.unit u) none _) rfl
  simp only [Machine.changeService]
  split
  · exact .settle (hrec.withPlant (p := makeRoom _ 10 _) (makeRoom_kept _ .refl).units)
  · exact .settle hrec

/-- A map that SET AUTHORITY takes for FIELD holds LOCKOUT for no unit (R8). -/
theorem readAuthority_field {body : List Byte} {m : AuthorityMap} (h : readAuthority body = some (.field, m)) (u : UnitId) :
    (m.ranks.get u).lockout = false := by
  simp only [readAuthority] at h
  split at h
  · rename_i issuer l ranks d y hissuer hsets hranks _
    split at h
    · rename_i k _
      split at h
      · rename_i hcond
        simp only [Option.some.injEq, Prod.mk.injEq] at h
        obtain ⟨rfl, rfl⟩ := h
        simp only [Bool.and_eq_true, Bool.or_eq_true, List.all_eq_true] at hcond
        have hall := hcond.1.1.1.1.resolve_left (by decide)
        rw [hsets, Option.bind_some] at hranks
        have hmem : ranks.get u ∈ l := by
          simp only [perUnitOf] at hranks
          split at hranks
          · cases hranks
            cases u with
            | pump i => cases i <;> simp [PerUnit.get, PerPump.get]
            | portal i => cases i <;> simp [PerUnit.get, PerPortal.get]
            | zone z => cases z <;> simp [PerUnit.get, PerZone.get]
            | outfall => simp [PerUnit.get]
          · cases hranks
        simpa using hall _ hmem
      · cases h
    · cases h
  · cases h

theorem OrdersOk.acceptAuthority {body : List Byte} {k : Link} {m : AuthorityMap} (h : OrdersOk s) (hm : readAuthority body = some (k, m)) :
    OrdersOk (acceptAuthority k m s) := by
  refine .settle (.standDown ⟨⟨h.table.records, h.table.counter, h.table.keys, fun u => ?_⟩, h.store,
    h.governed.same rfl (serviceOf_stands rfl rfl rfl) rfl⟩)
  cases k with
  | field => exact readAuthority_field hm u
  | panel => exact h.table.field u

theorem factoryDefaults_field : FieldCannotLock factoryDefaults := by
  intro u
  cases u with
  | pump i => cases i <;> rfl
  | portal i => cases i <;> rfl
  | zone z => cases z <;> rfl
  | outfall => rfl

theorem bootConfig_field {x : Store} (h : ∀ c, x.image = some c → FieldCannotLock c) : FieldCannotLock (bootConfig x) := by
  obtain ⟨c, hc, he⟩ := bootConfig_cases x
  have hin : FieldCannotLock c := hc.elim (h c) fun hd => hd ▸ factoryDefaults_field
  obtain he | he := he
  · exact he ▸ hin
  · exact he ▸ hin

/-- The lockouts of a sound area as orders of the table (R30). -/
theorem restored_records {l : List StoredLock} (h : LocksOk l) : Records (l.map restoredOrder) := by
  obtain ⟨hlen, hnumbers, hrange, howners⟩ := h
  refine ⟨?_, fun o ho => ?_, ?_, ?_, fun o ho _ => ?_⟩
  · rwa [List.map_map]
  · obtain ⟨k, hk, rfl⟩ := List.mem_map.mp ho
    exact hrange k hk
  · rw [List.map_map]
    have := List.Nodup.map (f := fun x : Nat × UnitId => (Issuer.panel, x)) (fun a b hab => (Prod.mk.inj hab).2) howners
    rwa [List.map_map] at this
  · exact (List.countP_le_length).trans (by rw [List.length_map]; exact hlen)
  · obtain ⟨k, -, rfl⟩ := List.mem_map.mp ho
    rfl

theorem foldl_max_range {l : List Nat} (h : ∀ n ∈ l, 1 ≤ n ∧ n ≤ 65535) {n : Nat} (hn : n ≤ 65535) :
    l.foldl max n ≤ 65535 ∧ n ≤ l.foldl max n := by
  induction l generalizing n with
  | nil => exact ⟨hn, Nat.le_refl n⟩
  | cons m l ih =>
    have hm := h m (List.mem_cons_self ..)
    obtain ⟨h1, h2⟩ := ih (fun k hk => h k (List.mem_cons_of_mem _ hk)) (n := max n m) (by omega)
    exact ⟨h1, by simp only [List.foldl_cons]; omega⟩

theorem bootCounter_range {x : Store} (h : ∀ l, x.lockArea = some l → LocksOk l) : 1 ≤ bootCounter x ∧ bootCounter x ≤ 65535 := by
  simp only [bootCounter]
  split
  · omega
  · omega
  · rename_i l hne harea
    obtain ⟨-, -, hrange, -⟩ := h l harea
    obtain ⟨k, l', rfl⟩ : ∃ k l', l = k :: l' := by
      cases l with
      | nil => exact absurd rfl hne
      | cons k l' => exact ⟨k, l', rfl⟩
    have hk := hrange k (List.mem_cons_self ..)
    refine nextNumber_range ?_
    obtain ⟨h1, h2⟩ := foldl_max_range (l := l'.map StoredLock.number) (n := k.number)
      (fun n hn => by
        obtain ⟨j, hj, rfl⟩ := List.mem_map.mp hn
        exact hrange j (List.mem_cons_of_mem _ hj)) hk.2
    simp only [List.map_cons, List.foldl_cons, Nat.zero_max]
    omega

theorem bootUnits_get (e : Env) (u : UnitId) : (bootUnits e).get u = unitRecOf e.cfg e.table u := by
  cases u with
  | pump i => cases i <;> rfl
  | portal i => cases i <;> rfl
  | zone z => cases z <;> rfl
  | outfall => rfl

theorem bootState_units (pins : Inputs) (b : BootIn) (x : Store) (pd : List Instr) (lines : PerLink (List LineChar)) :
    (bootState pins b x pd lines).plant.units = bootUnits (bootEnv pins x) :=
  (lampPass_kept (e := bootEnv pins x) .refl).units

theorem bootTable_in {c : WorkConfig} {x : Store} (h : ∀ l, x.lockArea = some l → LocksOk l) :
    Records (bootTable c x) ∧ ∀ o ∈ bootTable c x, o.issuer ≠ .key := by
  have hlocks : LocksOk (x.lockArea.getD []) := by
    cases harea : x.lockArea with
    | none => exact ⟨by decide, by simp, by simp, by simp⟩
    | some l => exact h l harea
  have hrec := restored_records hlocks
  refine ⟨hrec.map (fun o _ => ?_) fun o ho _ => ?_, fun o ho => ?_⟩
  · split <;> exact ⟨rfl, rfl, rfl, rfl⟩
  · obtain ⟨k, -, rfl⟩ := List.mem_map.mp ho
    rfl
  · obtain ⟨y, hy, he⟩ := mem_resolveTable _ _ _ ho
    obtain ⟨k, -, rfl⟩ := List.mem_map.mp hy
    rw [he]
    nofun

theorem bootEnv_in (pins : Inputs) {x : Store} (h : StoreLocks x) : TableIn (bootEnv pins x) := by
  obtain ⟨hrecords, hnokey⟩ := bootTable_in (c := bootConfig x) h.area
  refine ⟨hrecords, bootCounter_range h.area, ⟨fun o ho hkey => absurd hkey (hnokey o ho), fun k hk => ?_⟩, bootConfig_field h.image⟩
  cases k <;> cases hk

theorem bootLockArea_ok {how : WriteEnd} {x : Store} (h : ∀ l, x.lockArea = some l → LocksOk l) {l : List StoredLock}
    (hl : bootLockArea how x = some l) : LocksOk l := by
  simp only [bootLockArea] at hl
  split at hl
  · exact h l hl
  · obtain rfl | hl := areaAfter_some hl
    · exact ⟨by decide, by simp, by simp, by simp⟩
    · cases hl

theorem bootTable_governed (c : WorkConfig) (x : Store) : ∀ o ∈ bootTable c x, o.governance = governanceOf c (bootTable c x) o := by
  intro o ho
  obtain ⟨y, -, rfl⟩ := List.mem_map.mp ho
  simp only [show UnitId.every.contains y.unit = true by simpa using UnitId.mem_every y.unit, if_true]
  exact (governanceOf_congr rfl (resolveTable_ranked _)).symm

theorem bootState_ordersOk (pins : Inputs) (b : BootIn) {x : Store} (pd : List Instr) (lines : PerLink (List LineChar)) (h : StoreLocks x) :
    OrdersOk (bootState pins b x pd lines) := by
  refine ⟨bootEnv_in pins h, ⟨fun l => bootLockArea_ok h.area, ?_, ?_, h.image⟩, bootTable_governed _ _, fun u => ?_⟩
  · intro w hw
    cases hw
  · intro w hw
    cases hw
  · rw [bootState_units, bootUnits_get]
    rfl

/-! ### Every act -/

theorem Act.ordersOk (h : OrdersOk s) (ha : Act s t) : OrdersOk t := by
  have same {x : State} (hx : x.store = s.store) (he : x.env = s.env) (hu : x.plant.units = s.plant.units) : OrdersOk x :=
    h.same (hx ▸ h.store) (by rw [he]) (by rw [he]) (fun _ => by rw [he]) (by rw [he]) (fun _ => by rw [he]) hu
  have numbered {o x : Order} (ho : o ∈ s.env.table) (hx : x ∈ s.env.table) (hn : (x.number == o.number) = true) : x = o :=
    h.table.records.unique hx ho (by simpa using hn)
  cases ha with
  | nothing => exact h
  | tick => exact h.same h.store rfl rfl (fun _ => rfl) rfl (fun _ => rfl) rfl
  | fieldRate v => exact h.withCfg rfl (serviceOf_stands rfl rfl rfl)
  | keyInput k v =>
    refine h.same h.store rfl rfl (fun j => ?_) rfl (fun _ => rfl) rfl
    by_cases hj : j = k
    · subst hj
      simp
    · simp [PerPortal.get_set_ne _ _ hj]
  | floatInput u f v => exact h.same h.store rfl rfl (fun _ => rfl) rfl (fun _ => rfl) rfl
  | thermalInput i v => exact h.same h.store rfl rfl (fun _ => rfl) rfl (fun _ => rfl) (by simp [putThermal])
  | supplyInput g b => exact h.same h.store rfl rfl (fun _ => rfl) rfl (fun _ => rfl) rfl
  | @event s1 he =>
    obtain ⟨hstore, henv⟩ := he.frame
    have hunits : s1.plant.units = s.plant.units := he.kept.units
    exact .settle (h.same (hstore ▸ h.store) (by rw [henv]) (by rw [henv]) (fun _ => by rw [henv]) (by rw [henv])
      (fun u => by rw [henv]; exact serviceOf_stands rfl rfl rfl u) hunits)
  | deficit z n => exact h.withPlant (measureDeficit_kept (e := s.env) .refl).units
  | ramp z _ => exact h.withPlant (stepRamp_kept (e := s.env) .refl).units
  | starve u _ => exact h.withPlant (starve_kept (e := s.env) .refl).units
  | supplyChange g b v _ =>
    have hpins : OrdersOk (s.withPins { s.env.pins with gridOk := g, standbyOk := b }) :=
      h.same h.store rfl rfl (fun _ => rfl) rfl (fun _ => rfl) rfl
    exact hpins.withPlant (changeSupply_kept (e := (s.withPins { s.env.pins with gridOk := g, standbyOk := b }).env) .refl).units
  | transferEnd _ => exact h.withPlant (changeSupply_kept (e := s.env) .refl).units
  | spacingEnd => exact h.withPlant (endSpacing_kept (e := s.env) .refl).units
  | supplyCfg v _ _ _ =>
    exact h.same h.store rfl rfl (fun _ => rfl) rfl (serviceOf_stands rfl rfl rfl)
      (checkWaits_kept (checkSpacing_kept (checkTransfer_kept (settlePlant_kept .refl)))).units
  | acknowledge w => exact same rfl rfl rfl
  | masks w => exact h.same h.store rfl rfl (fun _ => rfl) rfl (serviceOf_stands rfl rfl rfl) rfl
  | afterRead l b => exact same rfl rfl rfl
  | clearChanges l n => exact same rfl rfl rfl
  | reporting l r => exact h.same h.store rfl rfl (fun _ => rfl) rfl (serviceOf_stands rfl rfl rfl) rfl
  | moderation l _ => exact same rfl rfl rfl
  | save _ => exact h.putStore (h.store.ask ⟨trivial, h.table.field⟩)
  | restart => exact h.same ⟨h.store.area, h.store.inProgress, h.store.waiting, h.store.image⟩ rfl rfl (fun _ => rfl) rfl (fun _ => rfl) rfl
  | writeEnd how =>
    have hput : OrdersOk (putStore (s.store.endWrite how) s) := h.putStore h.store.endWrite
    simp only [noteFailure]
    split
    · exact hput
    · exact hput.withPlant (p := raiseCause _ _ _) rfl
  | boot pins cut b =>
    exact bootState_ordersOk _ _ _ _
      ⟨fun l hl => h.store.area l (cut_lockArea hl),
        by simp only [Store.cut]; split <;> exact h.store.inProgress,
        by simp only [Store.cut]; split <;> exact h.store.waiting,
        fun c hc => h.store.image c (cut_image hc)⟩
  | place l w hw => exact (h.placeOrder hw).settle
  | amend l mask m r v o ho howner hchecks => exact h.acceptAmend ho howner hchecks
  | withdraw o ho hk =>
    have hgone : OrdersOk (resolve [o.unit] (removeOrders (fun x => x.number == o.number) .withdrawn s)) :=
      h.remove (fun x hx hn => numbered ho hx hn ▸ hk) fun x hx hn => by rw [numbered ho hx hn]; simp
    refine .settle ?_
    split
    · exact hgone.askLockoutWrite
    · exact hgone
  | authority body k m hm => exact h.acceptAuthority hm
  | orderExpiry o ho hd =>
    refine .settle (h.remove (fun x hx hn hkey => ?_) fun x hx hn => by rw [numbered ho hx hn]; simp)
    rw [numbered ho hx hn] at hkey
    obtain ⟨k, -, -, -, -, hexpires, -⟩ := h.table.keys.fits o ho hkey
    simp [orderDue, hexpires] at hd
  | keyOn k hk hp =>
    have hoff : (s.env.keys.get k).on = false := by
      simp only [keyDue, Bool.and_eq_true, bne_iff_ne] at hk
      simp_all
    refine .settle ⟨(h.table.keyJoins hoff).resolve, h.store, GovernedBut.resolve (h.governed.but (fun _ _ => rfl) (fun u hu => ?_) rfl)⟩
    have hne : UnitId.portal k ≠ u := fun he => hu (he ▸ List.mem_singleton.mpr rfl)
    simp [joinTable, setKey, hne]
  | keyOff k =>
    refine .settle ⟨h.table.keyLeaves.resolve, h.store,
      GovernedBut.resolve (h.governed.but (fun _ _ => rfl) (fun u hu => ?_) (removeOrders_units ..))⟩
    simp only [removeOrders_table, List.filter_filter]
    refine List.filter_congr fun o ho => ?_
    by_cases hgone : (o.issuer == .key && o.holder == keyHolder k) = true
    · simp only [Bool.and_eq_true, beq_iff_eq] at hgone
      obtain ⟨j, hholder, hunit, -⟩ := h.table.keys.fits o ho hgone.1
      have hj : j = k := keyHolder_inj (hholder.symm.trans hgone.2)
      have : o.unit ≠ u := fun he => hu (by rw [← he, hunit, hj]; simp)
      simp [this]
    · simp [hgone]
  | service u v _ _ => exact h.changeService
  | pumpSettings i v _ _ => exact h.takePumpCfg.settle
  | zoneSettings z v _ _ =>
    exact .settle (h.same h.store rfl rfl (fun _ => rfl) rfl (serviceOf_stands rfl rfl rfl) (putZone_units ..))
  | sample u a b =>
    refine .settle ?_
    split
    · exact h.takeSection.latchSump
    · exact h.takeSection
  | floatEnd u f v => exact h.takeSection.settle
  | holdEnd u => exact h.takeSection.settle
  | group u n body g _ _ => exact h.takeGroup
  | restartSection u => exact h.restartSump.settle
  | ring u l _ => exact .settle (h.same h.store rfl rfl (fun _ => rfl) rfl (serviceOf_stands rfl rfl rfl) rfl)

end Orders

theorem SameCore.ordersOk {s t : State} : SameCore s t → OrdersOk s → OrdersOk t := by
  rintro ⟨_, _, rfl⟩ h
  exact ⟨h.table, h.store, h.governed⟩

/-- The table's rules and the governance are kept by a step. -/
theorem step_ordersOk {s t : State} (h : OrdersOk s) (hstep : step s = .next t) : OrdersOk t :=
  step_keeps (P := OrdersOk) (Q := OrdersOk) SameCore.ordersOk SameCore.ordersOk (fun hs ha => ha.ordersOk hs) h hstep

theorem ordersOk_iff {s : State} : OrdersOk s ↔ TableOk s ∧ GovernanceOk s :=
  ⟨fun ⟨h1, h2, h3⟩ => ⟨tableOk_iff.mpr ⟨h1, h2⟩, h3⟩, fun ⟨h, h3⟩ => ⟨(tableOk_iff.mp h).1, (tableOk_iff.mp h).2, h3⟩⟩

/-- Settles O54: every act keeps the records, the numbers, the switches' orders, the store's lockouts, and the governance. -/
theorem orderInvariantKept : Obligations.OrderInvariantKept := fun _ _ htable hgoverned hstep =>
  ordersOk_iff.mp (step_ordersOk (ordersOk_iff.mpr ⟨htable, hgoverned⟩) hstep)

end Sys2Proof.Machine

/-! Pumps, start queue and grants (R85, R94, R95, R106): a block's act that is no grant is calm, that is, it keeps the pumps consistent and
makes no pump and no permit draw more than it did; a grant adds one load, which the fit test has compared with the room. -/

namespace Sys2Proof.Machine

/-! ### The pumps in order -/

/-- One pump's record, where `off` says that it may not draw or wait, `waits` that its request is queued, and `noted` that the order of
grants names it. -/
structure PumpIn (off waits noted : Prop) (q : Pump) : Prop where
  fault : q.run = .faulted ↔ q.fault ≠ none
  starts : q.starts.length ≤ 12
  queued : q.run = .queued ↔ waits
  off : off → q.live = false ∧ q.run ≠ .queued
  noted : q.live = true → noted

/-- The pumps, the start queue and, where `g` asks for it, the order of grants; the pumps of `off` are still. -/
structure PlantIn (g : Prop) (off : PumpId → Prop) (p : Plant) : Prop where
  pumps : ∀ i, PumpIn (off i) (p.queued (.pump i) = true) (g → UnitId.pump i ∈ p.arb.grantOrder) (p.pumps.get i)
  permits : g → ∀ i, (p.portals.get i).permit = true → UnitId.portal i ∈ p.arb.grantOrder
  once : (p.arb.queue.map Request.unit).Nodup
  order : g → p.arb.grantOrder.Nodup

/-- The pumps out of service. -/
def outOff (e : Env) (i : PumpId) : Prop := e.cfg.pumpService.get i = .outOfService

/-- The pumps out of service, and the locked ones. -/
def stillOff (e : Env) (p : Plant) (i : PumpId) : Prop := e.cfg.pumpService.get i = .outOfService ∨ p.locked (.pump i) = true

theorem plantIn_iff {s : State} : PlantIn True (outOff s.env) s.plant ↔ PumpsOk s ∧ QueueOk s ∧ GrantsNoted s := by
  constructor
  · intro h
    exact ⟨fun i => ⟨(h.pumps i).fault, (h.pumps i).starts, (h.pumps i).queued, (h.pumps i).off⟩, h.once,
      fun i hl => (h.pumps i).noted hl trivial, h.permits trivial, h.order trivial⟩
  · rintro ⟨hp, hq, hn, hm, ho⟩
    refine ⟨fun i => ?_, fun _ => hm, hq, fun _ => ho⟩
    obtain ⟨h1, h2, h3, h4⟩ := hp i
    exact ⟨h1, h2, h3, h4, fun hl _ => hn i hl⟩

/-- A pump's record that draws no more than another: live only where that is, with its surge or none. -/
def Draws (q q' : Pump) : Prop := q'.live = true → q.live = true ∧ (q'.surge = .stopped ∨ q'.surge = q.surge)

theorem Draws.refl {q : Pump} : Draws q q := fun h => ⟨h, .inr rfl⟩

theorem Draws.trans {a b c : Pump} (h : Draws a b) (h' : Draws b c) : Draws a c := by
  intro hc
  obtain ⟨hb, hs⟩ := h' hc
  obtain ⟨ha, hs'⟩ := h hb
  refine ⟨ha, ?_⟩
  obtain hs | hs := hs
  · exact .inl hs
  · exact hs'.imp hs.trans hs.trans

theorem Draws.dead {q q' : Pump} (h : q'.live = false) : Draws q q' := fun h' => by rw [h] at h'; cases h'

/-- From the plant `a` to the plant `p` the blocks have kept the pumps in order, and no pump and no portal draws more. -/
structure Calm (g : Prop) (off : PumpId → Prop) (a p : Plant) : Prop where
  ok : PlantIn g off p
  draws : ∀ i, Draws (a.pumps.get i) (p.pumps.get i)
  permits : ∀ i, (p.portals.get i).permit = true → (a.portals.get i).permit = true
  units : p.units = a.units
  supply : p.arb.supply = a.arb.supply

section Calm
variable {g : Prop} {e : Env} {off : PumpId → Prop} {a b p : Plant}

theorem PlantIn.calm (h : PlantIn g off p) : Calm g off p p := ⟨h, fun _ => .refl, fun _ => id, rfl, rfl⟩

theorem PlantIn.given (h : PlantIn g off p) (hg : g) : PlantIn True off p :=
  ⟨fun i => ⟨(h.pumps i).fault, (h.pumps i).starts, (h.pumps i).queued, (h.pumps i).off, fun hl _ => (h.pumps i).noted hl hg⟩,
    fun _ => h.permits hg, h.once, fun _ => h.order hg⟩

theorem Calm.trans (h : Calm g off a b) (h' : Calm g off b p) : Calm g off a p :=
  ⟨h'.ok, fun i => (h.draws i).trans (h'.draws i), fun i hp => h.permits i (h'.permits i hp), h'.units.trans h.units,
    h'.supply.trans h.supply⟩

/-- Pumps, queue, order of grants and units stand, and no permit is given. -/
theorem Calm.same (h : Calm g off a p) {q : Plant} (hp : q.pumps = p.pumps) (hu : q.units = p.units) (ha : q.arb.queue = p.arb.queue)
    (hg : q.arb.grantOrder = p.arb.grantOrder) (hs : q.arb.supply = p.arb.supply)
    (hm : ∀ i, (q.portals.get i).permit = true → (p.portals.get i).permit = true) : Calm g off a q := by
  have hqueued (u : UnitId) : q.queued u = p.queued u := by simp only [Plant.queued, ha]
  refine ⟨⟨fun i => ?_, fun hn i hi => hg ▸ h.ok.permits hn i (hm i hi), ha ▸ h.ok.once, hg ▸ h.ok.order⟩, fun i => hp ▸ h.draws i,
    fun i hi => h.permits i (hm i hi), hu.trans h.units, hs.trans h.supply⟩
  rw [hqueued, hg, hp]
  exact h.ok.pumps i

theorem Calm.raise (h : Calm g off a p) {c : Cause} : Calm g off a (raiseCause e c p) := h.same rfl rfl rfl rfl rfl fun _ => id

theorem Calm.report (h : Calm g off a p) {k : RecordKey} {r : Option Reason} : Calm g off a (report e k r p) := h.same rfl rfl rfl rfl rfl fun _ => id

theorem Calm.refresh (h : Calm g off a p) : Calm g off a (refreshConditions e p) := h.same rfl rfl rfl rfl rfl fun _ => id

theorem Calm.zone (h : Calm g off a p) {z : ZoneId} {q : Zone} : Calm g off a (putZone e z q p) :=
  h.same (putZone_pumps ..) (putZone_units ..) (by rw [putZone_arb]) (by rw [putZone_arb]) (by rw [putZone_arb])
    fun i hi => by rwa [putZone_portals] at hi

theorem Calm.portal (h : Calm g off a p) {j : PortalId} {q : Portal} (hq : q.permit = true → (p.portals.get j).permit = true) :
    Calm g off a (putPortal e j q p) := by
  refine h.same (putPortal_pumps ..) (putPortal_units ..) (by rw [putPortal_arb]) (by rw [putPortal_arb]) (by rw [putPortal_arb]) fun i hi => ?_
  rw [putPortal_portals] at hi
  by_cases hj : i = j
  · subst hj
    rw [PerPortal.get_set] at hi
    exact hq hi
  · rwa [PerPortal.get_set_ne _ _ hj] at hi

/-- A request of a portal joins the queue or leaves it (R106). -/
theorem Calm.joinPortal (h : Calm g off a p) {j : PortalId} : Calm g off a (joinQueue e (.portal j) p) := by
  refine ⟨⟨fun i => ?_, fun hn i hi => ?_, ?_, ?_⟩, fun i => ?_, fun i hi => ?_, ?_, ?_⟩
  · have hq : (joinQueue e (.portal j) p).queued (.pump i) = true ↔ p.queued (.pump i) = true := by simp [joinQueue_queued]
    obtain ⟨h1, h2, h3, h4, h5⟩ := h.ok.pumps i
    rw [joinQueue_pumps, joinQueue_grantOrder]
    exact ⟨h1, h2, h3.trans hq.symm, h4, h5⟩
  · rw [joinQueue_grantOrder]
    exact h.ok.permits hn i (by rwa [joinQueue_portals] at hi)
  · rw [joinQueue_units_queue]
    split
    · exact h.ok.once
    · rename_i hn
      exact h.ok.once.append (List.nodup_singleton _) (by simpa using fun hm => hn (queued_iff.mpr (List.mem_map.mpr hm)))
  · rw [joinQueue_grantOrder]
    exact h.ok.order
  · rw [joinQueue_pumps]
    exact h.draws i
  · exact h.permits i (by rwa [joinQueue_portals] at hi)
  · exact (joinQueue_units ..).trans h.units
  · exact (joinQueue_supply ..).trans h.supply

theorem Calm.dropPortal (h : Calm g off a p) {j : PortalId} : Calm g off a (dropRequest (.portal j) p) := by
  refine ⟨⟨fun i => ?_, h.ok.permits, ?_, h.ok.order⟩, h.draws, h.permits, h.units, h.supply⟩
  · have hq : (dropRequest (.portal j) p).queued (.pump i) = true ↔ p.queued (.pump i) = true := by simp [dropRequest_queued]
    obtain ⟨h1, h2, h3, h4, h5⟩ := h.ok.pumps i
    exact ⟨h1, h2, h3.trans hq.symm, h4, h5⟩
  · rw [dropRequest_units_queue]
    exact h.ok.once.filter _

/-- Whatever a portal's sequencer does is calm. -/
theorem Calm.portals (h : Calm g off a p) {i : PortalId} (hw : Wrote e (PortalWrite i) p b) : Calm g off a b := by
  refine hw.induct (P := Calm g off a) (fun q w hok hq => ?_) h
  cases w with
  | portal j r =>
    obtain ⟨rfl, hr⟩ := hok
    exact hq.portal hr
  | join u =>
    cases hok
    exact hq.joinPortal
  | drop u =>
    cases hok
    exact hq.dropPortal
  | raise c => exact hq.raise
  | _ => exact hok.elim

/-- Whatever the Lighting Controller does is calm. -/
theorem Calm.zones (h : Calm g off a p) (hw : Wrote e ZoneWrite p b) : Calm g off a b := by
  refine hw.induct (P := Calm g off a) (fun q w hok hq => ?_) h
  cases w with
  | zone z r => exact hq.zone
  | _ => exact hok.elim

theorem Calm.lamps (h : Calm g off a p) : Calm g off a (lampPass e p) := h.zones (lampPass_wrote .refl)

/-! ### Pump Duty's acts -/

/-- A pump's record is replaced by one that fits its place in the queue and draws no more. -/
theorem Calm.pump (h : Calm g off a p) {i : PumpId} {q : Pump}
    (hq : PumpIn (off i) (p.queued (.pump i) = true) (g → UnitId.pump i ∈ p.arb.grantOrder) q) (hd : Draws (p.pumps.get i) q) :
    Calm g off a (putPump e i q p) := by
  have hqueued (u : UnitId) : (putPump e i q p).queued u = p.queued u := by simp only [Plant.queued, putPump_arb]
  refine ⟨⟨fun j => ?_, fun hn j hj => ?_, ?_, ?_⟩, fun j => ?_, fun j hj => ?_, (putPump_units ..).trans h.units, ?_⟩
  · rw [hqueued, putPump_arb, putPump_pumps]
    by_cases hj : j = i
    · subst hj
      rwa [PerPump.get_set]
    · rw [PerPump.get_set_ne _ _ hj]
      exact h.ok.pumps j
  · rw [putPump_arb]
    exact h.ok.permits hn j (by rwa [putPump_portals] at hj)
  · rw [putPump_arb]
    exact h.ok.once
  · rw [putPump_arb]
    exact h.ok.order
  · rw [putPump_pumps]
    by_cases hj : j = i
    · subst hj
      rw [PerPump.get_set]
      exact (h.draws j).trans hd
    · rw [PerPump.get_set_ne _ _ hj]
      exact h.draws j
  · exact h.permits j (by rwa [putPump_portals] at hj)
  · rw [putPump_arb]
    exact h.supply

/-- A pump's record in which run state, fault, start list and surge stand. -/
theorem Calm.touch (h : Calm g off a p) {i : PumpId} {q : Pump} (hr : q.run = (p.pumps.get i).run) (hf : q.fault = (p.pumps.get i).fault)
    (hs : q.starts = (p.pumps.get i).starts) (hg : q.surge = (p.pumps.get i).surge) : Calm g off a (putPump e i q p) := by
  obtain ⟨h1, h2, h3, h4, h5⟩ := h.ok.pumps i
  have hlive : q.live = (p.pumps.get i).live := by simp only [Pump.live, hr]
  exact h.pump ⟨by rw [hr, hf]; exact h1, by rwa [hs], by rw [hr]; exact h3, by rw [hlive, hr]; exact h4, by rw [hlive]; exact h5⟩
    fun hl => ⟨hlive ▸ hl, .inr hg⟩

theorem live_iff {q : Pump} : q.live = true ↔ q.run = .starting ∨ q.run = .running := by simp [Pump.live]

theorem not_live_iff {q : Pump} : q.live = false ↔ q.run ≠ .starting ∧ q.run ≠ .running := by simp [Pump.live]

theorem afterStop_run (now r : Nat) (inHand : Bool) (k : Stop) (q : Pump) :
    (q.afterStop now r inHand k).run ≠ .queued ∧ (q.afterStop now r inHand k).live = false := by
  rw [not_live_iff]
  cases k <;> simp only [Pump.afterStop, Pump.toRest] <;> (try split) <;> simp

theorem afterStop_starts (now r : Nat) (inHand : Bool) (k : Stop) (q : Pump) : (q.afterStop now r inHand k).starts = q.starts := by
  cases k <;> simp only [Pump.afterStop, Pump.toRest, Pump.endTimers] <;> (try split) <;> rfl

/-- A stop faults the pump exactly when it is a fault; one that had none before keeps none. -/
theorem afterStop_fault {now r : Nat} {inHand : Bool} {k : Stop} {q : Pump} (h : q.fault = none) :
    (q.afterStop now r inHand k).run = .faulted ↔ (q.afterStop now r inHand k).fault ≠ none := by
  cases k <;> simp only [Pump.afterStop, Pump.toRest, Pump.endTimers] <;> (try split) <;> simp [h]

theorem PumpIn.stopped {off waits noted : Prop} {q : Pump} (h : PumpIn off waits noted q) (hq : q.run ≠ .queued) (hf : q.run ≠ .faulted)
    (now r : Nat) (inHand : Bool) (k : Stop) : PumpIn off waits noted (q.afterStop now r inHand k) := by
  obtain ⟨hrun, hlive⟩ := afterStop_run now r inHand k q
  refine ⟨afterStop_fault (by_contra fun hn => hf (h.fault.mpr hn)), ?_, ?_, fun _ => ⟨hlive, hrun⟩, fun hl => ?_⟩
  · rw [afterStop_starts]
    exact h.starts
  · exact iff_of_false hrun fun hw => hq (h.queued.mpr hw)
  · rw [hlive] at hl
    cases hl

theorem haltPump_fields {i : PumpId} {k : Stop} :
    (haltPump e i k p).pumps =
        p.pumps.set i ((p.pumps.get i).afterStop e.clock (e.cfg.pumps.get i).minRest (e.cfg.pumpService.get i == .inHand) k) ∧
      (haltPump e i k p).portals = p.portals ∧ (haltPump e i k p).units = p.units ∧ (haltPump e i k p).arb = p.arb := by
  have hlead : ∀ (c : Prop) [Decidable c] {u : SumpId} {q : Pump},
      (if c then advanceLead e u (putPump e i q p) else putPump e i q p).pumps = p.pumps.set i q ∧
        (if c then advanceLead e u (putPump e i q p) else putPump e i q p).portals = p.portals ∧
        (if c then advanceLead e u (putPump e i q p) else putPump e i q p).units = p.units ∧
        (if c then advanceLead e u (putPump e i q p) else putPump e i q p).arb = p.arb := by
    intro c _ u q
    split <;> simp
  cases k with
  | fault f =>
    simp only [haltPump, raiseCause_pumps, raiseCause_portals, raiseCause_units, raiseCause_arb]
    exact hlead _
  | _ => exact hlead _

/-- A stop of a pump that neither waits nor is faulted is calm (R90 to R93). -/
theorem Calm.halt (h : Calm g off a p) {i : PumpId} {k : Stop} (hq : (p.pumps.get i).run ≠ .queued) (hf : (p.pumps.get i).run ≠ .faulted) :
    Calm g off a (haltPump e i k p) := by
  obtain ⟨hpumps, hportals, hunits, harb⟩ := haltPump_fields (e := e) (p := p) (i := i) (k := k)
  have hput := h.pump (e := e) (i := i)
    ((h.ok.pumps i).stopped hq hf e.clock (e.cfg.pumps.get i).minRest (e.cfg.pumpService.get i == .inHand) k) (.dead (afterStop_run ..).2)
  refine hput.same ?_ ?_ ?_ ?_ ?_ fun j hj => ?_
  · rw [hpumps, putPump_pumps]
  · rw [hunits, putPump_units]
  · rw [harb, putPump_arb]
  · rw [harb, putPump_arb]
  · rw [harb, putPump_arb]
  · rw [hportals] at hj
    rwa [putPump_portals]

theorem Calm.haltLive (h : Calm g off a p) {i : PumpId} {k : Stop} (hl : (p.pumps.get i).live = true) : Calm g off a (haltPump e i k p) := by
  obtain hr | hr := live_iff.mp hl <;> exact h.halt (by rw [hr]; nofun) (by rw [hr]; nofun)

/-- A STARTING pump becomes RUNNING (R87). -/
theorem Calm.run (h : Calm g off a p) {i : PumpId} (hr : (p.pumps.get i).run = .starting) : Calm g off a (becomeRunning e i p) := by
  obtain ⟨h1, h2, h3, h4, h5⟩ := h.ok.pumps i
  refine h.pump ⟨iff_of_false (by simp) (fun hn => ?_), h2, iff_of_false (by simp) (fun hw => ?_), fun ho => ?_, fun _ => h5 ?_⟩
    fun _ => ⟨live_iff.mpr (.inl hr), .inr rfl⟩
  · simpa [hr] using h1.mpr hn
  · simpa [hr] using h3.mpr hw
  · have := (h4 ho).1
    simp [Pump.live, hr] at this
  · simp [Pump.live, hr]

/-- A QUEUED pump leaves the queue (R83). -/
theorem Calm.unqueue (h : Calm g off a p) {i : PumpId} (hr : (p.pumps.get i).run = .queued) : Calm g off a (unqueuePump e i p) := by
  obtain ⟨h1, h2, h3, h4, h5⟩ := h.ok.pumps i
  have hq (j : PumpId) : (dropRequest (.pump i) p).queued (.pump j) = true ↔ j ≠ i ∧ p.queued (.pump j) = true := by
    rw [dropRequest_queued]
    simp
  have hpumps : (unqueuePump e i p).pumps = p.pumps.set i { p.pumps.get i with run := .stopped, starved := false } := putPump_pumps ..
  have hportals : (unqueuePump e i p).portals = p.portals := putPump_portals ..
  have harb : (unqueuePump e i p).arb = (dropRequest (.pump i) p).arb := putPump_arb ..
  have hqueued (u : UnitId) : (unqueuePump e i p).queued u = (dropRequest (.pump i) p).queued u := by simp only [Plant.queued, harb]
  refine ⟨⟨fun j => ?_, fun hn j hj => ?_, ?_, ?_⟩, fun j => ?_, fun j hj => ?_, (putPump_units ..).trans h.units, ?_⟩
  · rw [hqueued, harb, hpumps]
    by_cases hj : j = i
    · subst hj
      rw [PerPump.get_set]
      refine ⟨iff_of_false (by simp) ?_, h2, iff_of_false (by simp) (by simp [hq]), fun _ => ⟨rfl, by simp⟩, nofun⟩
      exact fun hn => by simpa [hr] using h1.mpr hn
    · rw [PerPump.get_set_ne _ _ hj]
      obtain ⟨k1, k2, k3, k4, k5⟩ := h.ok.pumps j
      exact ⟨k1, k2, k3.trans (by simp [hq, hj]), k4, k5⟩
  · rw [harb]
    exact h.ok.permits hn j (hportals ▸ hj)
  · rw [harb, dropRequest_units_queue]
    exact h.ok.once.filter _
  · rw [harb]
    exact h.ok.order
  · rw [hpumps]
    by_cases hj : j = i
    · subst hj
      rw [PerPump.get_set]
      exact .dead rfl
    · rw [PerPump.get_set_ne _ _ hj]
      exact h.draws j
  · exact h.permits j (hportals ▸ hj)
  · rw [harb]
    exact h.supply

/-- A STOPPED pump that may wait joins the queue (R83). -/
theorem Calm.queue (h : Calm g off a p) {i : PumpId} (hr : (p.pumps.get i).run = .stopped) (hoff : ¬off i) : Calm g off a (queuePump e i p) := by
  obtain ⟨h1, h2, h3, h4, h5⟩ := h.ok.pumps i
  have hpumps : (queuePump e i p).pumps = p.pumps.set i { p.pumps.get i with run := .queued } :=
    (joinQueue_pumps ..).trans (putPump_pumps ..)
  have hportals : (queuePump e i p).portals = p.portals := (joinQueue_portals ..).trans (putPump_portals ..)
  have horder : (queuePump e i p).arb.grantOrder = p.arb.grantOrder := (joinQueue_grantOrder ..).trans (by rw [putPump_arb])
  have hnot : ¬p.queued (.pump i) = true := fun hq => by simpa [hr] using h3.mpr hq
  have hput (u : UnitId) {q : Pump} : (putPump e i q p).queued u = p.queued u := by simp only [Plant.queued, putPump_arb]
  have hq (j : PumpId) : (queuePump e i p).queued (.pump j) = true ↔ j = i ∨ p.queued (.pump j) = true := by
    rw [queuePump, joinQueue_queued, hput]
    simp
  refine ⟨⟨fun j => ?_, fun hn j hj => ?_, ?_, ?_⟩, fun j => ?_, fun j hj => ?_, ?_, ?_⟩
  · rw [hpumps, horder]
    by_cases hj : j = i
    · subst hj
      rw [PerPump.get_set]
      refine ⟨iff_of_false (by simp) ?_, h2, iff_of_true rfl (by simp [hq]), fun ho => absurd ho hoff, nofun⟩
      exact fun hn => by simpa [hr] using h1.mpr hn
    · rw [PerPump.get_set_ne _ _ hj]
      obtain ⟨k1, k2, k3, k4, k5⟩ := h.ok.pumps j
      exact ⟨k1, k2, k3.trans (by simp [hq, hj]), k4, k5⟩
  · rw [horder]
    exact h.ok.permits hn j (hportals ▸ hj)
  · rw [queuePump, joinQueue_units_queue, hput, if_neg hnot, putPump_arb]
    exact h.ok.once.append (List.nodup_singleton _) (by simpa using fun hm => hnot (queued_iff.mpr (List.mem_map.mpr hm)))
  · rw [horder]
    exact h.ok.order
  · rw [hpumps]
    by_cases hj : j = i
    · subst hj
      rw [PerPump.get_set]
      exact .dead rfl
    · rw [PerPump.get_set_ne _ _ hj]
      exact h.draws j
  · exact h.permits j (hportals ▸ hj)
  · exact (joinQueue_units ..).trans ((putPump_units ..).trans h.units)
  · exact (joinQueue_supply ..).trans ((congrArg Arbiter.supply (putPump_arb ..)).trans h.supply)

theorem foldl_calm {β : Type} {f : Plant → β → Plant} (l : List β) (hf : ∀ q x, x ∈ l → Calm g off a q → Calm g off a (f q x))
    (h : Calm g off a p) : Calm g off a (l.foldl f p) := by
  induction l generalizing p with
  | nil => exact h
  | cons x l ih => exact ih (fun q y hy => hf q y (List.mem_cons_of_mem _ hy)) (hf p x List.mem_cons_self h)

/-- The stop of a pump that waited or was faulted before nobody else's. -/
theorem halt_run {i j : PumpId} (hq : (p.pumps.get j).run ≠ .queued) (hf : (p.pumps.get j).run ≠ .faulted) :
    ((haltPump e i .rest p).pumps.get j).run ≠ .queued ∧ ((haltPump e i .rest p).pumps.get j).run ≠ .faulted := by
  rw [haltPump_fields.1]
  by_cases hj : j = i
  · subst hj
    rw [PerPump.get_set]
    refine ⟨(afterStop_run ..).1, ?_⟩
    simp only [Pump.afterStop, Pump.toRest]
    split <;> simp
  · rw [PerPump.get_set_ne _ _ hj]
    exact ⟨hq, hf⟩

/-- Standing stops of a list of pumps of which none waits or is faulted. -/
theorem Calm.halts (l : List PumpId) :
    ∀ {p : Plant}, Calm g off a p → (∀ i ∈ l, (p.pumps.get i).run ≠ .queued ∧ (p.pumps.get i).run ≠ .faulted) →
      Calm g off a (l.foldl (fun b i => haltPump e i .rest b) p) := by
  induction l with
  | nil => exact fun h _ => h
  | cons i l ih =>
    intro p h hl
    obtain ⟨hq, hf⟩ := hl i List.mem_cons_self
    refine ih (h.halt hq hf) fun j hj => ?_
    obtain ⟨hq, hf⟩ := hl j (List.mem_cons_of_mem _ hj)
    exact halt_run hq hf

theorem Calm.standing (h : Calm g off a p) {u : SumpId} (n : Nat) : Calm g off a (standingStops e u n p) := by
  induction n generalizing p with
  | zero => exact h
  | succ n ih =>
    simp only [standingStops]
    split
    · exact h
    · refine ih (h.halts _ fun i hi => ?_)
      have hdue := (List.mem_filter.mp hi).2
      simp only [standingStopDue, Bool.and_eq_true, beq_iff_eq] at hdue
      rw [hdue.1.1]
      exact ⟨nofun, nofun⟩

theorem mem_wantedPumps {u : SumpId} {i : PumpId} (h : i ∈ wantedPumps e p u) : available e p i = true := by
  obtain h | h := List.mem_append.mp h
  · exact (Bool.and_eq_true_iff.mp (List.mem_filter.mp h).2).1
  · exact (Bool.and_eq_true_iff.mp (List.mem_filter.mp (List.mem_of_mem_take h)).2).1

/-- A pump that wants to start is in service or in hand, and unlocked. -/
theorem wantsStart_free {q : Plant} {wanted : List PumpId} {i : PumpId} (hw : ∀ j ∈ wanted, p.locked (.pump j) = false) (hu : q.units = p.units)
    (h : wantsStart e q wanted i = true) : e.cfg.pumpService.get i ≠ .outOfService ∧ p.locked (.pump i) = false := by
  simp only [wantsStart] at h
  split at h
  · rename_i hs
    exact ⟨by rw [hs]; nofun, hw i (by simpa using h)⟩
  · rename_i hs
    refine ⟨by rw [hs]; nofun, ?_⟩
    simp only [Bool.and_eq_true, Bool.not_eq_true'] at h
    simpa only [Plant.locked, hu] using h.1.1.1
  · cases h

/-- The pumps of `off` are out of service or locked. -/
def OffIn (e : Env) (a : Plant) (off : PumpId → Prop) : Prop := ∀ i, off i → stillOff e a i

theorem Calm.duty (hoff : OffIn e a off) (h : Calm g off a p) {u : SumpId} : Calm g off a (dutySump e u p) := by
  have hstanding : Calm g off a (standingStops e u 5 p) := h.standing 5
  simp only [dutySump]
  generalize standingStops e u 5 p = b at hstanding
  have hfree : ∀ j ∈ wantedPumps e b u, b.locked (.pump j) = false := by
    intro j hj
    have := mem_wantedPumps hj
    simp only [available, Bool.and_eq_true, Bool.not_eq_true'] at this
    exact this.1.1.1.2
  refine foldl_calm _ (fun q i _ hq => ?_) hstanding
  simp only [queueOrLeave]
  split
  · rename_i hrun hwants
    refine hq.queue hrun fun ho => ?_
    obtain ⟨hs, hl⟩ := wantsStart_free hfree (hq.units.trans hstanding.units.symm) hwants
    obtain hout | hlock := hoff i ho
    · exact hs hout
    · simp only [Plant.locked, hstanding.units] at hl
      simp only [Plant.locked, hl] at hlock
      cases hlock
  · exact hq.unqueue ‹_›
  · exact hq

theorem Calm.dutyAll (hoff : OffIn e a off) (h : Calm g off a p) : Calm g off a (dutyAll e p) :=
  foldl_calm _ (fun _ _ _ hq => hq.duty hoff) h

theorem Calm.sequencers (h : Calm g off a p) : Calm g off a (sequencers e p) :=
  (h.portals (portalDemands_wrote .refl)).portals (portalDemands_wrote .refl)

theorem Calm.owners (hoff : OffIn e a off) (h : Calm g off a p) : Calm g off a (ownersAct e p) := (h.dutyAll hoff).sequencers.lamps

/-! ### Stops by locks, orders and the outfall limit (R91, R95) -/

theorem Calm.immediate (h : Calm g off a p) {i : PumpId} : Calm g off a (immediateStop e i p) := by
  simp only [immediateStop]
  split
  · split
    · exact h.haltLive (live_iff.mpr (.inl ‹_›))
    · exact h.haltLive (live_iff.mpr (.inr ‹_›))
    · exact h.unqueue ‹_›
    · exact h
    · exact h
    · exact h
  · exact h

/-- A pump whose immediate stop is due ends still, and a still one stays so. -/
theorem immediateStop_still {i j : PumpId}
    (h : (j = i ∧ immediateStopDue e p i = true) ∨ ((p.pumps.get j).live = false ∧ (p.pumps.get j).run ≠ .queued)) :
    ((immediateStop e i p).pumps.get j).live = false ∧ ((immediateStop e i p).pumps.get j).run ≠ .queued := by
  have hhalt {q : Plant} (hq : q = haltPump e i .rest p) (hj : j = i) : (q.pumps.get j).live = false ∧ (q.pumps.get j).run ≠ .queued := by
    rw [hq, haltPump_fields.1, hj, PerPump.get_set]
    exact (afterStop_run ..).symm
  by_cases hj : j = i
  · simp only [immediateStop]
    split
    · split
      · exact hhalt rfl hj
      · exact hhalt rfl hj
      · rw [hj]
        simp [unqueuePump, Pump.live]
      · rename_i hr
        rw [hj]
        simp [Pump.live, hr]
      · rename_i hr
        rw [hj]
        simp [Pump.live, hr]
      · rename_i hr
        rw [hj]
        simp [Pump.live, hr]
    · rename_i hdue
      exact h.resolve_left fun ⟨_, hd⟩ => hdue hd
  · have hstill := h.resolve_left fun ⟨he, _⟩ => hj he
    have hother : (immediateStop e i p).pumps.get j = p.pumps.get j := by
      simp only [immediateStop]
      split
      · split
        · rw [haltPump_fields.1, PerPump.get_set_ne _ _ hj]
        · rw [haltPump_fields.1, PerPump.get_set_ne _ _ hj]
        · simp [unqueuePump, PerPump.get_set_ne _ _ hj]
        · rfl
        · rfl
        · rfl
      · rfl
    rwa [hother]

/-- After the immediate stops every locked pump is still (R91). -/
theorem immediateStops_still (l : List PumpId) {j : PumpId} :
    ∀ {p : Plant}, (j ∈ l ∧ p.locked (.pump j) = true) ∨ ((p.pumps.get j).live = false ∧ (p.pumps.get j).run ≠ .queued) →
      ((l.foldl (fun a i => immediateStop e i a) p).pumps.get j).live = false ∧
        ((l.foldl (fun a i => immediateStop e i a) p).pumps.get j).run ≠ .queued := by
  induction l with
  | nil => exact fun h => h.resolve_left fun ⟨hm, _⟩ => absurd hm (List.not_mem_nil)
  | cons i l ih =>
    intro p h
    refine ih ?_
    have hunits : (immediateStop e i p).units = p.units := (immediateStop_kept (e := e) .refl).units
    by_cases hj : j ∈ l ∧ p.locked (.pump j) = true
    · exact .inl ⟨hj.1, by simpa only [Plant.locked, hunits] using hj.2⟩
    · refine .inr (immediateStop_still ?_)
      obtain ⟨hm, hl⟩ | hs := h
      · obtain rfl | hm := List.mem_cons.mp hm
        · exact .inl ⟨rfl, by simp [immediateStopDue, hl]⟩
        · exact absurd ⟨hm, hl⟩ hj
      · exact .inr hs

/-- The pumps of `off` and the locked ones are still after the immediate stops. -/
theorem PlantIn.stopsDue (h : PlantIn g off p) :
    Calm g off p (immediateStops e p) ∧ PlantIn g (fun i => off i ∨ p.locked (.pump i) = true) (immediateStops e p) := by
  have hcalm : Calm g off p (immediateStops e p) := foldl_calm _ (fun _ _ _ hq => hq.immediate) h.calm
  refine ⟨hcalm, fun i => ?_, hcalm.ok.permits, hcalm.ok.once, hcalm.ok.order⟩
  obtain ⟨h1, h2, h3, h4, h5⟩ := hcalm.ok.pumps i
  refine ⟨h1, h2, h3, ?_, h5⟩
  rintro (ho | hl)
  · exact h4 ho
  · exact immediateStops_still _ (.inl ⟨PumpId.mem_every i, hl⟩)

theorem latestLivePump_live {i : PumpId} (h : latestLivePump p = some i) : (p.pumps.get i).live = true := by
  obtain ⟨u, -, hu⟩ := List.exists_of_findSome?_eq_some h
  split at hu
  · split at hu
    · cases hu
      assumption
    · cases hu
  · cases hu

/-- While a pump is live, one of them has the latest grant. -/
theorem PlantIn.latest (h : PlantIn True off p) (hl : 0 < liveCount p) : ∃ i, latestLivePump p = some i := by
  obtain ⟨i, -, hi⟩ := List.countP_pos_iff.mp hl
  cases hn : latestLivePump p with
  | some j => exact ⟨j, rfl⟩
  | none =>
    rw [latestLivePump, List.findSome?_eq_none_iff] at hn
    have := hn (.pump i) (List.mem_reverse.mpr ((h.pumps i).noted hi trivial))
    simp [hi] at this

theorem Calm.outfall (h : Calm g off a p) (n : Nat) : Calm g off a (outfallStops e n p) := by
  induction n generalizing p with
  | zero => exact h
  | succ n ih =>
    simp only [outfallStops]
    split
    · split
      · exact ih (h.haltLive (latestLivePump_live ‹_›))
      · exact h
    · exact h

/-- A calm act makes no more pumps live. -/
theorem Calm.liveCount_le (h : Calm g off a p) : liveCount p ≤ liveCount a :=
  List.countP_mono_left fun i _ hi => (h.draws i hi).1

/-- A list without doubles loses exactly the pump that is stopped from its count of live pumps. -/
theorem countP_live_halt {i : PumpId} {k : Stop} (hl : (p.pumps.get i).live = true) (l : List PumpId) (hn : l.Nodup) :
    l.countP (fun j => ((haltPump e i k p).pumps.get j).live) + (if i ∈ l then 1 else 0) = l.countP (fun j => (p.pumps.get j).live) := by
  induction l with
  | nil => rfl
  | cons j l ih =>
    obtain ⟨hj, hn⟩ := List.nodup_cons.mp hn
    have := ih hn
    rw [List.countP_cons, List.countP_cons]
    by_cases he : i = j
    · subst he
      simp only [hj, if_false] at this
      simp only [haltPump_fields.1, PerPump.get_set, (afterStop_run ..).2, hl, List.mem_cons_self, if_true] at *
      simp only [Bool.false_eq_true, if_false]
      omega
    · have hother : (haltPump e i k p).pumps.get j = p.pumps.get j := by
        rw [haltPump_fields.1, PerPump.get_set_ne _ _ (Ne.symm he)]
      have hmem : (i ∈ j :: l) ↔ i ∈ l := by simp [he]
      simp only [hother, hmem]
      omega

theorem liveCount_halt {i : PumpId} {k : Stop} (hl : (p.pumps.get i).live = true) : liveCount (haltPump e i k p) + 1 = liveCount p := by
  have := countP_live_halt (e := e) (k := k) hl PumpId.every (by decide)
  simpa [PumpId.mem_every, liveCount] using this

theorem liveCount_le (p : Plant) : liveCount p ≤ 8 := List.countP_le_length

/-- A limit in force does not move while the unit records stand. -/
theorem limitInForce_congr (h : p.units = a.units) : limitInForce e p = limitInForce e a := by
  simp only [limitInForce, governingOrder, h]

/-- The count of live pumps is within the limit in force on the outfall. -/
def LimitIn (e : Env) (p : Plant) : Prop := ∀ n, limitInForce e p = some n → liveCount p ≤ n

/-- As many rounds as there are pumps above the limit bring the count down to it (R95). -/
theorem outfallStops_limit (n : Nat) : ∀ {p : Plant}, PlantIn True off p → (∀ m, limitInForce e p = some m → liveCount p ≤ n + m) →
    LimitIn e (outfallStops e n p) := by
  induction n with
  | zero => exact fun _ h m hm => (h m hm).trans (by omega)
  | succ n ih =>
    intro p h hn
    simp only [outfallStops]
    split
    · rename_i m i hlimit hlatest
      split
      · have hlive := latestLivePump_live hlatest
        refine ih (h.calm.haltLive hlive).ok fun k hk => ?_
        rw [limitInForce_congr (h.calm.haltLive (e := e) (k := .rest) hlive).units] at hk
        have := hn k hk
        have := liveCount_halt (e := e) (k := .rest) hlive
        omega
      · intro k hk
        rw [hlimit] at hk
        cases hk
        omega
    · rename_i hnone
      intro m hm
      by_contra hlt
      obtain ⟨i, hi⟩ := h.latest (by omega)
      exact hnone m i hm hi

theorem LimitIn.calm (h : LimitIn e a) (hc : Calm g off a p) : LimitIn e p := fun n hn =>
  hc.liveCount_le.trans (h n (limitInForce_congr hc.units ▸ hn))

/-! ### Grants (R86, R108, R112) -/

/-- The plant in which a pump has just been granted: its load has joined, the zones are not trimmed yet (R108). -/
def started (e : Env) (i : PumpId) (p : Plant) : Plant :=
  putPump e i ((p.pumps.get i).granted e.clock (e.cfg.pumps.get i)) (noteGrant (.pump i) (dropRequest (.pump i) p))

/-- The plant in which a portal has just taken its permit (R112). -/
def permitted (e : Env) (i : PortalId) (p : Plant) : Plant :=
  putPortal e i { (unqueuePortal e i p).portals.get i with permit := true } (noteGrant (.portal i) (unqueuePortal e i p))

theorem mem_noteGrant {u v : UnitId} {l : List UnitId} : v ∈ l.filter (fun w => w != u) ++ [u] ↔ v ∈ l ∨ v = u := by
  by_cases h : v = u <;> simp [h]

theorem nodup_noteGrant {u : UnitId} {l : List UnitId} (h : l.Nodup) : (l.filter (fun w => w != u) ++ [u]).Nodup :=
  (h.filter _).append (List.nodup_singleton _) (by simp)

theorem addStart_length {now : Nat} {l : List Nat} (h : l.length ≤ 12) : (addStart now l).length ≤ 12 := by
  have hlimit : Config.startListLimit = 12 := rfl
  simp only [addStart, List.length_append, List.length_singleton]
  split
  · rw [List.length_drop]
    omega
  · omega

theorem started_pumps {i : PumpId} : (started e i p).pumps = p.pumps.set i ((p.pumps.get i).granted e.clock (e.cfg.pumps.get i)) :=
  putPump_pumps ..

theorem started_arb {i : PumpId} : (started e i p).arb = (noteGrant (.pump i) (dropRequest (.pump i) p)).arb := putPump_arb ..

theorem started_plantIn (h : PlantIn g off p) {i : PumpId} (hq : p.queued (.pump i) = true) : PlantIn g off (started e i p) := by
  have hqueued (u : UnitId) : (started e i p).queued u = (dropRequest (.pump i) p).queued u := by
    simp only [Plant.queued, started_arb, noteGrant_queue]
  refine ⟨fun j => ?_, fun hn j hj => ?_, ?_, fun hn => ?_⟩
  · rw [hqueued, started_arb, started_pumps, noteGrant_grantOrder, dropRequest_grantOrder, mem_noteGrant, dropRequest_queued]
    by_cases hj : j = i
    · subst hj
      obtain ⟨h1, h2, h3, h4, h5⟩ := h.pumps j
      have hrun := h3.mpr hq
      rw [PerPump.get_set]
      refine ⟨iff_of_false (by simp [Pump.granted]) ?_, addStart_length h2, iff_of_false (by simp [Pump.granted]) (by simp),
        fun ho => absurd hrun (h4 ho).2, fun _ _ => .inr rfl⟩
      exact fun hn => by simpa [hrun] using h1.mpr hn
    · rw [PerPump.get_set_ne _ _ hj]
      obtain ⟨h1, h2, h3, h4, h5⟩ := h.pumps j
      exact ⟨h1, h2, h3.trans (by simp [hj]), h4, fun hl hn => .inl (h5 hl hn)⟩
  · rw [started_arb, noteGrant_grantOrder, mem_noteGrant]
    exact .inl (h.permits hn j (by simpa [started] using hj))
  · rw [started_arb, noteGrant_queue, dropRequest_units_queue]
    exact h.once.filter _
  · rw [started_arb, noteGrant_grantOrder]
    exact nodup_noteGrant (h.order hn)

theorem grantPump_eq {i : PumpId} : grantPump e i p =
    { (if e.pins.thermal.get i then faultAtGrant e i (lampPass e (started e i p))
       else if e.pins.feedback.get i then becomeRunning e i (lampPass e (started e i p)) else lampPass e (started e i p)) with
      arb :=
        { (if e.pins.thermal.get i then faultAtGrant e i (lampPass e (started e i p))
           else if e.pins.feedback.get i then becomeRunning e i (lampPass e (started e i p)) else lampPass e (started e i p)).arb with
          spacing := timerFor e.clock e.cfg.supply.spacing } } := rfl

/-- An allocation leaves the pumps. -/
theorem lampPass_pumps : (lampPass e p).pumps = p.pumps :=
  (lampPass_wrote (e := e) .refl).stands (f := Plant.pumps) fun q w hw => by
    cases w with
    | zone z r => exact putZone_pumps ..
    | _ => exact hw.elim

theorem started_run {i : PumpId} : ((started e i p).pumps.get i).run = .starting := by
  rw [started_pumps, PerPump.get_set]
  rfl

theorem grantPump_calm (h : PlantIn g off p) {i : PumpId} (hq : p.queued (.pump i) = true) : Calm g off (started e i p) (grantPump e i p) := by
  have hlamps : Calm g off (started e i p) (lampPass e (started e i p)) := (started_plantIn h hq).calm.lamps
  have hrun : ((lampPass e (started e i p)).pumps.get i).run = .starting := by rw [lampPass_pumps, started_run]
  rw [grantPump_eq]
  refine Calm.same (p := ite _ _ _) ?_ rfl rfl rfl rfl rfl fun _ => id
  split
  · exact (hlamps.pump ((hlamps.ok.pumps i).stopped (by rw [hrun]; nofun) (by rw [hrun]; nofun) _ _ _ _)
      (.dead (afterStop_run ..).2)).raise
  · split
    · exact hlamps.run hrun
    · exact hlamps

theorem permitted_plantIn (h : PlantIn g off p) {i : PortalId} : PlantIn g off (permitted e i p) := by
  have hc : Calm g off p (unqueuePortal e i p) := h.calm.portals (unqueuePortal_wrote (i := i) .refl)
  have hpumps : (permitted e i p).pumps = (unqueuePortal e i p).pumps := putPortal_pumps ..
  have harb : (permitted e i p).arb = (noteGrant (.portal i) (unqueuePortal e i p)).arb := putPortal_arb ..
  have hqueued (u : UnitId) : (permitted e i p).queued u = (unqueuePortal e i p).queued u := by simp only [Plant.queued, harb, noteGrant_queue]
  refine ⟨fun j => ?_, fun hn j hj => ?_, ?_, fun hn => ?_⟩
  · obtain ⟨h1, h2, h3, h4, h5⟩ := hc.ok.pumps j
    rw [hqueued, hpumps, harb, noteGrant_grantOrder, mem_noteGrant]
    exact ⟨h1, h2, h3, h4, fun hl hn => .inl (h5 hl hn)⟩
  · rw [harb, noteGrant_grantOrder, mem_noteGrant]
    by_cases he : j = i
    · exact .inr (by rw [he])
    · refine .inl (hc.ok.permits hn j ?_)
      simpa [permitted, PerPortal.get_set_ne _ _ he] using hj
  · rw [harb, noteGrant_queue]
    exact hc.ok.once
  · rw [harb, noteGrant_grantOrder]
    exact nodup_noteGrant (hc.ok.order hn)

theorem grantPortal_calm (h : PlantIn g off p) {i : PortalId} : Calm g off (permitted e i p) (grantPortal e i p) :=
  ((permitted_plantIn h).calm.lamps).portals (onPermit_wrote .refl)

theorem mem_grantOrderNow {q : List Request} {r : Request} (h : r ∈ grantOrderNow e q) : r ∈ q := by
  obtain h | h := List.mem_append.mp h
  · exact List.mem_of_mem_filter h
  · obtain ⟨st, -, h⟩ := List.mem_flatMap.mp h
    exact List.mem_of_mem_filter (List.mem_of_mem_filter h)

/-- What each grant of a queued request that fits keeps, with the owners' acts after it, the whole pass keeps. -/
theorem grantPass_induct {P : Plant → Prop}
    (hP : ∀ q r, P q → r ∈ q.arb.queue → fits e q r = true → P (ownersAct e (grantRequest e r q))) (n : Nat) :
    ∀ {p : Plant}, P p → P (grantPass e n p) := by
  induction n with
  | zero => exact id
  | succ n ih =>
    intro p h
    simp only [grantPass]
    split
    · exact h
    · rename_i r l hr
      split
      · exact ih (hP p r h (mem_grantOrderNow (hr ▸ List.mem_cons_self)) ‹_›)
      · exact h

/-- A request that fits is a pump's or a portal's. -/
theorem fits_cases {r : Request} (hr : r ∈ p.arb.queue) (h : fits e p r = true) :
    (∃ i, grantRequest e r p = grantPump e i p ∧ p.queued (.pump i) = true ∧
      nonLampLoad e p + shedReservation e.cfg + (e.cfg.pumps.get i).load + (e.cfg.pumps.get i).surge ≤ budget e p ∧
      ∀ n, limitInForce e p = some n → liveCount p < n) ∨
    ∃ i, grantRequest e r p = grantPortal e i p ∧ p.queued (.portal i) = true ∧
      nonLampLoad e p + shedReservation e.cfg + (e.cfg.portals.get i).motorKw ≤ budget e p := by
  obtain ⟨u, j, w⟩ := r
  have hq : p.queued u = true := queued_iff.mpr (List.mem_map.mpr ⟨_, hr, rfl⟩)
  cases u with
  | pump i =>
    simp only [fits, Bool.and_eq_true, decide_eq_true_eq] at h
    obtain ⟨⟨hroom, -⟩, hlimit⟩ := h
    refine .inl ⟨i, rfl, hq, hroom, fun n hn => ?_⟩
    simpa [hn] using hlimit
  | portal i => exact .inr ⟨i, rfl, hq, by simpa [fits] using h⟩
  | zone z => simp [fits] at h
  | outfall => simp [fits] at h

theorem started_units {i : PumpId} : (started e i p).units = p.units := putPump_units ..

theorem permitted_units {i : PortalId} : (permitted e i p).units = p.units := by simp [permitted, unqueuePortal]

/-- A pump's grant makes at most one pump more live. -/
theorem liveCount_started {i : PumpId} : liveCount (started e i p) ≤ liveCount p + 1 := by
  have : ∀ l : List PumpId, l.Nodup →
      l.countP (fun j => ((started e i p).pumps.get j).live) ≤ l.countP (fun j => (p.pumps.get j).live) + (if i ∈ l then 1 else 0) := by
    intro l hn
    induction l with
    | nil => exact Nat.zero_le _
    | cons j l ih =>
      obtain ⟨hj, hn⟩ := List.nodup_cons.mp hn
      have := ih hn
      rw [List.countP_cons, List.countP_cons]
      by_cases he : i = j
      · subst he
        simp only [hj, if_false, List.mem_cons_self, if_true] at *
        split <;> omega
      · have hother : (started e i p).pumps.get j = p.pumps.get j := by rw [started_pumps, PerPump.get_set_ne _ _ (Ne.symm he)]
        have hmem : (i ∈ j :: l) ↔ i ∈ l := by simp [he]
        simp only [hother, hmem]
        omega
  have := this PumpId.every (by decide)
  simpa [PumpId.mem_every, liveCount] using this

theorem permitted_pumps {i : PortalId} : (permitted e i p).pumps = p.pumps := by simp [permitted, unqueuePortal]

/-- The pumps in order, with the limit kept where `g` notes the grants, and unit records that have not moved since `a`. -/
structure Settled (g : Prop) (e : Env) (off : PumpId → Prop) (a p : Plant) : Prop where
  ok : PlantIn g off p
  limit : g → LimitIn e p
  units : p.units = a.units

theorem OffIn.congr (h : OffIn e a off) (hu : p.units = a.units) : OffIn e p off := fun i ho => by
  have := h i ho
  simpa only [stillOff, Plant.locked, hu] using this

theorem Settled.calm (h : Settled g e off a p) {q : Plant} (hc : Calm g off p q) : Settled g e off a q :=
  ⟨hc.ok, fun hg => (h.limit hg).calm hc, hc.units.trans h.units⟩

theorem Settled.owners (hoff : OffIn e a off) (h : Settled g e off a p) : Settled g e off a (ownersAct e p) :=
  h.calm (h.ok.calm.owners (hoff.congr h.units))

theorem Settled.grant (h : Settled g e off a p) {r : Request} (hr : r ∈ p.arb.queue) (hf : fits e p r = true) :
    Settled g e off a (grantRequest e r p) := by
  obtain ⟨i, he, hq, -, hlimit⟩ | ⟨i, he, -, -⟩ := fits_cases hr hf
  · have hs : Settled g e off a (started e i p) := by
      refine ⟨started_plantIn h.ok hq, fun _ n hn => ?_, started_units.trans h.units⟩
      have := hlimit n (limitInForce_congr (e := e) started_units ▸ hn)
      have := liveCount_started (e := e) (p := p) (i := i)
      omega
    rw [he]
    exact hs.calm (grantPump_calm h.ok hq)
  · have hs : Settled g e off a (permitted e i p) := by
      refine ⟨permitted_plantIn h.ok, fun hg n hn => ?_, permitted_units.trans h.units⟩
      rw [limitInForce_congr permitted_units] at hn
      have := h.limit hg n hn
      simpa only [liveCount, permitted_pumps] using this
    rw [he]
    exact hs.calm (grantPortal_calm h.ok)

/-- Whatever stood before, when the blocks have acted the pumps are in order, the locked ones are still, and the limit is kept. -/
theorem blocksAct_settled (h : PlantIn g (outOff e) p) : Settled g e (stillOff e p) p (blocksAct e p) := by
  obtain ⟨hcalm, hstill⟩ := h.stopsDue (e := e)
  have houtfall := hstill.calm.outfall (e := e) 8
  have hoff : OffIn e p (stillOff e p) := fun _ ho => ho
  have hstart : Settled g e (stillOff e p) p (outfallStops e 8 (immediateStops e p)) := by
    refine ⟨houtfall.ok, fun hg => outfallStops_limit 8 (hstill.given hg) fun m _ => ?_, houtfall.units.trans hcalm.units⟩
    have := liveCount_le (immediateStops e p)
    omega
  exact grantPass_induct (P := Settled g e (stillOff e p) p) (fun q r hq hr hf => (hq.grant hr hf).owners hoff) 40 (hstart.owners hoff)

theorem PlantIn.mono {off' : PumpId → Prop} (h : PlantIn g off p) (ho : ∀ i, off' i → off i) : PlantIn g off' p :=
  ⟨fun i => ⟨(h.pumps i).fault, (h.pumps i).starts, (h.pumps i).queued, fun hi => (h.pumps i).off (ho i hi), (h.pumps i).noted⟩, h.permits, h.once,
    h.order⟩

theorem settlePlant_settled (h : PlantIn g (outOff e) p) : Settled g e (stillOff e p) p (settlePlant e p) :=
  (blocksAct_settled h).calm (blocksAct_settled h).ok.calm.refresh

end Calm

end Sys2Proof.Machine

/-! The pumps through every act (R85, R94, R95, R106): what an event does before the blocks act keeps them in order and lets nothing draw
more; the blocks then keep the limit on the outfall, whatever stood before. -/

namespace Sys2Proof.Machine

/-! ### Acts before the blocks act: nothing draws more -/

/-- From `a` to `p` the pumps are kept in order, and no pump and no portal draws more; unit records may have moved. -/
structure Eased (g : Prop) (off : PumpId → Prop) (a p : Plant) : Prop where
  ok : PlantIn g off p
  draws : ∀ i, Draws (a.pumps.get i) (p.pumps.get i)
  permits : ∀ i, (p.portals.get i).permit = true → (a.portals.get i).permit = true
  supply : p.arb.supply = a.arb.supply

section Eased
variable {g : Prop} {e : Env} {off : PumpId → Prop} {a b p : Plant}

theorem Calm.eased (h : Calm g off a p) : Eased g off a p := ⟨h.ok, h.draws, h.permits, h.supply⟩

theorem PlantIn.eased (h : PlantIn g off p) : Eased g off p p := h.calm.eased

theorem Eased.trans (h : Eased g off a b) (h' : Eased g off b p) : Eased g off a p :=
  ⟨h'.ok, fun i => (h.draws i).trans (h'.draws i), fun i hp => h.permits i (h'.permits i hp), h'.supply.trans h.supply⟩

theorem Eased.calm (h : Eased g off a b) (hc : Calm g off b p) : Eased g off a p := h.trans hc.eased

/-- Pumps, portals and the arbiter's record stand. -/
theorem PlantIn.same (h : PlantIn g off p) {q : Plant} (hp : q.pumps = p.pumps) (hq : q.portals = p.portals) (ha : q.arb = p.arb) :
    Eased g off p q := by
  have hqueued (u : UnitId) : q.queued u = p.queued u := by simp only [Plant.queued, ha]
  refine ⟨⟨fun i => ?_, ?_, ?_, ?_⟩, fun i => ?_, fun i => ?_, ?_⟩
  · rw [hqueued, hp, ha]
    exact h.pumps i
  · rw [hq, ha]
    exact h.permits
  · rw [ha]
    exact h.once
  · rw [ha]
    exact h.order
  · rw [hp]
    exact .refl
  · rw [hq]
    exact id
  · rw [ha]

theorem Eased.same (h : Eased g off a p) {q : Plant} (hp : q.pumps = p.pumps) (hq : q.portals = p.portals) (ha : q.arb = p.arb) :
    Eased g off a q := h.trans (h.ok.same hp hq ha)

theorem foldl_eased {β : Type} {f : Plant → β → Plant} (hf : ∀ q x, PlantIn g off q → Eased g off q (f q x)) (l : List β) :
    ∀ {p : Plant}, PlantIn g off p → Eased g off p (l.foldl f p) := by
  induction l with
  | nil => exact fun h => h.eased
  | cons x l ih => exact fun h => (hf _ x h).trans (ih (hf _ x h).ok)

/-! ### Locks, services, drives -/

theorem onLock_calm (h : Calm g off a p) {u : UnitId} : Calm g off a (onLock e u p) := by
  cases u with
  | pump i =>
    simp only [onLock]
    split
    · exact h.touch rfl rfl rfl rfl
    · exact h
  | portal i =>
    simp only [onLock]
    split
    · exact h.portals (putPortal_wrote (stopHand_wrote .refl) (by simp))
    · split <;> first | with_reducible exact h | exact h.portals (toHeld_wrote .refl)
    · exact h
  | zone z =>
    simp only [onLock]
    split
    · exact h.zone
    · exact h
  | outfall => exact h

theorem onUnlock_calm (h : Calm g off a p) {u : UnitId} : Calm g off a (onUnlock e u p) := by
  simp only [onUnlock]
  split
  · split
    · exact h.portals (settlePortal_wrote .refl)
    · exact h
  · exact h

theorem syncUnit_eased (h : PlantIn g off p) {u : UnitId} : Eased g off p (syncUnit e u p) := by
  have hset : Eased g off p (report e (.unit u) none { p with units := p.units.set u (unitRecOf e.cfg e.table u) }) := h.same rfl rfl rfl
  simp only [syncUnit]
  split
  · exact h.eased
  · split
    · exact hset.calm (onLock_calm hset.ok.calm)
    · split
      · exact hset.calm (onUnlock_calm hset.ok.calm)
      · exact hset

theorem applyDrive_calm (h : PlantIn g off p) (d : Drive) : Calm g off p (applyDrive e d p) := by
  cases d with
  | pump i on => exact h.calm.touch rfl rfl rfl rfl
  | motion i m => exact h.calm.portals (setHand_wrote .refl)
  | gateStop i =>
    simp only [applyDrive]
    split
    · exact h.calm.portals (endHand_wrote .refl)
    · exact h.calm
  | barrierStop i =>
    simp only [applyDrive]
    split
    · exact h.calm.portals (endHand_wrote .refl)
    · exact h.calm
  | signal i c => exact h.calm.portal id
  | level z n => exact h.calm.zone

/-- A pump that rests, is reset or is out of everything draws nothing and does not wait. -/
theorem Calm.idle (h : Calm g off a p) {i : PumpId} {q : Pump} (hwaits : (p.pumps.get i).run ≠ .queued)
    (hr : q.run = .stopped ∨ q.run = .resting) (hf : q.fault = none) (hs : q.starts = (p.pumps.get i).starts) :
    Calm g off a (putPump e i q p) := by
  obtain ⟨h1, h2, h3, h4, h5⟩ := h.ok.pumps i
  have hlive : q.live = false := by
    rw [not_live_iff]
    obtain hr | hr := hr <;> rw [hr] <;> exact ⟨nofun, nofun⟩
  have hqueued : q.run ≠ .queued := by obtain hr | hr := hr <;> rw [hr] <;> nofun
  have hfaulted : q.run ≠ .faulted := by obtain hr | hr := hr <;> rw [hr] <;> nofun
  exact h.pump
    ⟨iff_of_false hfaulted (by simp [hf]), by rwa [hs], iff_of_false hqueued fun hw => hwaits (h3.mpr hw), fun _ => ⟨hlive, hqueued⟩,
      by simp [hlive]⟩ (.dead hlive)

theorem toRest_fields {now r : Nat} {q : Pump} :
    ((q.toRest now r).run = .stopped ∨ (q.toRest now r).run = .resting) ∧ (q.toRest now r).fault = q.fault ∧
      (q.toRest now r).starts = q.starts := by
  simp only [Pump.toRest]
  split <;> simp

theorem resetPump_calm (h : PlantIn g off p) {i : PumpId} (hr : (p.pumps.get i).run = .faulted) : Calm g off p (resetPump e i p) := by
  obtain ⟨hrun, hfault, hstarts⟩ := toRest_fields (now := e.clock) (r := (e.cfg.pumps.get i).minRest) (q := { p.pumps.get i with fault := none })
  exact h.calm.idle (by rw [hr]; nofun) hrun hfault hstarts

theorem onFeedback_calm (h : PlantIn g off p) {i : PumpId} {v : Bool} : Calm g off p (onFeedback e i v p) := by
  simp only [onFeedback]
  split
  · exact h.calm.run ‹_›
  · exact h.calm.touch rfl rfl rfl rfl
  · exact h.calm.touch rfl rfl rfl rfl
  · exact h.calm

theorem onLoop_permit {v : Bool} {q : Portal} : (onLoop e v q).permit = q.permit := by
  simp only [onLoop]
  split <;> rfl

theorem Event.eased {s t : State} (he : Event s t) (h : PlantIn g off s.plant) : Eased g off s.plant t.plant := by
  cases he with
  | drive d => exact (applyDrive_calm h d).eased
  | resetPump i hr => exact (resetPump_calm h hr).report.eased
  | resetPortal i => exact (h.calm.portals (resetPortal_wrote (e := s.env) .refl)).report.eased
  | dryRunInput i v =>
    refine (h.calm.touch ?_ ?_ ?_ ?_).eased
    all_goals
      simp only [timeDryRun]
      split <;> rfl
  | halt i k hlive => exact (h.calm.haltLive hlive).eased
  | thermal i hlive => exact (h.calm.haltLive (e := (putThermal i true s).env) (i := i) (k := .fault .thermal) hlive).eased
  | feedback i v => exact (onFeedback_calm (e := (putFeedback i v s).env) h).eased
  | surgeEnd i =>
    obtain ⟨h1, h2, h3, h4, h5⟩ := h.pumps i
    exact Calm.eased (h.calm.pump ⟨h1, h2, h3, h4, h5⟩ fun hl => ⟨hl, .inl rfl⟩)
  | minRunEnd i => exact Calm.eased (h.calm.touch rfl rfl rfl rfl)
  | restEnd i hr =>
    refine Calm.eased (h.calm.idle (by rw [hr]; nofun) (.inl rfl) ?_ rfl)
    exact by_contra fun hn => by simpa [hr] using (h.pumps i).fault.mpr hn
  | startEntryEnd i =>
    obtain ⟨h1, h2, h3, h4, h5⟩ := h.pumps i
    refine Calm.eased (h.calm.pump ⟨h1, ?_, h3, h4, h5⟩ fun hl => ⟨hl, .inr rfl⟩)
    rw [List.length_drop]
    omega
  | warningEnd i => exact (h.calm.portals (toBarring_wrote (e := s.env) .refl)).eased
  | limitChange i sw v => exact (h.calm.portals (onLimit_wrote (e := (putPortalPins i _ s).env) .refl)).eased
  | travelEnd i => exact (h.calm.portals (toJammed_wrote (e := s.env) .refl)).eased
  | handTravelEnd i => exact (h.calm.portals (endHand_wrote (e := s.env) .refl)).eased
  | loopChange v occupied =>
    refine Calm.eased (h.calm.same rfl rfl rfl rfl rfl fun i hi => ?_)
    cases i <;> exact onLoop_permit ▸ hi
  | clearConfirmEnd i => exact (h.calm.portals (toSealing_wrote (e := s.env) .refl)).eased
  | clearLimitEnd i => exact Calm.eased (Calm.raise (h.calm.portal (by exact id)))
  | edgeOn i => exact (h.calm.portals (onEdge_wrote (e := (putPortalPins i _ s).env) .refl)).eased
  | edgeOff i => exact h.eased
  | retryEnd i => exact (h.calm.portals (retrySealing_wrote (e := s.env) .refl)).eased
  | window d w => exact h.eased
  | scales v w => exact h.eased
  | portalSettings i v => exact h.eased

/-! ### A change of service state (R35 to R37) -/

/-- Off is decided pump by pump. -/
theorem PlantIn.reoff {off' : PumpId → Prop} (h : PlantIn g off p)
    (ho : ∀ i, off' i → off i ∨ ((p.pumps.get i).live = false ∧ (p.pumps.get i).run ≠ .queued)) : PlantIn g off' p :=
  ⟨fun i => ⟨(h.pumps i).fault, (h.pumps i).starts, (h.pumps i).queued, fun hi => (ho i hi).elim (h.pumps i).off id, (h.pumps i).noted⟩,
    h.permits, h.once, h.order⟩

/-- A pump that leaves the service is still (R35). -/
theorem pumpOut_calm (h : PlantIn g off p) {i : PumpId} :
    Calm g off p (pumpOut e i p) ∧ ((pumpOut e i p).pumps.get i).live = false ∧ ((pumpOut e i p).pumps.get i).run ≠ .queued := by
  have hstep {q : Plant} (hq : Calm g off p q) (hs : (q.pumps.get i).live = false ∧ (q.pumps.get i).run ≠ .queued) :
      Calm g off p (putPump e i { q.pumps.get i with hand := false } q) ∧
        ((putPump e i { q.pumps.get i with hand := false } q).pumps.get i).live = false ∧
        ((putPump e i { q.pumps.get i with hand := false } q).pumps.get i).run ≠ .queued := by
    refine ⟨hq.touch rfl rfl rfl rfl, ?_⟩
    rw [putPump_pumps, PerPump.get_set]
    exact hs
  have hhalt : ((haltPump e i .off p).pumps.get i).live = false ∧ ((haltPump e i .off p).pumps.get i).run ≠ .queued := by
    rw [haltPump_fields.1, PerPump.get_set]
    exact (afterStop_run ..).symm
  simp only [pumpOut]
  split
  · exact hstep (h.calm.haltLive (live_iff.mpr (.inl ‹_›))) hhalt
  · exact hstep (h.calm.haltLive (live_iff.mpr (.inr ‹_›))) hhalt
  · exact hstep (h.calm.unqueue ‹_›) (by simp [unqueuePump, Pump.live])
  · rename_i hr
    refine hstep (h.calm.idle (by rw [hr]; nofun) (.inl rfl) ?_ rfl) (by simp [Pump.live])
    exact by_contra fun hn => by simpa [hr] using (h.pumps i).fault.mpr hn
  · rename_i hr
    exact hstep h.calm (by simp [Pump.live, hr])
  · rename_i hr
    exact hstep h.calm (by simp [Pump.live, hr])

theorem pumpInHand_calm (h : PlantIn g off p) {i : PumpId} : Calm g off p (pumpInHand e i p) := by
  simp only [pumpInHand]
  split
  · exact (h.calm.unqueue ‹_›).touch rfl rfl rfl rfl
  · exact h.calm.touch rfl rfl rfl rfl

theorem pumpInService_calm (h : PlantIn g off p) {i : PumpId} : Calm g off p (pumpInService e i p) := by
  simp only [pumpInService]
  split
  · exact h.calm.unqueue ‹_›
  · exact h.calm

theorem setService_pump {c : WorkConfig} {i j : PumpId} {v : Service} :
    (c.setService (.pump i) v).pumpService.get j = if j = i then v else c.pumpService.get j := by
  by_cases hj : j = i
  · subst hj
    simp [WorkConfig.setService]
  · simp [WorkConfig.setService, PerPump.get_set_ne _ _ hj, hj]

theorem enterService_eased {s : State} {u : UnitId} {v : Service} (h : PlantIn g (outOff s.env) s.plant) :
    Eased g (outOff (s.withCfg (s.env.cfg.setService u v)).env) s.plant (enterService (s.withCfg (s.env.cfg.setService u v)).env u v s.plant) := by
  have hcalm : Calm g (outOff s.env) s.plant (enterService (s.withCfg (s.env.cfg.setService u v)).env u v s.plant) ∧
      ∀ i, outOff (s.withCfg (s.env.cfg.setService u v)).env i → outOff s.env i ∨
        (((enterService (s.withCfg (s.env.cfg.setService u v)).env u v s.plant).pumps.get i).live = false ∧
          ((enterService (s.withCfg (s.env.cfg.setService u v)).env u v s.plant).pumps.get i).run ≠ .queued) := by
    cases u with
    | pump i =>
      have hoff (j : PumpId) (ho : outOff (s.withCfg (s.env.cfg.setService (.pump i) v)).env j) : outOff s.env j ∨ (j = i ∧ v = .outOfService) := by
        simp only [outOff, State.withCfg, setService_pump] at ho
        split at ho
        · exact .inr ⟨‹_›, ho⟩
        · exact .inl ho
      cases v with
      | outOfService =>
        obtain ⟨hc, hs⟩ := pumpOut_calm (e := (s.withCfg (s.env.cfg.setService (.pump i) .outOfService)).env) h (i := i)
        exact ⟨hc, fun j ho => (hoff j ho).imp id fun ⟨hj, _⟩ => hj ▸ hs⟩
      | inHand => exact ⟨pumpInHand_calm h, fun j ho => .inl ((hoff j ho).resolve_right (by simp))⟩
      | inService => exact ⟨pumpInService_calm h, fun j ho => .inl ((hoff j ho).resolve_right (by simp))⟩
    | portal i =>
      refine ⟨?_, fun j ho => .inl ho⟩
      cases v with
      | outOfService => exact h.calm.portals (portalOut_wrote (e := (s.withCfg _).env) .refl)
      | inHand => exact h.calm.portals (portalInHand_wrote (e := (s.withCfg _).env) .refl)
      | inService => exact h.calm.portals (portalInService_wrote (e := (s.withCfg _).env) .refl)
    | zone z =>
      refine ⟨?_, fun j ho => .inl ho⟩
      cases v with
      | outOfService => exact h.calm.zone
      | inHand => exact h.calm.zone
      | inService => exact h.calm
    | outfall => exact ⟨h.calm, fun j ho => .inl ho⟩
  obtain ⟨hc, ho⟩ := hcalm
  exact ⟨hc.ok.reoff ho, hc.draws, hc.permits, hc.supply⟩

theorem withdrawPermits_calm (h : Calm g off a p) {l : List PortalId} : Calm g off a (withdrawPermits e l p) :=
  foldl_calm _ (fun _ _ _ hq => hq.portals (withdrawPermit_wrote .refl)) h

theorem makeRoom_calm (h : Calm g off a p) (n : Nat) : Calm g off a (makeRoom e n p) := by
  induction n generalizing p with
  | zero => exact h
  | succ n ih =>
    simp only [makeRoom]
    split
    · split
      · exact ih (h.haltLive (latestLivePump_live ‹_›))
      · exact withdrawPermits_calm h
    · exact h

theorem starve_calm (h : Calm g off a p) {u : UnitId} : Calm g off a (starve e u p) := by
  simp only [starve]
  split
  · refine Calm.raise ?_
    exact h.touch rfl rfl rfl rfl
  · exact (h.portal (by exact id)).raise
  · exact h

theorem checkWaits_calm (h : Calm g off a p) : Calm g off a (checkWaits e p) := foldl_calm _ (fun _ _ _ hq => starve_calm hq) h

theorem measureDeficit_calm (h : Calm g off a p) {z : ZoneId} {n : Nat} : Calm g off a (measureDeficit e z n p) := by
  simp only [measureDeficit]
  split
  · split
    · exact h.zone.raise.lamps
    · exact h.zone.lamps
  · exact h

theorem stepRamp_calm (h : Calm g off a p) {z : ZoneId} : Calm g off a (stepRamp e z p) := by
  simp only [stepRamp]
  split
  · exact h.zone
  · exact h

/-! ### A change of supply state (R100) -/

theorem retimeWaits_units (now : Nat) (v : Supply) (q : List Request) : (retimeWaits now v q).map Request.unit = q.map Request.unit := by
  simp [retimeWaits, Function.comp_def]

theorem setSupply_plantIn (h : PlantIn g off p) {v : Supply} : PlantIn g off (setSupply e v p) := by
  have hq (u : UnitId) : (setSupply e v p).queued u = true ↔ p.queued u = true := by
    rw [queued_iff, queued_iff]
    change u ∈ (retimeWaits e.clock v p.arb.queue).map Request.unit ↔ _
    rw [retimeWaits_units]
  refine ⟨fun i => ?_, h.permits, ?_, h.order⟩
  · obtain ⟨h1, h2, h3, h4, h5⟩ := h.pumps i
    exact ⟨h1, h2, h3.trans (hq _).symm, h4, h5⟩
  · change ((retimeWaits e.clock v p.arb.queue).map Request.unit).Nodup
    rw [retimeWaits_units]
    exact h.once

theorem dropPumps_calm (h : Calm g off a p) : Calm g off a (dropPumps e p) := by
  refine foldl_calm _ (fun q i _ hq => ?_) h
  split
  · exact hq.haltLive ‹_›
  · exact hq

theorem dropZones_calm (h : Calm g off a p) : Calm g off a (dropZones e p) := foldl_calm _ (fun _ _ _ hq => hq.zone) h

/-- Every budgeted load is dropped (R100). -/
theorem drops_calm (h : PlantIn g off p) {v : Supply} :
    Calm g off (setSupply e v p) (dropZones e (dropPermits e (dropPumps e (setSupply e v p)))) :=
  dropZones_calm (withdrawPermits_calm (dropPumps_calm (setSupply_plantIn h).calm))

end Eased

/-! ### Every act -/

section Acts
variable {g lim k : Prop} {s t : State} {off : PumpId → Prop} {a : Plant}

theorem resolve_eased {us : List UnitId} (h : Eased g off a s.plant) : Eased g off a (resolve us s).plant := by
  have hreports : Eased g off s.plant ((changedGovernance s.env.cfg us s.env.table).foldl
      (fun p n => report (resolve us s).env (.order n) none p) s.plant) :=
    foldl_eased (f := fun p n => report (resolve us s).env (.order n) none p) (fun _ _ hq => hq.same rfl rfl rfl) _ h.ok
  exact h.trans (hreports.trans (foldl_eased (f := fun p u => syncUnit (resolve us s).env u p) (fun _ _ hq => syncUnit_eased hq) us hreports.ok))

theorem removeOrders_eased {gone : Order → Bool} {why : Reason} (h : Eased g off a s.plant) : Eased g off a (removeOrders gone why s).plant :=
  h.trans (foldl_eased (f := fun p (o : Order) => report s.env (.order o.number) (some why) p) (fun _ _ hq => hq.same rfl rfl rfl) _ h.ok)

theorem standDown_eased (h : Eased g off a s.plant) : Eased g off a (standDown s).plant := resolve_eased (removeOrders_eased h)

theorem putStore_eased {x : Store} (h : Eased g off a s.plant) : Eased g off a (putStore x s).plant := by
  simp only [putStore]
  split
  · exact h
  · exact h.same rfl rfl rfl

theorem reportSection_eased {e : Env} {u : SumpId} {old new : Section} {c : Bool} {p : Plant} (h : Eased g off a p) :
    Eased g off a (reportSection e u old new c p) := by
  simp only [reportSection]
  repeat' split
  all_goals exact h.same rfl rfl rfl

theorem takeSection_eased {u : SumpId} {m : Section} (h : Eased g off a s.plant) : Eased g off a (takeSection u m s).plant := by
  simp only [takeSection]
  split
  · exact standDown_eased (reportSection_eased h)
  · exact reportSection_eased h

theorem latchSump_eased {u : SumpId} (h : Eased g off a s.plant) : Eased g off a (latchSump u s).plant := by
  simp only [latchSump]
  split
  · exact h.same rfl rfl rfl
  · exact h

theorem restartSump_eased {u : SumpId} (h : Eased g off a s.plant) : Eased g off a (restartSump u s).plant :=
  takeSection_eased (s := { s with plant := resetLead u s.plant }) (h.same rfl rfl rfl)

theorem placeOrder_eased {l : Link} {w : Wish} (h : Eased g off a s.plant) : Eased g off a (placeOrder l w s).plant := by
  have hjoin {x : State} (hx : Eased g off a x.plant) :
      Eased g off a (resolve [w.unit]
        (joinTable (issuerOfLink l) w.holder w.unit w.rank w.verb w.arg w.yieldStage w.expiry x)).plant :=
    resolve_eased (hx.same rfl rfl rfl)
  have hout : Eased g off a (if (replacedBy s l w).isSome then
      removeOrders (sameOwner (issuerOfLink l) w.holder w.unit) .replaced s else s).plant := by
    split
    · exact removeOrders_eased h
    · exact h
  simp only [placeOrder]
  split
  · exact putStore_eased (hjoin hout)
  · exact hjoin hout

theorem recordService_eased {u : UnitId} {v : Service} (h : PlantIn g (outOff s.env) s.plant) :
    Eased g (outOff (recordService u v s).env) s.plant (recordService u v s).plant :=
  (resolve_eased (s := (s.withCfg (s.env.cfg.setService u v)).withPlant _) (us := [u]) (enterService_eased h)).same rfl rfl rfl

theorem takePumpCfg_eased {i : PumpId} {v : PumpCfg} (h : Eased g off a s.plant) : Eased g off a (takePumpCfg i v s).plant := by
  simp only [takePumpCfg]
  split
  · exact h
  · exact standDown_eased (h.same rfl rfl rfl)

/-- The pumps of a plant in order; with `g` the grants are noted, with `lim` too the outfall limit is kept, with `k` the locked pumps are still. -/
structure PumpsIn (g lim k : Prop) (e : Env) (p : Plant) : Prop where
  ok : PlantIn g (outOff e) p
  limit : g → lim → LimitIn e p
  still : k → ∀ i, p.locked (.pump i) = true → (p.pumps.get i).live = false

/-- The same of a state. -/
abbrev PumpsSafe (g lim k : Prop) (s : State) : Prop := PumpsIn g lim k s.env s.plant

/-- The locked pumps of a plant in which the blocks have acted are still (R91). -/
theorem Settled.still {e : Env} {p q : Plant} (h : Settled g e (stillOff e p) p q) (i : PumpId) (hl : q.locked (.pump i) = true) :
    (q.pumps.get i).live = false :=
  ((h.ok.pumps i).off (.inr (by simpa only [Plant.locked, h.units] using hl))).1

/-- A calm act starts no pump, so the locked ones stay still. -/
theorem Calm.still {p q : Plant} (hc : Calm g off p q) (h : ∀ i, p.locked (.pump i) = true → (p.pumps.get i).live = false)
    (i : PumpId) (hl : q.locked (.pump i) = true) : (q.pumps.get i).live = false := by
  by_contra hlive
  have hp : p.locked (.pump i) = true := by simpa only [Plant.locked, hc.units] using hl
  have := ((hc.draws i) (by simpa using hlive)).1
  rw [h i hp] at this
  cases this

theorem Settled.pumpsIn {e : Env} {p q : Plant} (h : Settled g e (stillOff e p) p q) : PumpsIn g lim k e q :=
  ⟨h.ok.mono fun _ => .inl, fun hg _ => h.limit hg, fun _ => h.still⟩

theorem PumpsIn.calm {e : Env} {p q : Plant} (h : PumpsIn g lim k e p) (hc : Calm g (outOff e) p q) : PumpsIn g lim k e q :=
  ⟨hc.ok, fun hg hl => (h.limit hg hl).calm hc, fun hk => hc.still (h.still hk)⟩

theorem changeSupply_pumps {e : Env} {p : Plant} (h : PlantIn g (outOff e) p) {v : Supply} : PumpsIn g lim k e (changeSupply e v p) :=
  (settlePlant_settled (drops_calm (e := e) (v := v) h).ok).pumpsIn

theorem endSpacing_pumps {e : Env} {p : Plant} (h : PlantIn g (outOff e) p) : PumpsIn g lim k e (endSpacing e p) := by
  have hset := h.calm.same (q := { p with arb := { p.arb with spacing := .stopped } }) rfl rfl rfl rfl rfl fun _ => id
  exact (settlePlant_settled hset.ok).pumpsIn

theorem PumpsSafe.settle (h : PlantIn g (outOff s.env) s.plant) : PumpsSafe g lim k (settle s) := (settlePlant_settled h).pumpsIn

/-- The blocks act on what an event has done without more being drawn. -/
theorem PumpsSafe.settled (h : Eased g (outOff s.env) a t.plant) (hs : t.env.cfg.pumpService = s.env.cfg.pumpService) : PumpsSafe g lim k (Machine.settle t) :=
  .settle (h.ok.mono fun i hi => by rw [outOff, ← hs]; exact hi)

theorem PumpsSafe.same (h : PumpsSafe g lim k s) (hs : ∀ i, t.env.cfg.pumpService.get i = s.env.cfg.pumpService.get i)
    (ht : t.env.table = s.env.table) (hp : Calm g (outOff s.env) s.plant t.plant) : PumpsSafe g lim k t := by
  refine ⟨hp.ok.mono fun i hi => (hs i).symm.trans hi, fun hg hl n hn => (h.limit hg hl).calm (e := s.env) hp n ?_, fun hk => hp.still (h.still hk)⟩
  simpa only [limitInForce, governingOrder, ht] using hn

theorem takeSupplyCfg_safe {v : SupplyCfg} (h : PumpsSafe g lim k s) : PumpsSafe g lim k (takeSupplyCfg v s) := by
  let e : Env := { s.env with cfg := { s.env.cfg with supply := v } }
  have hstart : PumpsIn g lim k e (settlePlant e s.plant) := (settlePlant_settled (e := e) h.ok).pumpsIn
  have htransfer : PumpsIn g lim k e (checkTransfer e (settlePlant e s.plant)) := by
    simp only [checkTransfer]
    split
    · exact changeSupply_pumps hstart.ok
    · exact hstart
  have hspacing : PumpsIn g lim k e (checkSpacing e (checkTransfer e (settlePlant e s.plant))) := by
    simp only [checkSpacing]
    split
    · exact endSpacing_pumps htransfer.ok
    · exact htransfer
  exact hspacing.calm (checkWaits_calm (e := e) hspacing.ok.calm)

theorem takePumpCfg_service {i : PumpId} {v : PumpCfg} :
    (takePumpCfg i v s).env.cfg.pumpService = s.env.cfg.pumpService := by
  simp only [takePumpCfg]
  split <;> rfl

theorem placeOrder_cfg {l : Link} {w : Wish} : (placeOrder l w s).env.cfg = s.env.cfg := by
  simp only [placeOrder]
  split
  · rw [askLockoutWrite_env]
    split <;> rfl
  · split <;> rfl

theorem putStore_safe {x : Store} (h : PumpsSafe g lim k s) : PumpsSafe g lim k (putStore x s) := by
  have henv := putStore_env x s
  refine h.same (fun _ => by rw [henv]) (by rw [henv]) ?_
  simp only [putStore]
  split
  · exact h.ok.calm
  · exact h.ok.calm.report

theorem restartSump_cfg {u : SumpId} : (restartSump u s).env.cfg = s.env.cfg := by
  simp only [restartSump]
  exact (takeSection_frame ..).2.2.2.1

/-- The state with a group of a sump's settings replaced. -/
def State.withGroup (s : State) (u : SumpId) (g : Group) : State :=
  s.withCfg { s.env.cfg with sumps := s.env.cfg.sumps.set u ((s.env.cfg.sumps.get u).withGroup g) }

theorem takeGroup_calibration {u : SumpId} {c : Calibration} :
    takeGroup u (.calibration c) s = settle (restartSump u (s.withGroup u (.calibration c))) := rfl

theorem takeGroup_staging {u : SumpId} {st : Staging} : takeGroup u (.staging st) s =
    settle (takeSection u (restage s.env.clock st (s.env.sumps.get u)) (s.withGroup u (.staging st))) := rfl

theorem takeGroup_floats {u : SumpId} {f : FloatCfg} : takeGroup u (.floats f) s =
    settle
      { s.withGroup u (.floats f) with
        env :=
          { (s.withGroup u (.floats f)).env with
            sumps := s.env.sumps.set u (repolarise s.env.clock (s.env.cfg.sumps.get u).floats f (s.env.sumps.get u)) } } := rfl

theorem takeGroup_positions {u : SumpId} {l : List PosLevel} :
    takeGroup u (.positions l) s = settle (latchSump u (s.withGroup u (.positions l))) := rfl

theorem takeGroup_safe {u : SumpId} {gr : Group} (h : PlantIn g (outOff s.env) s.plant) : PumpsSafe g lim k (takeGroup u gr s) := by
  have eased : Eased g (outOff s.env) s.plant (s.withGroup u gr).plant := h.eased
  cases gr with
  | calibration c =>
    rw [takeGroup_calibration]
    exact .settled (s := s) (restartSump_eased eased) (by rw [restartSump_cfg]; rfl)
  | staging st =>
    rw [takeGroup_staging]
    exact .settled (s := s) (takeSection_eased eased) (by rw [(takeSection_frame ..).2.2.2.1]; rfl)
  | floats f =>
    rw [takeGroup_floats]
    exact .settled (s := s) eased rfl
  | positions l =>
    rw [takeGroup_positions]
    exact .settled (s := s) (latchSump_eased eased) (by rw [latchSump_env]; rfl)

theorem SameCore.pumpsSafe : SameCore s t → PumpsSafe g lim k s → PumpsSafe g lim k t := by
  rintro ⟨_, _, rfl⟩ h
  exact h

/-- The plant of a start-up before its first lamp allocation. -/
theorem bootPlant_plantIn (e : Env) {off : PumpId → Prop} : PlantIn g off (bootPlant e) := by
  have hstart {p : Plant} (h : PlantIn g off p) : PlantIn g off (lampPass e p) := h.calm.lamps.ok
  refine hstart ⟨fun i => ?_, fun _ i hi => ?_, List.nodup_nil, fun _ => List.nodup_nil⟩
  · simp only [PerPump.get_all]
    exact ⟨by decide, Nat.zero_le _, iff_of_false (by decide) (by simp [Plant.queued, bootArbiter, freshArbiter]), fun _ => by decide,
      nofun⟩
  · have hpermit (j : PortalId) : (bootPortal e j).permit = false := by
      simp only [bootPortal]
      split <;> rfl
    cases i <;> simp [PerPortal.get, hpermit] at hi

theorem bootState_pumps (pins : Inputs) (b : BootIn) (x : Store) (pd : List Instr) (lines : PerLink (List LineChar)) :
    PumpsSafe g lim k (bootState pins b x pd lines) := by
  have hboot : PlantIn g (outOff (bootEnv pins x)) (bootPlant (bootEnv pins x)) := bootPlant_plantIn _
  have hdead (i : PumpId) : ((bootState pins b x pd lines).plant.pumps.get i).live = false := by
    change ((bootPlant (bootEnv pins x)).pumps.get i).live = false
    rw [bootPlant, lampPass_pumps, PerPump.get_all]
    rfl
  refine ⟨(hboot.same (q := (bootState pins b x pd lines).plant) rfl rfl rfl).ok, fun _ _ n _ => ?_, fun _ i _ => hdead i⟩
  simp [liveCount, hdead]

/-- Every act keeps the pumps in order and the outfall limit. -/
theorem Act.pumpsSafe (h : PumpsSafe g lim k s) (ha : Act s t) : PumpsSafe g lim k t := by
  have refl : Calm g (outOff s.env) s.plant s.plant := h.ok.calm
  have eased : Eased g (outOff s.env) s.plant s.plant := h.ok.eased
  have settled {x : State} (hx : Eased g (outOff s.env) s.plant x.plant) (hs : x.env.cfg.pumpService = s.env.cfg.pumpService) :
      PumpsSafe g lim k (settle x) := .settled hx hs
  cases ha with
  | nothing => exact h
  | tick => exact h.same (fun _ => rfl) rfl refl
  | fieldRate v => exact h.same (fun _ => rfl) rfl refl
  | keyInput k v => exact h.same (fun _ => rfl) rfl refl
  | floatInput u f v => exact h.same (fun _ => rfl) rfl refl
  | thermalInput i v => exact h.same (fun _ => rfl) rfl refl
  | supplyInput g b => exact h.same (fun _ => rfl) rfl refl
  | @event s1 he =>
    obtain ⟨-, henv⟩ := he.frame
    exact settled (he.eased h.ok) (by rw [henv])
  | deficit z n => exact h.same (fun _ => rfl) rfl (measureDeficit_calm refl)
  | ramp z _ => exact h.same (fun _ => rfl) rfl (stepRamp_calm refl)
  | starve u _ => exact h.same (fun _ => rfl) rfl (starve_calm refl)
  | supplyChange g b v _ =>
    exact changeSupply_pumps (e := (s.withPins { s.env.pins with gridOk := g, standbyOk := b }).env) (v := v) h.ok
  | transferEnd _ => exact changeSupply_pumps (e := s.env) h.ok
  | spacingEnd => exact endSpacing_pumps (e := s.env) h.ok
  | supplyCfg v _ _ _ => exact takeSupplyCfg_safe h
  | acknowledge w => exact h.same (fun _ => rfl) rfl (refl.same rfl rfl rfl rfl rfl fun _ => id)
  | masks w => exact h.same (fun _ => rfl) rfl (refl.same rfl rfl rfl rfl rfl fun _ => id)
  | afterRead l b => exact h.same (fun _ => rfl) rfl (refl.same rfl rfl rfl rfl rfl fun _ => id)
  | clearChanges l n => exact h.same (fun _ => rfl) rfl (refl.same rfl rfl rfl rfl rfl fun _ => id)
  | reporting l r => exact h.same (fun _ => rfl) rfl (refl.same rfl rfl rfl rfl rfl fun _ => id)
  | moderation l _ => exact h.same (fun _ => rfl) rfl (refl.same rfl rfl rfl rfl rfl fun _ => id)
  | save _ => exact putStore_safe h
  | restart => exact h.same (fun _ => rfl) rfl refl
  | writeEnd how =>
    have hput : PumpsSafe g lim k (putStore (s.store.endWrite how) s) := putStore_safe h
    simp only [noteFailure]
    split
    · exact hput
    · exact hput.same (fun _ => rfl) rfl (hput.ok.calm.raise)
  | boot pins cut b => exact bootState_pumps ..
  | place l w _ => exact settled (placeOrder_eased eased) (by rw [placeOrder_cfg])
  | amend l mask m r v o _ _ _ =>
    simp only [acceptAmend]
    split
    · refine settled ?_ ?_
      · split
        · exact eased.same rfl rfl rfl
        · exact resolve_eased (eased.same rfl rfl rfl)
      · split <;> rfl
    · exact h
  | withdraw o _ _ =>
    refine settled ?_ ?_
    · split
      · exact putStore_eased (resolve_eased (removeOrders_eased eased))
      · exact resolve_eased (removeOrders_eased eased)
    · split
      · rw [askLockoutWrite_env]
        rfl
      · rfl
  | authority body k m _ => exact settled (standDown_eased eased) rfl
  | orderExpiry o _ _ => exact settled (resolve_eased (removeOrders_eased eased)) rfl
  | keyOn k _ _ => exact settled (resolve_eased (eased.same rfl rfl rfl)) rfl
  | keyOff k => exact settled (resolve_eased (removeOrders_eased eased)) rfl
  | service u v _ _ =>
    have hrec := (recordService_eased (u := u) (v := v) h.ok).ok
    simp only [changeService]
    split
    · exact .settle (makeRoom_calm hrec.calm 10).ok
    · exact .settle hrec
  | pumpSettings i v _ _ => exact settled (takePumpCfg_eased eased) takePumpCfg_service
  | zoneSettings z v _ _ => exact settled refl.zone.eased rfl
  | sample u a b =>
    refine settled ?_ ?_
    · split
      · exact latchSump_eased (takeSection_eased eased)
      · exact takeSection_eased eased
    · split
      · rw [latchSump_env, (takeSection_frame ..).2.2.2.1]
      · rw [(takeSection_frame ..).2.2.2.1]
  | floatEnd u f v => exact settled (takeSection_eased eased) (by rw [(takeSection_frame ..).2.2.2.1])
  | holdEnd u => exact settled (takeSection_eased eased) (by rw [(takeSection_frame ..).2.2.2.1])
  | group u n body g _ _ => exact takeGroup_safe h.ok
  | restartSection u => exact settled (restartSump_eased eased) (by rw [restartSump_cfg])
  | ring u l _ => exact settled (eased.same rfl rfl rfl) rfl

end Acts

/-- Settles O56: every act keeps the pumps, the queue and the grants in order, and the outfall limit. -/
theorem pumpInvariantKept : Obligations.PumpInvariantKept := by
  intro s t _ _ hpumps hqueue hnoted hlimit hstep
  have h : PumpsSafe True True False t := step_keeps (P := PumpsSafe True True False) (Q := PumpsSafe True True False) SameCore.pumpsSafe SameCore.pumpsSafe (fun hs ha => ha.pumpsSafe hs)
    ⟨plantIn_iff.mpr ⟨hpumps, hqueue, hnoted⟩, fun _ _ => hlimit, nofun⟩ hstep
  obtain ⟨h1, h2, h3⟩ := plantIn_iff.mp h.ok
  exact ⟨h1, h2, h3, h.limit trivial trivial⟩

end Sys2Proof.Machine

/-! The portals (R42, R115, R116, R126, R130): the record that each operation of a portal's sequencer leaves, and the guards that it keeps. -/

namespace Sys2Proof.Machine

/-! ### The record that an operation leaves -/

section Records
variable {e : Env} {i : PortalId} {p : Plant}

/-- A portal's record without permit and request (R112, R119). -/
def Portal.released (q : Portal) : Portal := { q with starved := false, permit := false }

@[simp] theorem released_seq (q : Portal) : q.released.seq = q.seq := rfl
@[simp] theorem released_permit (q : Portal) : q.released.permit = false := rfl
@[simp] theorem released_signal (q : Portal) : q.released.signal = q.signal := rfl
@[simp] theorem released_motion (q : Portal) : q.released.motion = q.motion := rfl
@[simp] theorem released_jam (q : Portal) : q.released.jam = q.jam := rfl
@[simp] theorem released_resume (q : Portal) : q.released.resume = q.resume := rfl

@[simp] theorem putPortal_get {q : Portal} : (putPortal e i q p).portals.get i = q := by simp

@[simp] theorem letGo_portal : (letGo e i p).portals.get i = (p.portals.get i).released := by simp [letGo, unqueuePortal, Portal.released]

@[simp] theorem driveOrQueue_portal : (driveOrQueue e i p).portals.get i =
    if (p.portals.get i).permit then { p.portals.get i with travel := (p.portals.get i).travel.resume e.clock } else p.portals.get i := by
  simp only [driveOrQueue]
  split <;> simp

@[simp] theorem enterIdle_portal {st : Seq} : (enterIdle e i st p).portals.get i = (p.portals.get i).released.enter st := by simp [enterIdle]

@[simp] theorem toOpen_portal : (toOpen e i p).portals.get i = { (p.portals.get i).released.enter .open with retries := 0 } := by simp [toOpen]

@[simp] theorem toSealed_portal : (toSealed e i p).portals.get i = { (p.portals.get i).released.enter .sealed with retries := 0 } := by
  simp [toSealed]

@[simp] theorem toWarning_portal : (toWarning e i p).portals.get i =
    { (p.portals.get i).released.enter .warning with warn := .since e.clock } := by simp [toWarning]

@[simp] theorem toClearing_portal : (toClearing e i p).portals.get i =
    { (p.portals.get i).released.enter .clearing with
      limit := .since e.clock
      confirm := if e.loopsClear then .since e.clock else .stopped } := by simp [toClearing]

@[simp] theorem enterStep_portal {st : Seq} {t : Timer} : (enterStep e i st t p).portals.get i =
    { (p.portals.get i).enter st with travel := t } := by simp [enterStep]

@[simp] theorem toJammed_portal {why : JamCause} : (toJammed e i why p).portals.get i =
    { (p.portals.get i).released.enter .jammed with resume := some (p.portals.get i).seq, jam := some why } := by simp [toJammed]

@[simp] theorem toHeld_portal : (toHeld e i p).portals.get i =
    { (p.portals.get i).released with
      seq := .held
      resume := some (p.portals.get i).seq
      retry := .stopped
      warn := (p.portals.get i).warn.pause e.clock
      travel := (p.portals.get i).travel.pause e.clock
      confirm := (p.portals.get i).confirm.pause e.clock
      limit := (p.portals.get i).limit.pause e.clock } := by simp [toHeld, Portal.released]

@[simp] theorem toUnsettled_portal : (toUnsettled e i p).portals.get i = (p.portals.get i).released.enter .unsettled := by simp [toUnsettled]

@[simp] theorem endHand_portal {why : HandResult} : (endHand e i why p).portals.get i =
    { (p.portals.get i).released with motion := .none, result := some why, travel := .stopped } := by simp [endHand]

theorem stopHand_portal : (stopHand e i p).portals.get i =
    if (p.portals.get i).motion = .none then p.portals.get i
    else { (p.portals.get i).released with motion := .none, result := some .stop, travel := .stopped } := by
  simp only [stopHand]
  split <;> simp

theorem obstruct_portal : (obstruct e i p).portals.get i =
    if (p.portals.get i).retries < (e.cfg.portals.get i).retryCount then
      { (p.portals.get i).released with
        travel := (p.portals.get i).travel.pause e.clock
        retries := (p.portals.get i).retries + 1
        retry := .since e.clock }
    else { (p.portals.get i).released.enter .jammed with resume := some (p.portals.get i).seq, jam := some .edge } := by
  simp only [obstruct]
  split <;> simp

theorem withdrawPermit_portal : (withdrawPermit e i p).portals.get i =
    if (p.portals.get i).permit then { p.portals.get i with permit := false, travel := (p.portals.get i).travel.pause e.clock }
    else p.portals.get i := by
  simp only [withdrawPermit]
  split <;> simp

/-- An operation of one portal leaves the other. -/
theorem Wrote.otherPortal {a : Plant} {j : PortalId} (h : Wrote e (PortalWrite i) a p) (hj : j ≠ i) : p.portals.get j = a.portals.get j :=
  h.stands (f := fun q => q.portals.get j) fun q w hw => by
    cases w with
    | portal k r =>
      obtain ⟨rfl, -⟩ := hw
      simp [PlantWrite.run, PerPortal.get_set_ne _ _ hj]
    | join u => simp [PlantWrite.run]
    | drop u => rfl
    | raise c => rfl
    | _ => exact hw.elim

/-- No write of a block touches the unit records. -/
theorem write_units {w : PlantWrite} {q : Plant} : (w.run e q).units = q.units := by
  cases w <;> simp [PlantWrite.run]

theorem Wrote.units {ok : Plant → PlantWrite → Prop} {a : Plant} (h : Wrote e ok a p) : p.units = a.units :=
  h.stands (f := Plant.units) fun _ _ _ => write_units

theorem Wrote.pumpPortals {a : Plant} (h : Wrote e PumpWrite a p) : p.portals = a.portals :=
  h.stands (f := Plant.portals) fun q w hw => by
    cases w with
    | pump k r => simp [PlantWrite.run]
    | join u => simp [PlantWrite.run]
    | drop u => rfl
    | lead u => rfl
    | raise c => rfl
    | _ => exact hw.elim

theorem Wrote.zonePortals {a : Plant} (h : Wrote e ZoneWrite a p) : p.portals = a.portals :=
  h.stands (f := Plant.portals) fun q w hw => by
    cases w with
    | zone z r => simp [PlantWrite.run]
    | _ => exact hw.elim

end Records

/-! ### The guards of a portal in service -/

/-- What `PortalOk` asks of a portal in service: a permit only in a motion step, and there the guards of R126 and R130. -/
structure StepIn (e : Env) (i : PortalId) (q : Portal) : Prop where
  seq : q.seq ≠ .hand ∧ q.seq ≠ .out
  aspect : ∀ a, q.seq.aspect = some a → q.signal = a
  step : q.permit = true → q.seq.motionStep = true
  sealing : q.seq = .sealing → q.permit = true → (e.portalPins i).barrierLowered = true
  lifting : q.seq = .lifting → q.permit = true → (e.portalPins i).gateOpen = true

section Steps
variable {e : Env} {i : PortalId} {p : Plant} {q : Portal}

theorem wantsMotor_step (hq : q.seq ≠ .hand) : q.wantsMotor ≠ none ↔ q.seq.motionStep = true := by
  cases h : q.seq <;> simp_all [Portal.wantsMotor, Seq.motionStep]

theorem motor_gateClose (hq : q.seq ≠ .hand) : q.motor = some .gateClose ↔ q.permit = true ∧ q.seq = .sealing := by
  simp only [Portal.motor]
  cases h : q.seq <;> simp_all [Portal.wantsMotor]

theorem StepIn.portalOk (hs : e.cfg.portalService.get i = .inService) (h : StepIn e i q) : PortalOk e i q := by
  refine ⟨by simp [hs, h.seq.1], by simp [hs, h.seq.2], h.aspect, fun hh => absurd hh h.seq.1, fun hp => ?_, fun hm => ?_, h.lifting⟩
  · exact (wantsMotor_step h.seq.1).mpr (h.step hp)
  · obtain ⟨hp, hseq⟩ := (motor_gateClose h.seq.1).mp hm
    exact h.sealing hseq hp

theorem PortalOk.stepIn (hs : e.cfg.portalService.get i = .inService) (h : PortalOk e i q) : StepIn e i q := by
  obtain ⟨hhand, hout, haspect, -, hwants, hguard, hlift⟩ := h
  have hne : q.seq ≠ .hand := fun he => by simpa [hs] using hhand.mpr he
  refine ⟨⟨hne, fun he => by simpa [hs] using hout.mpr he⟩, haspect, fun hp => (wantsMotor_step hne).mp (hwants hp), fun hseq hp => ?_, hlift⟩
  exact hguard ((motor_gateClose hne).mpr ⟨hp, hseq⟩)

/-- A portal in a state of the sequence is in service (R115). -/
theorem PortalOk.inService (h : PortalOk e i q) (hq : q.seq ≠ .hand) (ho : q.seq ≠ .out) : e.cfg.portalService.get i = .inService := by
  obtain ⟨hhand, hout, -⟩ := h
  cases hs : e.cfg.portalService.get i with
  | inService => rfl
  | inHand => exact absurd (hhand.mp hs) hq
  | outOfService => exact absurd (hout.mp hs) ho

/-- A record without a permit, in a state of the sequence, with the aspect of its state. -/
theorem StepIn.idle (hseq : q.seq ≠ .hand ∧ q.seq ≠ .out) (ha : ∀ a, q.seq.aspect = some a → q.signal = a) (hp : q.permit = false) :
    StepIn e i q :=
  ⟨hseq, ha, fun h => by simp [hp] at h, fun _ h => by simp [hp] at h, fun _ h => by simp [hp] at h⟩

/-- A record that has entered a state without its permit; HELD and HAND are entered otherwise (R116). -/
theorem StepIn.rested (st : Seq) (hseq : q.seq = st) (hsignal : st.aspect = some q.signal) (hp : q.permit = false)
    (hst : st ≠ .hand ∧ st ≠ .out) : StepIn e i q :=
  .idle (hseq ▸ hst) (fun a ha => by rw [hseq, hsignal] at ha; exact Option.some.inj ha) hp

/-- A motion step that the guards allow. -/
theorem StepIn.entered (st : Seq) (hst : st.motionStep = true) (hseal : st = .sealing → (e.portalPins i).barrierLowered = true)
    (hlift : st = .lifting → (e.portalPins i).gateOpen = true) {t : Timer} : StepIn e i { q.enter st with travel := t } :=
  ⟨by cases st <;> simp_all [Seq.motionStep], fun a ha => (congrArg (fun o => Option.getD o q.signal) ha : _), fun _ => hst,
    fun h _ => hseal h, fun h _ => hlift h⟩

/-- A permit that goes on, or the request that stands for it, changes the travel timer alone. -/
theorem StepIn.drive (h : StepIn e i (p.portals.get i)) : StepIn e i ((driveOrQueue e i p).portals.get i) := by
  rw [driveOrQueue_portal]
  split
  · exact ⟨h.seq, h.aspect, h.step, h.sealing, h.lifting⟩
  · exact h

theorem toClearing_in : StepIn e i ((toClearing e i p).portals.get i) := by
  rw [toClearing_portal]
  exact .rested .clearing rfl rfl rfl ⟨nofun, nofun⟩

theorem toOpen_in : StepIn e i ((toOpen e i p).portals.get i) := by
  rw [toOpen_portal]
  exact .rested .open rfl rfl rfl ⟨nofun, nofun⟩

theorem toSealed_in : StepIn e i ((toSealed e i p).portals.get i) := by
  rw [toSealed_portal]
  exact .rested .sealed rfl rfl rfl ⟨nofun, nofun⟩

theorem toWarning_in : StepIn e i ((toWarning e i p).portals.get i) := by
  rw [toWarning_portal]
  exact .rested .warning rfl rfl rfl ⟨nofun, nofun⟩

theorem toHeld_in : StepIn e i ((toHeld e i p).portals.get i) := by
  rw [toHeld_portal]
  exact .idle ⟨nofun, nofun⟩ nofun rfl

theorem toJammed_in {why : JamCause} : StepIn e i ((toJammed e i why p).portals.get i) := by
  rw [toJammed_portal]
  exact .rested .jammed rfl rfl rfl ⟨nofun, nofun⟩

theorem toBarring_in {t : Timer} : StepIn e i ((toBarring e i t p).portals.get i) := by
  simp only [toBarring]
  split
  · exact toClearing_in
  · refine .drive ?_
    rw [enterStep_portal]
    exact .entered .barring rfl nofun nofun

theorem toUnsealingAway_in {t : Timer} : StepIn e i ((toUnsealingAway e i t p).portals.get i) := by
  refine .drive ?_
  rw [enterStep_portal]
  exact .entered .unsealing rfl nofun nofun

theorem toLifting_in {t : Timer} : StepIn e i ((toLifting e i t p).portals.get i) := by
  simp only [toLifting]
  split
  · split
    · exact toOpen_in
    · refine .drive ?_
      rw [enterStep_portal]
      exact .entered .lifting rfl nofun fun _ => ‹_›
  · exact toUnsealingAway_in

theorem toUnsealing_in {t : Timer} : StepIn e i ((toUnsealing e i t p).portals.get i) := by
  simp only [toUnsealing]
  split
  · exact toLifting_in
  · exact toUnsealingAway_in

/-- An obstructed gate waits without its permit, or is jammed (R127). -/
theorem obstruct_in (h : StepIn e i (p.portals.get i)) : StepIn e i ((obstruct e i p).portals.get i) := by
  rw [obstruct_portal]
  split
  · exact .idle h.seq h.aspect rfl
  · exact .rested .jammed rfl rfl rfl ⟨nofun, nofun⟩

theorem sealOrQueue_in (h : StepIn e i (p.portals.get i)) : StepIn e i ((sealOrQueue e i p).portals.get i) := by
  simp only [sealOrQueue]
  split
  · exact obstruct_in h
  · exact h.drive

theorem toSealing_in {t : Timer} : StepIn e i ((toSealing e i t p).portals.get i) := by
  simp only [toSealing]
  split
  · split
    · exact toSealed_in
    · refine sealOrQueue_in ?_
      rw [enterStep_portal]
      exact .entered .sealing rfl (fun _ => ‹_›) nofun
  · exact toBarring_in

/-- A motion step is entered by name; any other name leaves the record (R119). -/
theorem toStep_in {st : Seq} {t : Timer} (h : StepIn e i (p.portals.get i)) : StepIn e i ((toStep e i st t p).portals.get i) := by
  cases st with
  | barring => exact toBarring_in
  | sealing => exact toSealing_in
  | unsealing => exact toUnsealing_in
  | lifting => exact toLifting_in
  | _ => exact h

theorem leaveHeld_in (h : StepIn e i (p.portals.get i)) (hp : (p.portals.get i).permit = false) :
    StepIn e i ((leaveHeld e i p).portals.get i) := by
  have hcleared : StepIn e i ((putPortal e i { p.portals.get i with resume := none } p).portals.get i) := by
    rw [putPortal_get]
    exact .idle h.seq h.aspect hp
  simp only [leaveHeld]
  split
  · rw [putPortal_get]
    exact .rested .warning rfl rfl hp ⟨nofun, nofun⟩
  · rw [putPortal_get]
    exact .rested .clearing rfl rfl hp ⟨nofun, nofun⟩
  · rw [putPortal_get]
    exact .rested .unsettled rfl rfl hp ⟨nofun, nofun⟩
  · exact toStep_in hcleared
  · exact h

/-- The demand is applied to a portal in service that is unlocked (R118). -/
theorem applyDemand_in (h : StepIn e i (p.portals.get i)) : StepIn e i ((applyDemand e i p).portals.get i) := by
  have hheld (hs : (p.portals.get i).seq = .held) : (p.portals.get i).permit = false := by
    cases hp : (p.portals.get i).permit with
    | false => rfl
    | true => simpa [hs, Seq.motionStep] using h.step hp
  simp only [applyDemand]
  split
  · split <;> first
      | with_reducible exact h
      | with_reducible exact toWarning_in
      | with_reducible exact toOpen_in
      | with_reducible exact toHeld_in
      | with_reducible exact toLifting_in
      | with_reducible exact toUnsealing_in
      | with_reducible exact toSealing_in
      | with_reducible exact toBarring_in
      | skip
    · split
      · exact toSealing_in
      · exact h
    · exact leaveHeld_in h (hheld ‹_›)
  · exact h

theorem applyDemand_of_not (h : ¬(e.cfg.portalService.get i = .inService ∧ p.locked (.portal i) = false)) : applyDemand e i p = p := by
  simp only [applyDemand, if_neg h]

end Steps

/-! ### A portal in hand (R41, R42) -/

section Hand
variable {e : Env} {i : PortalId} {p : Plant} {q : Portal}

theorem hand_motor (hq : q.seq = .hand) : (q.motor = some .gateClose ↔ q.permit = true ∧ q.motion = .gateClosing) ∧
    (q.wantsMotor ≠ none ↔ q.motion ≠ .none) := by
  simp only [Portal.motor, Portal.wantsMotor, hq]
  cases q.motion <;> simp

/-- What `PortalOk` asks of a portal in hand. -/
structure HandIn (e : Env) (i : PortalId) (q : Portal) : Prop where
  seq : q.seq = .hand
  red : q.motion = .gateClosing → q.signal = .red
  motion : q.permit = true → q.motion ≠ .none
  guard : q.permit = true → q.motion = .gateClosing → (e.portalPins i).barrierLowered = true

theorem HandIn.portalOk (hs : e.cfg.portalService.get i = .inHand) (h : HandIn e i q) : PortalOk e i q := by
  obtain ⟨hclose, hwants⟩ := hand_motor h.seq
  refine ⟨by simp [hs, h.seq], by simp [hs, h.seq], by simp [h.seq, Seq.aspect], fun _ => h.red, fun hp => hwants.mpr (h.motion hp), fun hm => ?_,
    by simp [h.seq]⟩
  obtain ⟨hp, hmotion⟩ := hclose.mp hm
  exact h.guard hp hmotion

theorem PortalOk.handIn (hq : q.seq = .hand) (h : PortalOk e i q) : HandIn e i q := by
  obtain ⟨hclose, hwants⟩ := hand_motor hq
  obtain ⟨-, -, -, hred, hmotion, hguard, -⟩ := h
  exact ⟨hq, hred hq, fun hp => hwants.mp (hmotion hp), fun hp hm => hguard (hclose.mpr ⟨hp, hm⟩)⟩

theorem PortalOk.inHand (h : PortalOk e i q) (hq : q.seq = .hand) : e.cfg.portalService.get i = .inHand := h.1.mpr hq

/-- A hand motion that has ended (R41). -/
theorem HandIn.ended (h : q.seq = .hand) (hm : q.motion = .none) (hp : q.permit = false) : HandIn e i q :=
  ⟨h, by simp [hm], by simp [hp], by simp [hp]⟩

theorem endHand_in {why : HandResult} (h : (p.portals.get i).seq = .hand) : HandIn e i ((endHand e i why p).portals.get i) := by
  rw [endHand_portal]
  exact .ended h rfl rfl

theorem HandIn.drive (h : HandIn e i (p.portals.get i)) : HandIn e i ((driveOrQueue e i p).portals.get i) := by
  rw [driveOrQueue_portal]
  split
  · exact ⟨h.seq, h.red, h.motion, h.guard⟩
  · exact h

theorem setHand_in {m : HandMotion} (h : HandIn e i (p.portals.get i)) (hm : m ≠ .none)
    (hready : m = .gateClosing → (e.portalPins i).barrierLowered = true ∧ (p.portals.get i).signal = .red) :
    HandIn e i ((setHand e i m p).portals.get i) := by
  simp only [setHand]
  split
  · exact endHand_in h.seq
  · refine .drive ?_
    rw [putPortal_get]
    exact ⟨h.seq, fun hc => (hready hc).2, fun _ => hm, fun _ hc => (hready hc).1⟩

end Hand

/-! ### Both portals -/

/-- The two portals of a plant are in order, and locked ones still. -/
def PortalsIn (e : Env) (p : Plant) : Prop :=
  ∀ i : PortalId, PortalOk e i (p.portals.get i) ∧ (p.locked (.portal i) = true → PortalStill (p.portals.get i))

section Both
variable {e e' : Env} {i : PortalId} {a p : Plant} {q : Portal}

/-- The service states and the pins of the portals stand. -/
theorem PortalOk.congr (h : PortalOk e i q) (hs : e'.cfg.portalService.get i = e.cfg.portalService.get i)
    (hp : e'.pins.portals.get i = e.pins.portals.get i) : PortalOk e' i q := by
  simpa only [PortalOk, Env.portalPins, hs, hp] using h

theorem PortalsIn.congr (h : PortalsIn e a) (hs : ∀ i, e'.cfg.portalService.get i = e.cfg.portalService.get i)
    (hp : ∀ i, e'.pins.portals.get i = e.pins.portals.get i) (hq : p.portals = a.portals) (hu : p.units = a.units) : PortalsIn e' p := by
  intro i
  obtain ⟨hok, hstill⟩ := h i
  rw [hq]
  refine ⟨hok.congr (hs i) (hp i), fun hl => hstill ?_⟩
  simpa only [Plant.locked, hu] using hl

/-- The portals and the unit records stand. -/
theorem PortalsIn.same (h : PortalsIn e a) (hq : p.portals = a.portals) (hu : p.units = a.units) : PortalsIn e p :=
  h.congr (fun _ => rfl) (fun _ => rfl) hq hu

theorem PortalsIn.pumps (h : PortalsIn e a) (hw : Wrote e PumpWrite a p) : PortalsIn e p := h.same hw.pumpPortals hw.units

theorem PortalsIn.zones (h : PortalsIn e a) (hw : Wrote e ZoneWrite a p) : PortalsIn e p := h.same hw.zonePortals hw.units

/-- An operation of one portal leaves it in order, and still if it is locked. -/
theorem PortalsIn.portal (h : PortalsIn e a) (hw : Wrote e (PortalWrite i) a p) (hok : PortalOk e i (p.portals.get i))
    (hstill : a.locked (.portal i) = true → PortalStill (p.portals.get i)) : PortalsIn e p := by
  intro j
  have hlock {u : UnitId} : p.locked u = a.locked u := by simp only [Plant.locked, hw.units]
  by_cases hj : j = i
  · subst hj
    exact ⟨hok, fun hl => hstill (hlock ▸ hl)⟩
  · rw [hw.otherPortal hj, hlock]
    exact h j

/-- An operation of an unlocked portal in service. -/
theorem PortalsIn.step (h : PortalsIn e a) (hw : Wrote e (PortalWrite i) a p) (hs : e.cfg.portalService.get i = .inService)
    (hl : a.locked (.portal i) = false) (hin : StepIn e i (p.portals.get i)) : PortalsIn e p :=
  h.portal hw (hin.portalOk hs) fun hlock => by simp [hl] at hlock

/-- An operation of an unlocked portal in hand. -/
theorem PortalsIn.hand (h : PortalsIn e a) (hw : Wrote e (PortalWrite i) a p) (hs : e.cfg.portalService.get i = .inHand)
    (hl : a.locked (.portal i) = false) (hin : HandIn e i (p.portals.get i)) : PortalsIn e p :=
  h.portal hw (hin.portalOk hs) fun hlock => by simp [hl] at hlock

/-- A portal in a state that a lock does not leave is unlocked (R132, R133). -/
theorem PortalsIn.unlocked (h : PortalsIn e p)
    (hseq : (p.portals.get i).seq.motionStep = true ∨ (p.portals.get i).seq = .warning ∨ (p.portals.get i).seq = .clearing) :
    p.locked (.portal i) = false := by
  by_contra hl
  obtain ⟨-, hstep, hwarn, hclear, -⟩ := (h i).2 (by simpa using hl)
  rcases hseq with hs | hs | hs
  · rw [hstep] at hs
    cases hs
  · exact hwarn hs
  · exact hclear hs

theorem PortalsIn.demand (h : PortalsIn e p) : PortalsIn e (applyDemand e i p) := by
  by_cases hc : e.cfg.portalService.get i = .inService ∧ p.locked (.portal i) = false
  · exact h.step (applyDemand_wrote .refl) hc.1 hc.2 (applyDemand_in ((h i).1.stepIn hc.1))
  · rw [applyDemand_of_not hc]
    exact h

theorem PortalsIn.demands (h : PortalsIn e p) : PortalsIn e (portalDemands e i p) := h.demand.demand.demand.demand.demand

theorem PortalsIn.owners (h : PortalsIn e p) : PortalsIn e (ownersAct e p) :=
  ((h.pumps (dutyAll_wrote .refl)).demands.demands).zones (lampPass_wrote .refl)

/-- A portal that has just taken a permit drives, or lets go of it (R112). -/
theorem onPermit_ok (h : PortalOk e i q) (hq : p.portals.get i = { q with starved := false, permit := true }) :
    PortalOk e i ((onPermit e i p).portals.get i) := by
  have released (hr : (letGo e i p).portals.get i = q.released) : PortalOk e i ((letGo e i p).portals.get i) := by
    rw [hr]
    obtain ⟨h1, h2, h3, h4, -, -, -⟩ := h
    exact ⟨h1, h2, h3, h4, nofun, nofun, fun _ hp => by cases hp⟩
  have hrel : (letGo e i p).portals.get i = q.released := by rw [letGo_portal, hq]; rfl
  have hseq : (p.portals.get i).seq = q.seq := by rw [hq]
  have inService (hs : q.seq.motionStep = true) : e.cfg.portalService.get i = .inService :=
    h.inService (by rintro he; simp [he, Seq.motionStep] at hs) (by rintro he; simp [he, Seq.motionStep] at hs)
  have stepping (hs : q.seq.motionStep = true) (hseal : q.seq = .sealing → (e.portalPins i).barrierLowered = true)
      (hlift : q.seq = .lifting → (e.portalPins i).gateOpen = true) : StepIn e i (p.portals.get i) := by
    have hin := h.stepIn (inService hs)
    rw [hq]
    exact ⟨hin.seq, hin.aspect, fun _ => hs, fun hx _ => hseal hx, fun hx _ => hlift hx⟩
  simp only [onPermit, hseq]
  split
  · rename_i hs
    exact (stepping (by rw [hs]; rfl) (by simp [hs]) (by simp [hs])).drive.portalOk (inService (by rw [hs]; rfl))
  · rename_i hs
    exact (stepping (by rw [hs]; rfl) (by simp [hs]) (by simp [hs])).drive.portalOk (inService (by rw [hs]; rfl))
  · rename_i hs
    refine StepIn.portalOk (inService (by rw [hs]; rfl)) ?_
    split
    · exact sealOrQueue_in (stepping (by rw [hs]; rfl) (fun _ => ‹_›) (by simp [hs]))
    · exact toBarring_in
  · rename_i hs
    refine StepIn.portalOk (inService (by rw [hs]; rfl)) ?_
    split
    · exact (stepping (by rw [hs]; rfl) (by simp [hs]) fun _ => ‹_›).drive
    · exact toUnsealingAway_in
  · rename_i hs
    have hin := h.handIn hs
    have hmotion : (p.portals.get i).motion = q.motion := by rw [hq]
    refine HandIn.portalOk (h.inHand hs) ?_
    split
    · exact endHand_in (hseq.trans hs)
    · rename_i hguard
      split
      · rename_i hnone
        rw [hrel]
        exact .ended hs (by simpa [hmotion] using hnone) rfl
      · rename_i hsome
        refine .drive ?_
        rw [hq]
        rw [hmotion] at hguard hsome
        exact ⟨hs, hin.red, fun _ => hsome, fun _ hc => by_contra fun hn => hguard ⟨hc, by simpa using hn⟩⟩
  · exact released hrel

/-- A still portal lets go of a permit at once, and stays still (R132). -/
theorem onPermit_still (h : PortalStill q) (hq : p.portals.get i = { q with starved := false, permit := true }) :
    PortalStill ((onPermit e i p).portals.get i) := by
  obtain ⟨-, hstep, hwarn, hclear, hhand⟩ := h
  have hrel : (letGo e i p).portals.get i = q.released := by rw [letGo_portal, hq]; rfl
  have hstill : PortalStill ((letGo e i p).portals.get i) := by
    rw [hrel]
    exact ⟨rfl, hstep, hwarn, hclear, hhand⟩
  have hseq : (p.portals.get i).seq = q.seq := by rw [hq]
  have hmotion : (p.portals.get i).motion = q.motion := by rw [hq]
  simp only [onPermit, hseq]
  split
  · simp_all [Seq.motionStep]
  · simp_all [Seq.motionStep]
  · simp_all [Seq.motionStep]
  · simp_all [Seq.motionStep]
  · rename_i hs
    rw [if_neg (by simp [hmotion, hhand hs]), if_pos (by rw [hmotion, hhand hs])]
    exact hstill
  · exact hstill

theorem permitted_portal : (permitted e i p).portals.get i = { p.portals.get i with starved := false, permit := true } := by
  simp [permitted, unqueuePortal]

theorem permitted_other {j : PortalId} (hj : j ≠ i) : (permitted e i p).portals.get j = p.portals.get j := by
  simp [permitted, unqueuePortal, PerPortal.get_set_ne _ _ hj]

theorem lampPass_portals : (lampPass e p).portals = p.portals := (lampPass_wrote (e := e) .refl).zonePortals

theorem lampPass_units : (lampPass e p).units = p.units := (lampPass_wrote (e := e) .refl).units

theorem grantPortal_eq : grantPortal e i p = onPermit e i (lampPass e (permitted e i p)) := rfl

theorem PortalsIn.grantPortal (h : PortalsIn e p) : PortalsIn e (grantPortal e i p) := by
  have hw : Wrote e (PortalWrite i) (lampPass e (permitted e i p)) (Machine.grantPortal e i p) := onPermit_wrote .refl
  have hunits : (lampPass e (permitted e i p)).units = p.units := lampPass_units.trans permitted_units
  have hi : (lampPass e (permitted e i p)).portals.get i = { p.portals.get i with starved := false, permit := true } := by
    rw [lampPass_portals, permitted_portal]
  intro j
  have hlock {u : UnitId} : (Machine.grantPortal e i p).locked u = p.locked u := by simp only [Plant.locked, hw.units, hunits]
  rw [hlock]
  by_cases hj : j = i
  · subst hj
    obtain ⟨hok, hstill⟩ := h j
    exact ⟨onPermit_ok hok hi, fun hl => onPermit_still (hstill hl) hi⟩
  · rw [hw.otherPortal hj, lampPass_portals, permitted_other hj]
    exact h j

theorem started_portals {j : PumpId} : (started e j p).portals = p.portals := by simp [started]

theorem grantPump_portals {j : PumpId} : (grantPump e j p).portals = p.portals ∧ (grantPump e j p).units = p.units := by
  have hl : (lampPass e (started e j p)).portals = p.portals ∧ (lampPass e (started e j p)).units = p.units :=
    ⟨lampPass_portals.trans started_portals, lampPass_units.trans started_units⟩
  rw [grantPump_eq]
  simp only
  split
  · have hw : Wrote e PumpWrite (lampPass e (started e j p)) (faultAtGrant e j (lampPass e (started e j p))) := faultAtGrant_wrote .refl
    exact ⟨hw.pumpPortals.trans hl.1, hw.units.trans hl.2⟩
  · split
    · have hw : Wrote e PumpWrite (lampPass e (started e j p)) (becomeRunning e j (lampPass e (started e j p))) := becomeRunning_wrote .refl
      exact ⟨hw.pumpPortals.trans hl.1, hw.units.trans hl.2⟩
    · exact hl

theorem PortalsIn.grant (h : PortalsIn e p) {r : Request} : PortalsIn e (grantRequest e r p) := by
  simp only [grantRequest]
  split
  · exact h.same grantPump_portals.1 grantPump_portals.2
  · exact h.grantPortal
  · exact h.same rfl rfl

theorem PortalsIn.blocks (h : PortalsIn e p) : PortalsIn e (blocksAct e p) :=
  grantPass_induct (P := PortalsIn e) (fun _ _ hq _ _ => hq.grant.owners) 40
    ((h.pumps (immediateStops_wrote .refl)).pumps (outfallStops_wrote _ .refl)).owners

theorem PortalsIn.settle (h : PortalsIn e p) : PortalsIn e (settlePlant e p) := h.blocks.same rfl rfl

end Both

end Sys2Proof.Machine

/-! The guards through every act (R11, R38, R42, R116, R126, R130, R132): each portal stays in order, and what is locked stays still. -/

namespace Sys2Proof.Machine

/-! ### Records that keep state, signal and motion -/

section Touch
variable {e : Env} {i : PortalId} {a p : Plant} {q r : Portal}

/-- A record with another's state, signal and motion, and without a permit. -/
theorem PortalOk.rest (h : PortalOk e i q) (hseq : r.seq = q.seq) (hsignal : r.signal = q.signal) (hmotion : r.motion = q.motion)
    (hp : r.permit = false) : PortalOk e i r := by
  obtain ⟨h1, h2, h3, h4, -, -, -⟩ := h
  refine ⟨by rwa [hseq], by rwa [hseq], by rwa [hseq, hsignal], by rwa [hseq, hmotion, hsignal], by simp [hp], ?_, by simp [hp]⟩
  simp [Portal.motor, hp]

/-- A record with another's state, signal, motion and permit. -/
theorem PortalOk.touch (h : PortalOk e i q) (hseq : r.seq = q.seq) (hsignal : r.signal = q.signal) (hmotion : r.motion = q.motion)
    (hp : r.permit = q.permit) : PortalOk e i r := by
  have hwants : r.wantsMotor = q.wantsMotor := by simp only [Portal.wantsMotor, hseq, hmotion]
  obtain ⟨h1, h2, h3, h4, h5, h6, h7⟩ := h
  refine ⟨by rwa [hseq], by rwa [hseq], by rwa [hseq, hsignal], by rwa [hseq, hmotion, hsignal], by rwa [hp, hwants], ?_, by rwa [hseq, hp]⟩
  simpa only [Portal.motor, hp, hwants] using h6

theorem PortalStill.touch (h : PortalStill q) (hseq : r.seq = q.seq) (hmotion : r.motion = q.motion) (hp : r.permit = q.permit ∨ r.permit = false) :
    PortalStill r := by
  obtain ⟨h1, h2, h3, h4, h5⟩ := h
  refine ⟨?_, by rwa [hseq], by rwa [hseq], by rwa [hseq], by rwa [hseq, hmotion]⟩
  obtain hp | hp := hp
  · rw [hp, h1]
  · exact hp

/-- One portal's record is replaced by one with its state, signal and motion, and its permit or none. -/
theorem PortalsIn.put (h : PortalsIn e p) (hseq : r.seq = (p.portals.get i).seq) (hsignal : r.signal = (p.portals.get i).signal)
    (hmotion : r.motion = (p.portals.get i).motion) (hp : r.permit = (p.portals.get i).permit ∨ r.permit = false) :
    PortalsIn e (putPortal e i r p) := by
  obtain ⟨hok, hstill⟩ := h i
  refine h.portal (putPortal_wrote .refl fun hr => ?_) ?_ fun hl => ?_
  · obtain hp | hp := hp
    · rwa [hp] at hr
    · simp [hp] at hr
  · rw [putPortal_get]
    obtain hp | hp := hp
    · exact hok.touch hseq hsignal hmotion hp
    · exact hok.rest hseq hsignal hmotion hp
  · rw [putPortal_get]
    exact (hstill hl).touch hseq hmotion hp

theorem PortalsIn.withdraw (h : PortalsIn e p) : PortalsIn e (withdrawPermit e i p) := by
  simp only [withdrawPermit]
  split
  · refine PortalsIn.same (a := putPortal e i _ p) ?_ (joinQueue_portals ..) (joinQueue_units ..)
    exact h.put rfl rfl rfl (.inr rfl)
  · exact h

theorem PortalsIn.withdraws (h : PortalsIn e p) (l : List PortalId) : PortalsIn e (withdrawPermits e l p) := by
  induction l generalizing p with
  | nil => exact h
  | cons j l ih => exact ih h.withdraw

theorem PortalsIn.room (h : PortalsIn e p) (n : Nat) : PortalsIn e (makeRoom e n p) := by
  induction n generalizing p with
  | zero => exact h
  | succ n ih =>
    simp only [makeRoom]
    split
    · split
      · exact ih (h.pumps (haltPump_wrote .refl))
      · exact h.withdraws _
    · exact h

theorem PortalsIn.zone (h : PortalsIn e p) {z : ZoneId} {x : Zone} : PortalsIn e (putZone e z x p) :=
  h.same (putZone_portals ..) (putZone_units ..)

theorem PortalsIn.dropZones (h : PortalsIn e p) : PortalsIn e (dropZones e p) := by
  have : ∀ l : List ZoneId, ∀ {q : Plant}, PortalsIn e q →
      PortalsIn e (l.foldl (fun a z => putZone e z ((a.zones.get z).setOutput e.clock 0) a) q) := by
    intro l
    induction l with
    | nil => exact id
    | cons z l ih => exact fun hq => ih hq.zone
  exact this _ h

theorem PortalsIn.changeSupply (h : PortalsIn e p) {v : Supply} : PortalsIn e (changeSupply e v p) := by
  have hset : PortalsIn e (setSupply e v p) := h.same rfl rfl
  exact ((hset.pumps (dropPumps_wrote .refl)).withdraws _).dropZones.settle

theorem PortalsIn.starve (h : PortalsIn e p) {u : UnitId} : PortalsIn e (starve e u p) := by
  simp only [Machine.starve]
  split
  · exact (h.pumps (putPump_wrote .refl)).same rfl rfl
  · refine PortalsIn.same (a := putPortal e _ _ p) ?_ rfl rfl
    exact h.put rfl rfl rfl (.inl rfl)
  · exact h

theorem PortalsIn.waits (h : PortalsIn e p) : PortalsIn e (checkWaits e p) := by
  simp only [checkWaits]
  generalize List.filter _ _ = l
  induction l generalizing p with
  | nil => exact h
  | cons r l ih => exact ih h.starve

end Touch

/-! ### Locks and services -/

section Locks
variable {e e' : Env} {i : PortalId} {p : Plant}

/-- The rows of R136 for the limit switches. -/
theorem settled_in {q : Portal} {pins : PortalPins} (hp : q.permit = false) : StepIn e i (q.settled (settledState pins)) := by
  simp only [settledState]
  split
  · exact .rested .sealed rfl rfl hp ⟨nofun, nofun⟩
  · split
    · exact .rested .open rfl rfl hp ⟨nofun, nofun⟩
    · exact .rested .unsettled rfl rfl hp ⟨nofun, nofun⟩

/-- A portal that settles without its permit is in order, whatever state other than HELD it comes from (R37, R136). -/
theorem settlePortal_in (h : (p.portals.get i).seq = .held → StepIn e i (p.portals.get i)) (hp : (p.portals.get i).permit = false) :
    StepIn e i ((settlePortal e i p).portals.get i) := by
  simp only [settlePortal]
  split
  · rw [putPortal_get]
    exact .rested .jammed rfl rfl hp ⟨nofun, nofun⟩
  · split
    · rename_i hheld
      exact leaveHeld_in (h hheld.1) hp
    · rw [putPortal_get]
      exact settled_in hp

theorem settlePortal_still (h : (p.portals.get i).seq ≠ .held) (hp : (p.portals.get i).permit = false) :
    PortalStill ((settlePortal e i p).portals.get i) := by
  simp only [settlePortal]
  split
  · rw [putPortal_get]
    exact ⟨hp, rfl, nofun, nofun, nofun⟩
  · split
    · exact absurd ‹_ ∧ _›.1 h
    · rw [putPortal_get]
      simp only [settledState]
      split
      · exact ⟨hp, rfl, nofun, nofun, nofun⟩
      · split
        · exact ⟨hp, rfl, nofun, nofun, nofun⟩
        · exact ⟨hp, rfl, nofun, nofun, nofun⟩

/-- A portal that was out of service or in hand has neither permit nor request when its hand motion has stopped (R37). -/
theorem rest_portal (h : PortalOk e' i (p.portals.get i)) (hs : e'.cfg.portalService.get i ≠ .inService) :
    ((letGo e i (stopHand e i p)).portals.get i).seq ≠ .held ∧ ((letGo e i (stopHand e i p)).portals.get i).permit = false := by
  have hseq : (p.portals.get i).seq ≠ .held := by
    cases hv : e'.cfg.portalService.get i with
    | inHand => rw [h.1.mp hv]; nofun
    | outOfService => rw [h.2.1.mp hv]; nofun
    | inService => exact absurd hv hs
  refine ⟨?_, ?_⟩
  · rw [letGo_portal, stopHand_portal]
    split <;> exact hseq
  · rw [letGo_portal]
    rfl

/-- What the lock of a portal leaves is still (R38, R132, R133). -/
theorem onLock_portal (h : PortalOk e i (p.portals.get i)) :
    PortalOk e i ((onLock e (.portal i) p).portals.get i) ∧ PortalStill ((onLock e (.portal i) p).portals.get i) := by
  simp only [onLock]
  split
  · rename_i hs
    have hseq : (p.portals.get i).seq = .hand := h.1.mp hs
    have hin := h.handIn hseq
    rw [putPortal_get]
    have hstop : ((stopHand e i p).portals.get i).seq = .hand ∧ ((stopHand e i p).portals.get i).motion = .none ∧
        ((stopHand e i p).portals.get i).permit = false := by
      rw [stopHand_portal]
      split
      · rename_i hm
        refine ⟨hseq, hm, ?_⟩
        by_contra hp
        exact hin.motion (by simpa using hp) hm
      · exact ⟨hseq, rfl, rfl⟩
    obtain ⟨h1, h2, h3⟩ := hstop
    exact ⟨(HandIn.ended (q := { (stopHand e i p).portals.get i with signal := .red }) h1 h2 h3).portalOk hs,
      h3, by simp [h1, Seq.motionStep], by simp [h1], by simp [h1], fun _ => h2⟩
  · rename_i hs
    have hin := h.stepIn hs
    have hidle (hm : (p.portals.get i).seq.motionStep = false) : (p.portals.get i).permit = false := by
      cases hp : (p.portals.get i).permit with
      | false => rfl
      | true => simp [hin.step hp] at hm
    have stays (hm : (p.portals.get i).seq.motionStep = false) (hw : (p.portals.get i).seq ≠ .warning) (hc : (p.portals.get i).seq ≠ .clearing)
        (hh : (p.portals.get i).seq ≠ .hand) : PortalOk e i (p.portals.get i) ∧ PortalStill (p.portals.get i) :=
      ⟨h, hidle hm, hm, hw, hc, fun hx => absurd hx hh⟩
    split
    · rename_i hq
      exact stays (by rw [hq]; rfl) (by rw [hq]; nofun) (by rw [hq]; nofun) (by rw [hq]; nofun)
    · rename_i hq
      exact stays (by rw [hq]; rfl) (by rw [hq]; nofun) (by rw [hq]; nofun) (by rw [hq]; nofun)
    · rename_i hq
      exact stays (by rw [hq]; rfl) (by rw [hq]; nofun) (by rw [hq]; nofun) (by rw [hq]; nofun)
    · rename_i hq
      exact absurd hq hin.seq.2
    · rename_i hq
      exact stays (by rw [hq]; rfl) (by rw [hq]; nofun) (by rw [hq]; nofun) (by rw [hq]; nofun)
    · rename_i hq
      exact absurd hq hin.seq.1
    · refine ⟨toHeld_in.portalOk hs, ?_⟩
      rw [toHeld_portal]
      exact ⟨rfl, rfl, nofun, nofun, nofun⟩
  · rename_i hs
    have hseq : (p.portals.get i).seq = .out := h.2.1.mp hs
    refine ⟨h, ?_, by simp [hseq, Seq.motionStep], by simp [hseq], by simp [hseq], by simp [hseq]⟩
    by_contra hp
    exact h.2.2.2.2.1 (by simpa using hp) (by simp [Portal.wantsMotor, hseq])

theorem PortalsIn.sync (h : PortalsIn e p) {u : UnitId} : PortalsIn e (syncUnit e u p) := by
  have hother {v : UnitId} (hv : v ≠ u) :
      (report e (.unit u) none { p with units := p.units.set u (unitRecOf e.cfg e.table u) }).locked v = p.locked v := by
    change ((p.units.set u _).get v).locked = _
    rw [PerUnit.get_set_ne _ _ hv]
    rfl
  have hself : (report e (.unit u) none { p with units := p.units.set u (unitRecOf e.cfg e.table u) }).locked u =
      (unitRecOf e.cfg e.table u).locked := by
    change ((p.units.set u _).get u).locked = _
    rw [PerUnit.get_set]
  have hold : (p.units.get u).locked = p.locked u := rfl
  simp only [syncUnit, hold]
  generalize hb : report e (.unit u) none { p with units := p.units.set u (unitRecOf e.cfg e.table u) } = b at hother hself ⊢
  have hportals : b.portals = p.portals := by rw [← hb]; rfl
  generalize (unitRecOf e.cfg e.table u).locked = new at hself ⊢
  split
  · exact h
  · by_cases hu : ∃ i, u = .portal i
    · obtain ⟨i, rfl⟩ := hu
      have hlocks {q : Plant} (hq : q.units = b.units) (v : UnitId) : q.locked v = b.locked v := by simp only [Plant.locked, hq]
      have others {q : Plant} (hw : Wrote e (PortalWrite i) b q) (j : PortalId) (hj : j ≠ i) :
          PortalOk e j (q.portals.get j) ∧ (q.locked (.portal j) = true → PortalStill (q.portals.get j)) := by
        rw [hw.otherPortal hj, hlocks hw.units, hother (fun he => hj (UnitId.portal.inj he)), hportals]
        exact h j
      obtain ⟨hok, hstill⟩ := h i
      split
      · have hw : Wrote e (PortalWrite i) b (onLock e (.portal i) b) := by
          simp only [onLock]
          split
          · exact putPortal_wrote (stopHand_wrote .refl) id
          · split <;> first | with_reducible exact .refl | exact toHeld_wrote .refl
          · exact .refl
        intro j
        by_cases hj : j = i
        · subst hj
          obtain ⟨h1, h2⟩ := onLock_portal (e := e) (p := b) (i := j) (hportals ▸ hok)
          exact ⟨h1, fun _ => h2⟩
        · exact others hw j hj
      · split
        · rename_i hun
          simp only [Bool.and_eq_true, Bool.not_eq_true'] at hun
          have hwas := hstill hun.1
          have hnow : b.locked (.portal i) = false := hself.trans hun.2
          simp only [onUnlock]
          split
          · rename_i hs
            have hw : Wrote e (PortalWrite i) b (settlePortal e i b) := settlePortal_wrote .refl
            intro j
            by_cases hj : j = i
            · subst hj
              refine ⟨(settlePortal_in ?_ ?_).portalOk hs, fun hl => ?_⟩
              · rw [hportals]
                exact fun _ => hok.stepIn hs
              · rw [hportals]
                exact hwas.1
              · rw [hlocks hw.units, hnow] at hl
                cases hl
            · exact others hw j hj
          · intro j
            by_cases hj : j = i
            · subst hj
              rw [hportals, hnow]
              exact ⟨hok, nofun⟩
            · exact others .refl j hj
        · rename_i hlock hunlock
          intro j
          by_cases hj : j = i
          · subst hj
            rw [hportals, hself]
            refine ⟨hok, fun hl => hstill ?_⟩
            by_contra hp
            exact hlock (by simp [hl, hp])
          · exact others .refl j hj
    · have hin : PortalsIn e b := by
        intro j
        rw [hportals, hother fun he => hu ⟨j, he.symm⟩]
        exact h j
      split
      · cases u with
        | pump j =>
          simp only [onLock]
          split
          · exact hin.pumps (putPump_wrote .refl)
          · exact hin
        | portal j => exact absurd ⟨j, rfl⟩ hu
        | zone z =>
          simp only [onLock]
          split
          · exact hin.zone
          · exact hin
        | outfall => exact hin
      · split
        · cases u with
          | portal j => exact absurd ⟨j, rfl⟩ hu
          | _ => exact hin
        · exact hin

/-- The entry actions of a portal's service state (R35 to R37). -/
theorem enterService_portals {s : State} {u : UnitId} {v : Service} (h0 : serviceOf s.env.cfg u ≠ v) (h : PortalsIn s.env s.plant) :
    PortalsIn (s.withCfg (s.env.cfg.setService u v)).env (enterService (s.withCfg (s.env.cfg.setService u v)).env u v s.plant) := by
  cases u with
  | pump i =>
    have hin : PortalsIn (s.withCfg (s.env.cfg.setService (.pump i) v)).env s.plant := h.congr (fun _ => rfl) (fun _ => rfl) rfl rfl
    cases v with
    | outOfService => exact hin.pumps (pumpOut_wrote .refl)
    | inHand => exact hin.pumps (pumpInHand_wrote .refl)
    | inService => exact hin.pumps (pumpInService_wrote .refl)
  | zone z =>
    have hin : PortalsIn (s.withCfg (s.env.cfg.setService (.zone z) v)).env s.plant := h.congr (fun _ => rfl) (fun _ => rfl) rfl rfl
    cases v with
    | outOfService => exact hin.zone
    | inHand => exact hin.zone
    | inService => exact hin
  | outfall => exact h
  | portal i =>
    have hserve (j : PortalId) : (s.env.cfg.setService (.portal i) v).portalService.get j = if j = i then v else s.env.cfg.portalService.get j := by
      by_cases hj : j = i
      · subst hj
        simp [WorkConfig.setService]
      · simp [WorkConfig.setService, PerPortal.get_set_ne _ _ hj, hj]
    have hself : (s.env.cfg.setService (.portal i) v).portalService.get i = v := by rw [hserve, if_pos rfl]
    have others {q : Plant} (hw : Wrote (s.withCfg (s.env.cfg.setService (.portal i) v)).env (PortalWrite i) s.plant q)
        (hi : PortalOk (s.withCfg (s.env.cfg.setService (.portal i) v)).env i (q.portals.get i))
        (hl : s.plant.locked (.portal i) = true → PortalStill (q.portals.get i)) :
        PortalsIn (s.withCfg (s.env.cfg.setService (.portal i) v)).env q := by
      intro j
      have hlock : q.locked (.portal j) = s.plant.locked (.portal j) := by simp only [Plant.locked, hw.units]
      by_cases hj : j = i
      · subst hj
        exact ⟨hi, fun hx => hl (hlock ▸ hx)⟩
      · rw [hw.otherPortal hj, hlock]
        obtain ⟨hok, hstill⟩ := h j
        exact ⟨hok.congr ((hserve j).trans (if_neg hj)) rfl, hstill⟩
    obtain ⟨hok, hstill⟩ := h i
    generalize he : (s.withCfg (s.env.cfg.setService (.portal i) v)).env = e at others ⊢
    have hpins : e.portalPins i = s.env.portalPins i := by rw [← he]; rfl
    have hserved : e.cfg.portalService.get i = v := by rw [← he]; exact hself
    cases v with
    | outOfService =>
      change PortalsIn e (portalOut e i s.plant)
      refine others (portalOut_wrote .refl) ?_ fun _ => ?_
      · have hrec : ((portalOut e i s.plant).portals.get i).seq = .out ∧ ((portalOut e i s.plant).portals.get i).permit = false ∧
            ((portalOut e i s.plant).portals.get i).signal = .red := by
          simp [portalOut, Portal.enter, Seq.aspect]
        obtain ⟨h1, h2, h3⟩ := hrec
        refine ⟨by simp [hserved, h1], by simp [hserved, h1], ?_, by simp [h1], by simp [h2], by simp [Portal.motor, h2], by simp [h2]⟩
        rw [h1, h3]
        exact fun a ha => Option.some.inj ha
      · simp [portalOut, PortalStill, Portal.enter, Seq.motionStep]
    | inHand =>
      change PortalsIn e (portalInHand e i s.plant)
      refine others (portalInHand_wrote .refl) ?_ fun hl => ?_
      · refine HandIn.portalOk hserved ?_
        obtain ⟨-, -, haspect, -, hwants, hguard, -⟩ := hok
        cases hm : (s.plant.portals.get i).motor with
        | none => exact .ended (by simp [portalInHand, hm, motionOf]) (by simp [portalInHand, hm, motionOf]) (by simp [portalInHand, hm, motionOf])
        | some m =>
          have hmotion : motionOf (some m) ≠ .none := by cases m <;> nofun
          have hred (hclose : m = .gateClose) (hunlock : s.plant.locked (.portal i) = false) : (s.plant.portals.get i).signal = .red := by
            subst hclose
            by_cases hhand : (s.plant.portals.get i).seq = .hand
            · have := (h i).1.handIn hhand
              exact this.red ((hand_motor hhand).1.mp hm).2
            · have hseal := ((motor_gateClose hhand).mp hm).2
              exact haspect .red (by rw [hseal]; rfl)
          simp only [portalInHand, hm, hmotion, if_false, putPortal_get]
          refine ⟨rfl, fun hclose => ?_, fun _ => hmotion, fun _ hclose => ?_⟩
          · have hmc : m = .gateClose := by cases m <;> first | rfl | cases hclose
            change (if s.plant.locked (.portal i) = true then Aspect.red else (s.plant.portals.get i).signal) = .red
            split
            · rfl
            · exact hred hmc (by simpa using ‹¬s.plant.locked (.portal i) = true›)
          · have hmc : m = .gateClose := by cases m <;> first | rfl | cases hclose
            rw [hpins]
            exact hguard (hmc ▸ hm)
      · obtain ⟨h1, h2, h3, h4, h5⟩ := hstill hl
        have hm : (s.plant.portals.get i).motor = none := by simp [Portal.motor, h1]
        simp [portalInHand, hm, motionOf, PortalStill, Seq.motionStep]
    | inService =>
      change PortalsIn e (portalInService e i s.plant)
      obtain ⟨hheld, hidle⟩ := rest_portal (e := e) hok h0
      exact others (portalInService_wrote .refl) ((settlePortal_in (fun hx => absurd hx hheld) hidle).portalOk hserved)
        fun _ => settlePortal_still hheld hidle

end Locks

end Sys2Proof.Machine

/-! The lamp allocation: its walk (R113), what each zone takes of it (R114), and the loads that it keeps within the budget. -/

namespace Sys2Proof.Machine

/-! ### Percentages and loads -/

section Percent
variable {k room m n : Nat}

theorem ceilDiv_mono {a b : Nat} (h : a ≤ b) : ceilDiv a n ≤ ceilDiv b n := Nat.div_le_div_right (by omega)

theorem zoneLoad_mono {e : Env} {z : ZoneId} (h : m ≤ n) : zoneLoad e z m ≤ zoneLoad e z n := ceilDiv_mono (Nat.mul_le_mul_left _ h)

@[simp] theorem zoneLoad_zero {e : Env} {z : ZoneId} : zoneLoad e z 0 = 0 := by simp [zoneLoad, ceilDiv]

theorem largestPercent_le : largestPercent k room n ≤ n := by
  induction n with
  | zero => exact Nat.le_refl _
  | succ n ih =>
    simp only [largestPercent]
    split <;> omega

theorem largestPercent_fits : ceilDiv (k * largestPercent k room n) 100 ≤ room := by
  induction n with
  | zero => simp [largestPercent, ceilDiv]
  | succ n ih =>
    simp only [largestPercent]
    split
    · assumption
    · exact ih

theorem largestPercent_max (h : largestPercent k room n < m) (hm : m ≤ n) : room < ceilDiv (k * m) 100 := by
  induction n with
  | zero => omega
  | succ n ih =>
    simp only [largestPercent] at h
    split at h
    · omega
    · rename_i hroom
      obtain rfl | hlt := Nat.eq_or_lt_of_le hm
      · omega
      · exact ih h (by omega)

theorem le_largestPercent (hm : m ≤ n) (h : ceilDiv (k * m) 100 ≤ room) : m ≤ largestPercent k room n := by
  by_contra hlt
  have := largestPercent_max (Nat.lt_of_not_le hlt) hm
  omega

end Percent

/-! ### The walk (R113) -/

/-- The order of the walk. -/
def lampWalk : List ZoneId := [.z1, .z5, .z2, .z4, .z3]

/-- What a zone needs above its shed load. -/
def lampNeed (e : Env) (comp : PerZone Nat) (z : ZoneId) : Nat := zoneLoad e z (comp.get z) - shedLoad e.cfg z

/-- What the zones in service need together. -/
def lampNeeds (e : Env) (comp : PerZone Nat) (l : List ZoneId) : Nat :=
  ((l.filter (fun z => e.cfg.zoneService.get z != .outOfService)).map (lampNeed e comp)).sum

/-- The shed loads of the zones in service. -/
def shedsOf (c : WorkConfig) (l : List ZoneId) : Nat :=
  ((l.filter (fun z => c.zoneService.get z != .outOfService)).map (shedLoad c)).sum

/-- The allowance of a zone to which so much of the extra is left. -/
def allowanceFrom (e : Env) (comp : PerZone Nat) (z : ZoneId) (left : Nat) : Nat :=
  if e.cfg.zoneService.get z = .outOfService then 0
  else largestPercent (e.cfg.zones.get z).installed (shedLoad e.cfg z + min (lampNeed e comp z) left) (comp.get z)

section Walk
variable {e : Env} {comp : PerZone Nat} {a : PerZone Nat × Nat} {z : ZoneId} {l : List ZoneId}

theorem allotZone_eq : allotZone e comp a z =
    (a.1.set z (allowanceFrom e comp z a.2),
      if e.cfg.zoneService.get z = .outOfService then a.2 else a.2 - min (lampNeed e comp z) a.2) := by
  simp only [allotZone, allowanceFrom, lampNeed]
  split <;> rfl

theorem lampNeeds_cons : lampNeeds e comp (z :: l) =
    (if e.cfg.zoneService.get z = .outOfService then 0 else lampNeed e comp z) + lampNeeds e comp l := by
  by_cases h : e.cfg.zoneService.get z = .outOfService <;> simp [lampNeeds, h]

theorem shedsOf_cons {c : WorkConfig} : shedsOf c (z :: l) =
    (if c.zoneService.get z = .outOfService then 0 else shedLoad c z) + shedsOf c l := by
  by_cases h : c.zoneService.get z = .outOfService <;> simp [shedsOf, h]

/-- What the walk leaves of the extra. -/
theorem walk_left : (l.foldl (allotZone e comp) a).2 = a.2 - lampNeeds e comp l := by
  induction l generalizing a with
  | nil => rfl
  | cons z l ih =>
    rw [List.foldl_cons, ih, lampNeeds_cons, allotZone_eq]
    split <;> omega

/-- A zone that the walk does not reach keeps its allowance. -/
theorem walk_other (h : z ∉ l) : (l.foldl (allotZone e comp) a).1.get z = a.1.get z := by
  induction l generalizing a with
  | nil => rfl
  | cons y l ih =>
    rw [List.mem_cons, not_or] at h
    rw [List.foldl_cons, ih h.2, allotZone_eq]
    exact PerZone.get_set_ne _ _ h.1

/-- Each zone's allowance is made of what the zones before it leave. -/
theorem walk_get {before after : List ZoneId} (h : z ∉ after) :
    ((before ++ z :: after).foldl (allotZone e comp) a).1.get z = allowanceFrom e comp z (a.2 - lampNeeds e comp before) := by
  rw [List.foldl_append, List.foldl_cons, walk_other h, allotZone_eq, ← walk_left]
  exact PerZone.get_set ..

theorem allowanceFrom_load {left : Nat} : zoneLoad e z (allowanceFrom e comp z left) ≤
    if e.cfg.zoneService.get z = .outOfService then 0 else shedLoad e.cfg z + min (lampNeed e comp z) left := by
  simp only [allowanceFrom]
  split
  · simp
  · exact largestPercent_fits

/-- The loads of the walk's allowances, beside what it leaves, are within the shed loads and the extra. -/
theorem walk_load (h : l.Nodup) :
    (l.map fun z => zoneLoad e z ((l.foldl (allotZone e comp) a).1.get z)).sum + (l.foldl (allotZone e comp) a).2 ≤
      shedsOf e.cfg l + a.2 := by
  induction l generalizing a with
  | nil => simp [shedsOf]
  | cons z l ih =>
    obtain ⟨hz, hl⟩ := List.nodup_cons.mp h
    have hrest := ih (a := allotZone e comp a z) hl
    have hfirst := allowanceFrom_load (e := e) (comp := comp) (z := z) (left := a.2)
    have hget : ((z :: l).foldl (allotZone e comp) a).1.get z = allowanceFrom e comp z a.2 := walk_get (before := []) hz
    rw [List.map_cons, List.sum_cons, hget, shedsOf_cons, List.foldl_cons]
    rw [allotZone_eq] at hrest ⊢
    split at hfirst <;> rename_i hs <;> simp only [hs, if_true, if_false] at hrest ⊢ <;> omega

theorem shedsOf_walk {c : WorkConfig} : shedsOf c lampWalk = shedReservation c := by
  have hperm : lampWalk.Perm budgetZones := by decide
  exact ((hperm.filter _).map _).sum_eq

end Walk

/-! ### The allocation of a plant -/

/-- The zones with their targets set again (R145 to R148, R151). -/
def targeted (e : Env) (p : Plant) : PerZone Zone := p.zones.mapZ (retarget e p)

/-- Their compensated targets. -/
def compensations (e : Env) (p : Plant) : PerZone Nat := (targeted e p).mapZ (fun _ q => q.comp)

/-- Their allowances. -/
def allowances (e : Env) (p : Plant) : PerZone Nat := allocation e p (compensations e p)

/-- Whether there is room to let falling zones ramp (log 44). -/
def lampRoom (e : Env) (p : Plant) : Bool := roomToRamp e p (allowances e p) (targeted e p)

/-- What the shed reservation and the other loads leave of the budget (R113, step 1). -/
def lampExtra (e : Env) (p : Plant) : Nat := budget e p - nonLampLoad e p - shedReservation e.cfg

section Allocation
variable {e : Env} {p q : Plant} {z : ZoneId} {r : Zone}

@[simp] theorem targeted_get : (targeted e p).get z = retarget e p z (p.zones.get z) := PerZone.get_mapZ ..

@[simp] theorem compensations_get : (compensations e p).get z = (retarget e p z (p.zones.get z)).comp := by simp [compensations]

theorem allowances_powered (h : p.arb.supply.powered = true) :
    allowances e p = (lampWalk.foldl (allotZone e (compensations e p)) (⟨0, 0, 0, 0, 0, 100⟩, lampExtra e p)).1 := by
  simp only [allowances, allocation, h, if_true]
  rfl

theorem allowances_unpowered (h : p.arb.supply.powered = false) (hz : z ∈ budgetZones) : (allowances e p).get z = 0 := by
  simp only [allowances, allocation, h]
  fin_cases hz <;> rfl

theorem mem_lampWalk : z ∈ lampWalk ↔ z ∈ budgetZones := by cases z <;> decide

theorem lampWalk_nodup : lampWalk.Nodup := by decide

/-- Each zone of the walk has what the zones before it leave. -/
theorem allowances_walk {before after : List ZoneId} (h : p.arb.supply.powered = true) (hw : lampWalk = before ++ z :: after) :
    (allowances e p).get z =
      allowanceFrom e (compensations e p) z (lampExtra e p - lampNeeds e (compensations e p) before) := by
  rw [allowances_powered h, hw]
  have := lampWalk_nodup
  rw [hw, List.nodup_append, List.nodup_cons] at this
  exact walk_get this.2.1.1

theorem allowances_eq (h : p.arb.supply.powered = true) (hz : z ∈ budgetZones) :
    ∃ left, (allowances e p).get z = allowanceFrom e (compensations e p) z left := by
  obtain ⟨before, after, hw⟩ := List.append_of_mem (mem_lampWalk.mpr hz)
  exact ⟨_, allowances_walk h hw⟩

theorem allowances_le (hz : z ∈ budgetZones) : (allowances e p).get z ≤ (retarget e p z (p.zones.get z)).comp := by
  cases h : p.arb.supply.powered with
  | false => simp [allowances_unpowered h hz]
  | true =>
    obtain ⟨left, hl⟩ := allowances_eq (e := e) h hz
    rw [hl, allowanceFrom]
    split
    · exact Nat.zero_le _
    · exact compensations_get (e := e) (p := p) ▸ largestPercent_le

theorem allowances_out (hz : z ∈ budgetZones) (hs : e.cfg.zoneService.get z = .outOfService) : (allowances e p).get z = 0 := by
  cases h : p.arb.supply.powered with
  | false => exact allowances_unpowered h hz
  | true =>
    obtain ⟨left, hl⟩ := allowances_eq (e := e) h hz
    rw [hl, allowanceFrom, if_pos hs]

/-- A zone in service or in hand has its protected level. -/
theorem allowances_shed (h : p.arb.supply.powered = true) (hz : z ∈ budgetZones) (hs : e.cfg.zoneService.get z ≠ .outOfService) :
    min (e.cfg.zones.get z).shed (retarget e p z (p.zones.get z)).comp ≤ (allowances e p).get z := by
  obtain ⟨left, hl⟩ := allowances_eq (e := e) h hz
  rw [hl, allowanceFrom, if_neg hs, compensations_get]
  refine le_largestPercent (Nat.min_le_right ..) ?_
  have : ceilDiv ((e.cfg.zones.get z).installed * min (e.cfg.zones.get z).shed (retarget e p z (p.zones.get z)).comp) 100 ≤
      shedLoad e.cfg z := ceilDiv_mono (Nat.mul_le_mul_left _ (Nat.min_le_left ..))
  omega

theorem sum_walk (f : ZoneId → Nat) : (lampWalk.map f).sum = (budgetZones.map f).sum :=
  ((by decide : lampWalk.Perm budgetZones).map f).sum_eq

/-- In GRID and STANDBY the allowances fit beside the other loads, where the shed reservation does (R113). -/
theorem allowances_load (h : p.arb.supply.powered = true) (hfit : nonLampLoad e p + shedReservation e.cfg ≤ budget e p) :
    nonLampLoad e p + (budgetZones.map fun z => zoneLoad e z ((allowances e p).get z)).sum ≤ budget e p := by
  have hwalk := walk_load (e := e) (comp := compensations e p) (a := (⟨0, 0, 0, 0, 0, 100⟩, lampExtra e p)) lampWalk_nodup
  rw [← allowances_powered h, sum_walk, shedsOf_walk, lampExtra] at hwalk
  omega

/-! ### What each zone takes (R114) -/

/-- What a zone takes depends on the locks, the sources, the portals and the supply alone. -/
theorem takeAllowance_congr (hu : q.units = p.units) (hp : q.portals = p.portals) (ha : q.arb = p.arb) {room : Bool} {n : Nat} :
    takeAllowance e q z room n r = takeAllowance e p z room n r := by
  have hlock : q.locked (.zone z) = p.locked (.zone z) := by simp only [Plant.locked, hu]
  have hsource : q.source (.zone z) = p.source (.zone z) := by simp only [Plant.source, hu]
  have hmodifier : modifierOne q = modifierOne p := by simp only [modifierOne, hp]
  have hramps : ramps e q z = ramps e p z := by simp only [ramps, hlock]
  have hfollows : followsAtOnce q z = followsAtOnce p z := by simp only [followsAtOnce, hmodifier, hsource]
  have hmay : mayRampDown e q z n r = mayRampDown e p z n r := by simp only [mayRampDown, hramps, hfollows]
  have hout : zoneOutput e q z room n r = zoneOutput e p z room n r := by
    simp only [zoneOutput, rampingOutput, hfollows, hmay, ha, hlock]
  simp only [takeAllowance, hramps, hout]

/-- The zones written one after the other from a record that does not depend on the zones. -/
theorem foldl_putZone_get {f : Plant → ZoneId → Zone} {l : List ZoneId} {a : Plant}
    (hf : ∀ b z, b.units = a.units → b.portals = a.portals → b.arb = a.arb → f b z = f a z) (hl : l.Nodup) :
    (l.foldl (fun b z => putZone e z (f b z) b) a).zones.get z = if z ∈ l then f a z else a.zones.get z := by
  induction l generalizing a with
  | nil => simp
  | cons y l ih =>
    obtain ⟨hy, hl⟩ := List.nodup_cons.mp hl
    have hstep (x : ZoneId) : f (putZone e y (f a y) a) x = f a x := hf _ x (putZone_units ..) (putZone_portals ..) (putZone_arb ..)
    rw [List.foldl_cons, ih (fun b x hu hp ha => ?_) hl, hstep, putZone_zones]
    · by_cases hz : z = y
      · subst hz
        simp [hy]
      · simp [hz, PerZone.get_set_ne _ _ hz]
    · rw [hstep]
      exact hf b x (hu.trans (putZone_units ..)) (hp.trans (putZone_portals ..)) (ha.trans (putZone_arb ..))

/-- What an allocation leaves of each zone. -/
theorem lampPass_zone : (lampPass e p).zones.get z =
    takeAllowance e p z (lampRoom e p) ((allowances e p).get z) (retarget e p z (p.zones.get z)) := by
  have h := foldl_putZone_get (e := e) (z := z) (l := ZoneId.every) (a := p)
    (f := fun b z => takeAllowance e b z (lampRoom e p) ((allowances e p).get z) ((targeted e p).get z))
    (fun b x hu hp ha => takeAllowance_congr hu hp ha) (by decide)
  rw [if_pos (by cases z <;> decide), targeted_get] at h
  exact h

/-! The fields of what a zone takes. -/

section Taken
variable {room : Bool} {n : Nat}

@[simp] theorem rerun_output {now goal : Nat} : (r.rerun now goal).output = r.output := rfl

@[simp] theorem takeAllowance_output : (takeAllowance e p z room n r).output = zoneOutput e p z room n r := by
  simp only [takeAllowance]
  split <;> rfl

@[simp] theorem takeAllowance_allowance : (takeAllowance e p z room n r).allowance = n := by
  simp only [takeAllowance]
  split <;> rfl

@[simp] theorem takeAllowance_comp : (takeAllowance e p z room n r).comp = r.comp := by
  simp only [takeAllowance]
  split <;> rfl

@[simp] theorem takeAllowance_target : (takeAllowance e p z room n r).target = r.target := by
  simp only [takeAllowance]
  split <;> rfl

@[simp] theorem takeAllowance_graded : (takeAllowance e p z room n r).graded = r.graded := by
  simp only [takeAllowance]
  split <;> rfl

@[simp] theorem takeAllowance_deficit : (takeAllowance e p z room n r).deficit = r.deficit := by
  simp only [takeAllowance]
  split <;> rfl

@[simp] theorem takeAllowance_hand : (takeAllowance e p z room n r).hand = r.hand := by
  simp only [takeAllowance]
  split <;> rfl

theorem takeAllowance_ramp : (takeAllowance e p z room n r).ramp =
    if ramps e p z then rampToward (min r.comp n) (zoneOutput e p z room n r) else .none := by
  simp only [takeAllowance]
  split <;> rfl

theorem ramps_iff : ramps e p z = true ↔ z ≠ .z6 ∧ e.cfg.zoneService.get z = .inService ∧ p.locked (.zone z) = false := by
  simp [ramps, and_assoc]

/-- A zone's output is within its reach, or within its allowance where there is no room to ramp (R114, log 44). -/
theorem zoneOutput_reach (hz : z ∈ budgetZones)
    (hshed : p.arb.supply.powered = true → e.cfg.zoneService.get z ≠ .outOfService → min (e.cfg.zones.get z).shed r.comp ≤ n) :
    max (zoneOutput e p z room n r) n ≤ if room then reach e p z n r else n := by
  have hz6 : z ≠ .z6 := by rintro rfl; revert hz; decide
  have hreach : n ≤ reach e p z n r := by
    simp only [reach]
    split <;> omega
  have hle : n ≤ if room then reach e p z n r else n := by split <;> omega
  refine Nat.max_le.mpr ⟨?_, hle⟩
  simp only [zoneOutput, hz6, if_false]
  split
  · exact Nat.zero_le _
  · rename_i hin
    obtain ⟨-, hs⟩ := not_or.mp hin
    split
    · exact (Nat.min_le_right ..).trans hle
    · simp only [rampingOutput]
      split
      · exact (Nat.min_le_right ..).trans hle
      · have hfall : (if (room && mayRampDown e p z n r) = true then r.output else min n r.output) ≤
            if room then reach e p z n r else n := by
          split
          · rename_i hmay
            obtain ⟨hroom, hmay⟩ := Bool.and_eq_true_iff.mp hmay
            rw [if_pos hroom, reach, if_pos hmay]
            exact Nat.le_max_left ..
          · exact (Nat.min_le_left ..).trans hle
        split
        · exact Nat.max_le.mpr ⟨hfall, (hshed ‹_› hs).trans hle⟩
        · exact hfall

end Taken

/-! ### The committed load after an allocation -/

/-- The non-lamp load fits, in GRID and STANDBY beside the shed reservation (R103, R104). -/
def NonLampFits (e : Env) (p : Plant) : Prop :=
  nonLampLoad e p ≤ budget e p ∧ (p.arb.supply.powered = true → nonLampLoad e p + shedReservation e.cfg ≤ budget e p)

/-- The highest load that the ramps can reach fits. -/
def LampsFit (e : Env) (p : Plant) : Prop :=
  nonLampLoad e p + (budgetZones.map fun z => zoneLoad e z (max (p.zones.get z).output (p.zones.get z).allowance)).sum ≤ budget e p

/-- Zones locked or out of service are off. -/
structure ZoneRests (e : Env) (z : ZoneId) (locked : Bool) (r : Zone) : Prop where
  still : locked = true → r.output = 0 ∧ r.ramp = .none
  out : z ∈ budgetZones → e.cfg.zoneService.get z = .outOfService → r.output = 0 ∧ r.allowance = 0

/-- Every zone that is locked or out of service is off. -/
def ZonesRest (e : Env) (p : Plant) : Prop := ∀ z, ZoneRests e z (p.locked (.zone z)) (p.zones.get z)

theorem nonLampLoad_congr (hp : q.pumps = p.pumps) (hr : q.portals = p.portals) : nonLampLoad e q = nonLampLoad e p := by
  have hpump : pumpLoad e q = pumpLoad e p := by
    funext i
    simp only [pumpLoad, hp]
  have hportal : portalLoad e q = portalLoad e p := by
    funext i
    simp only [portalLoad, hr]
  simp only [nonLampLoad, hpump, hportal]

theorem lampPass_arb : (lampPass e p).arb = p.arb :=
  (lampPass_wrote (e := e) .refl).stands (f := Plant.arb) fun q w hw => by
    cases w with
    | zone z r => exact putZone_arb ..
    | _ => exact hw.elim

theorem lampPass_nonLamp : nonLampLoad e (lampPass e p) = nonLampLoad e p := nonLampLoad_congr lampPass_pumps lampPass_portals

theorem lampPass_budget : budget e (lampPass e p) = budget e p := by rw [budget, lampPass_arb, budget]

theorem lampPass_locked {u : UnitId} : (lampPass e p).locked u = p.locked u := by simp only [Plant.locked, lampPass_units]

/-- After an allocation no zone that is locked or out of service is on. -/
theorem lampPass_rests : ZonesRest e (lampPass e p) := by
  intro z
  rw [lampPass_zone, lampPass_locked]
  refine ⟨fun hl => ⟨?_, ?_⟩, fun hz hs => ⟨?_, ?_⟩⟩
  · simp [zoneOutput, hl]
  · rw [takeAllowance_ramp, if_neg]
    simp [ramps, hl]
  · simp [zoneOutput, hs]
  · rw [takeAllowance_allowance, allowances_out hz hs]

/-- After an allocation the load fits, even if every zone rose to its allowance (R102, R113). -/
theorem lampPass_fits (h : NonLampFits e p) : LampsFit e (lampPass e p) := by
  obtain ⟨hload, hshed⟩ := h
  rw [LampsFit, lampPass_nonLamp, lampPass_budget]
  have hzone (z : ZoneId) (hz : z ∈ budgetZones) :
      zoneLoad e z (max ((lampPass e p).zones.get z).output ((lampPass e p).zones.get z).allowance) ≤
        zoneLoad e z (if lampRoom e p then reach e p z ((allowances e p).get z) ((targeted e p).get z) else (allowances e p).get z) := by
    rw [lampPass_zone, takeAllowance_output, takeAllowance_allowance, targeted_get]
    exact zoneLoad_mono (zoneOutput_reach hz fun hp hs => allowances_shed hp hz hs)
  have hsum := List.sum_le_sum hzone
  cases hroom : lampRoom e p with
  | true =>
    simp only [hroom, if_true] at hsum
    have hreach := of_decide_eq_true hroom
    omega
  | false =>
    simp only [hroom, Bool.false_eq_true, if_false] at hsum
    cases hp : p.arb.supply.powered with
    | true =>
      have := allowances_load hp (hshed hp)
      omega
    | false =>
      have hzero : (budgetZones.map fun z => zoneLoad e z ((allowances e p).get z)).sum = 0 := by
        refine List.sum_eq_zero fun x hx => ?_
        obtain ⟨z, hz, rfl⟩ := List.mem_map.mp hx
        rw [allowances_unpowered hp hz, zoneLoad_zero]
      omega

end Allocation

end Sys2Proof.Machine

/-! Every act keeps the portals' guards (R42, R116, R126, R130, R132), and with the pumps' and the zones' that what is locked stays still
(R11). -/

namespace Sys2Proof.Machine

/-! ### Events of one portal -/

section OnePortal
variable {e e' : Env} {i : PortalId} {a p : Plant} {q : Portal}

/-- The service state and the two limits that guard the motors stand. -/
theorem PortalOk.guards (h : PortalOk e i q) (hs : e'.cfg.portalService.get i = e.cfg.portalService.get i)
    (hl : (e'.portalPins i).barrierLowered = (e.portalPins i).barrierLowered) (ho : (e'.portalPins i).gateOpen = (e.portalPins i).gateOpen) :
    PortalOk e' i q := by
  obtain ⟨h1, h2, h3, h4, h5, h6, h7⟩ := h
  exact ⟨hs ▸ h1, hs ▸ h2, h3, h4, h5, hl ▸ h6, ho ▸ h7⟩

theorem completeStep_step (h : (p.portals.get i).seq.motionStep = true) : StepIn e i ((completeStep e i p).portals.get i) := by
  simp only [completeStep]
  split
  · exact toClearing_in
  · exact toSealed_in
  · exact toLifting_in
  · exact toOpen_in
  · cases hq : (p.portals.get i).seq <;> simp_all [Seq.motionStep]

/-- Whatever limit has changed, the portal acts on the guards as they now are (R42, R126, R130). -/
theorem onLimit_ok (h : PortalOk e i (p.portals.get i)) (hs : e'.cfg.portalService.get i = e.cfg.portalService.get i) :
    PortalOk e' i ((onLimit e' i p).portals.get i) := by
  have hin (hhand : (p.portals.get i).seq ≠ .hand) (hout : (p.portals.get i).seq ≠ .out) : e'.cfg.portalService.get i = .inService :=
    hs.trans (h.inService hhand hout)
  obtain ⟨h1, h2, h3, h4, h5, -, -⟩ := id h
  simp only [onLimit]
  split
  · rename_i hhand
    have hs' : e'.cfg.portalService.get i = .inHand := hs.trans (h.inHand hhand)
    split
    · exact (endHand_in hhand).portalOk hs'
    · split
      · exact (endHand_in hhand).portalOk hs'
      · rename_i hguard
        have hold := h.handIn hhand
        exact HandIn.portalOk hs' ⟨hhand, hold.red, hold.motion, fun _ hm => by simpa [hm] using hguard⟩
  · rename_i hhand
    split
    · rename_i hstep
      simp only [stepOpen, Bool.and_eq_true] at hstep
      have hout : (p.portals.get i).seq ≠ .out := fun ho => by simp [ho, Seq.motionStep] at hstep
      exact (completeStep_step hstep.1.1).portalOk (hin hhand hout)
    · split
      · rename_i hseal
        exact toBarring_in.portalOk (hin hhand (by rw [hseal.1]; nofun))
      · rename_i hseal
        split
        · rename_i hlift
          exact toUnsealingAway_in.portalOk (hin hhand (by rw [hlift.1]; nofun))
        · rename_i hlift
          refine ⟨hs ▸ h1, hs ▸ h2, h3, h4, h5, fun hm => ?_, fun hq hp => by simpa [hq, hp] using hlift⟩
          obtain ⟨hp, hq⟩ := (motor_gateClose hhand).mp hm
          simpa [hq, hp] using hseal

/-- A portal that is still takes no notice of its limits. -/
theorem onLimit_still (h : PortalStill (p.portals.get i)) : onLimit e' i p = p := by
  obtain ⟨h1, h2, -, -, h5⟩ := h
  simp only [onLimit]
  split
  · simp [h5 ‹_›, motionTarget]
  · simp [stepOpen, h1, h2]

theorem onEdge_ok (h : PortalOk e i (p.portals.get i)) : PortalOk e i ((onEdge e i p).portals.get i) := by
  simp only [onEdge]
  split
  · rename_i hseal
    have hs := h.inService (by rw [hseal.1]; nofun) (by rw [hseal.1]; nofun)
    exact (obstruct_in (h.stepIn hs)).portalOk hs
  · split
    · rename_i hhand
      exact (endHand_in hhand.1).portalOk (h.inHand hhand.1)
    · exact h

theorem onEdge_still (h : PortalStill (p.portals.get i)) : onEdge e' i p = p := by
  obtain ⟨h1, -, -, -, h5⟩ := h
  simp only [onEdge, h1]
  split
  · simp_all
  · split
    · simp_all
    · rfl

/-- Pins change at one portal, and it acts on them. -/
theorem PortalsIn.pinned (h : PortalsIn e a) (hw : Wrote e' (PortalWrite i) a p) (hs : e'.cfg = e.cfg)
    (hpins : ∀ j, j ≠ i → e'.portalPins j = e.portalPins j) (hok : PortalOk e' i (p.portals.get i))
    (hstill : PortalStill (a.portals.get i) → PortalStill (p.portals.get i)) : PortalsIn e' p := by
  intro j
  obtain ⟨hj, hl⟩ := h j
  have hlock : p.locked (.portal j) = a.locked (.portal j) := by simp only [Plant.locked, hw.units]
  by_cases hji : j = i
  · subst hji
    exact ⟨hok, fun hlk => hstill (hl (hlock ▸ hlk))⟩
  · rw [hw.otherPortal hji, hlock]
    exact ⟨hj.guards (by rw [hs]) (by rw [hpins j hji]) (by rw [hpins j hji]), hl⟩

theorem PortalsIn.stopped (h : PortalsIn e p) (hq : (p.portals.get i).seq = .hand) : PortalsIn e (stopHand e i p) := by
  obtain ⟨hok, hstill⟩ := h i
  have hrec := stopHand_portal (e := e) (p := p) (i := i)
  refine h.portal (stopHand_wrote .refl) ?_ fun hl => ?_
  · rw [hrec]
    split
    · exact hok
    · refine HandIn.portalOk (hok.inHand hq) ?_
      exact .ended hq rfl rfl
  · rw [hrec, if_pos ((hstill hl).2.2.2.2 hq)]
    exact hstill hl

theorem PortalsIn.reset (h : PortalsIn e p) : PortalsIn e (resetPortal e i p) := by
  have hclear {r : Plant} (hr : PortalsIn e r) :
      PortalsIn e (putPortal e i { r.portals.get i with jam := none, resume := none, retries := 0 } r) := hr.put rfl rfl rfl (.inl rfl)
  have hcleared : PortalsIn e (putPortal e i
      { (if (p.portals.get i).seq = .hand then stopHand e i p else p).portals.get i with jam := none, resume := none, retries := 0 }
      (if (p.portals.get i).seq = .hand then stopHand e i p else p)) := by
    refine hclear ?_
    split
    · exact h.stopped ‹_›
    · exact h
  simp only [resetPortal]
  split
  · rename_i st hjam hresume
    have hs := (h i).1.inService (by rw [hjam]; nofun) (by rw [hjam]; nofun)
    have hp : (p.portals.get i).permit = false := by
      cases hp : (p.portals.get i).permit with
      | false => rfl
      | true => simpa [hjam, Seq.motionStep] using ((h i).1.stepIn hs).step hp
    split
    · refine h.portal (putPortal_wrote .refl fun hr => by simp [hp] at hr) ?_ fun _ => ?_
      · refine StepIn.portalOk hs ?_
        rw [resetLocked, putPortal_get]
        exact .idle ⟨by simp, by simp⟩ (by simp [Seq.aspect]) hp
      · rw [resetLocked, putPortal_get]
        exact ⟨hp, rfl, by simp, by simp, by simp⟩
    · rename_i hl
      have hl' : p.locked (.portal i) = false := by simpa using hl
      rw [if_neg (by rw [hjam]; nofun)] at hcleared ⊢
      refine hcleared.step (toStep_wrote .refl) hs ?_ (toStep_in ((hcleared i).1.stepIn hs))
      simpa only [Plant.locked, putPortal_units] using hl'
  · exact hcleared

end OnePortal

/-! ### Drives -/

/-- The unit of a drive. -/
def Drive.unit : Drive → UnitId
  | .pump i _ => .pump i
  | .motion i _ => .portal i
  | .gateStop i => .portal i
  | .barrierStop i => .portal i
  | .signal i _ => .portal i
  | .level z _ => .zone z

/-- A HAND DRIVE's body gives a drive of its unit; a motion drive gives a motion (R39). -/
theorem driveOf_drive {u : UnitId} {db ab : Byte} {d : Drive} (h : driveOf u db ab = some d) : d.unit = u ∧ ∀ i, d ≠ .motion i .none := by
  cases u with
  | pump i =>
    simp only [driveOf] at h
    split at h
    · cases h
      exact ⟨rfl, nofun⟩
    · split at h
      · cases h
        exact ⟨rfl, nofun⟩
      · cases h
  | portal i =>
    simp only [driveOf, portalDrive] at h
    split at h
    · obtain ⟨c, -, rfl⟩ := Option.map_eq_some_iff.mp h
      exact ⟨rfl, nofun⟩
    · split at h
      · cases h
      · split at h <;> cases h <;> exact ⟨rfl, nofun⟩
  | zone z =>
    simp only [driveOf] at h
    split at h
    · cases h
      exact ⟨rfl, nofun⟩
    · cases h
  | outfall => cases h

theorem PortalsIn.drive {e : Env} {p : Plant} {d : Drive} (h : PortalsIn e p) (hm : ∀ i, d ≠ .motion i .none) (hlock : p.locked d.unit = false)
    (hhand : serviceOf e.cfg d.unit = .inHand) (hready : driveReady e p d = true) : PortalsIn e (applyDrive e d p) := by
  have hand (i : PortalId) (hu : d.unit = .portal i) : e.cfg.portalService.get i = .inHand ∧ HandIn e i (p.portals.get i) ∧
      p.locked (.portal i) = false := by
    rw [hu] at hhand hlock
    exact ⟨hhand, (h i).1.handIn ((h i).1.1.mp hhand), hlock⟩
  have stops (i : PortalId) (hu : d.unit = .portal i) : PortalsIn e (endHand e i .stop p) := by
    obtain ⟨hs, hin, hl⟩ := hand i hu
    exact h.hand (endHand_wrote .refl) hs hl (endHand_in hin.seq)
  cases d with
  | pump i on => exact h.pumps (putPump_wrote .refl)
  | motion i m =>
    obtain ⟨hs, hin, hl⟩ := hand i rfl
    refine h.hand (setHand_wrote .refl) hs hl (setHand_in hin (fun he => hm i (he ▸ rfl)) ?_)
    rintro rfl
    simpa [driveReady] using hready
  | gateStop i =>
    simp only [applyDrive]
    split
    · exact stops i rfl
    · exact h
  | barrierStop i =>
    simp only [applyDrive]
    split
    · exact stops i rfl
    · exact h
  | signal i c =>
    obtain ⟨hs, hin, hl⟩ := hand i rfl
    refine h.hand (putPortal_wrote .refl id) hs hl ?_
    simp only [applyDrive, putPortal_get]
    refine ⟨hin.seq, fun hc => ?_, hin.motion, hin.guard⟩
    simp only [driveReady, Bool.or_eq_true, beq_iff_eq, bne_iff_ne] at hready
    exact hready.resolve_right (not_not.mpr hc)
  | level z n => exact h.zone

/-! ### Every event -/

theorem Event.portals {s t : State} (he : Event s t) (h : PortalsOk s) : PortalsOk t := by
  have h' : PortalsIn s.env s.plant := h
  have step {i : PortalId} {p : Plant} (hseq : (s.plant.portals.get i).seq.motionStep = true ∨ (s.plant.portals.get i).seq = .warning ∨
      (s.plant.portals.get i).seq = .clearing) (hw : Wrote s.env (PortalWrite i) s.plant p) (hin : StepIn s.env i (p.portals.get i)) :
      PortalsIn s.env p := by
    refine h'.step hw ((h i).1.inService ?_ ?_) (h'.unlocked hseq) hin
    · rintro hq
      simp [hq, Seq.motionStep] at hseq
    · rintro hq
      simp [hq, Seq.motionStep] at hseq
  have put {i : PortalId} {q : Portal} (hseq : q.seq = (s.plant.portals.get i).seq) (hsignal : q.signal = (s.plant.portals.get i).signal)
      (hmotion : q.motion = (s.plant.portals.get i).motion) (hp : q.permit = (s.plant.portals.get i).permit) :
      PortalsIn s.env (putPortal s.env i q s.plant) := h'.put hseq hsignal hmotion (.inl hp)
  cases he with
  | @drive d u db ab hd hlock hhand hready =>
    obtain ⟨rfl, hm⟩ := driveOf_drive hd
    exact h'.drive hm hlock hhand hready
  | resetPump i hr => exact (h'.pumps (putPump_wrote .refl)).same rfl rfl
  | resetPortal i => exact h'.reset.same rfl rfl
  | dryRunInput i v =>
    have hpins : PortalsIn (putDryRun i v s).env s.plant := h'.congr (fun _ => rfl) (fun _ => rfl) rfl rfl
    exact hpins.pumps (putPump_wrote .refl)
  | halt i k hlive => exact h'.pumps (haltPump_wrote .refl)
  | thermal i hlive =>
    have hpins : PortalsIn (putThermal i true s).env s.plant := h'.congr (fun _ => rfl) (fun _ => rfl) rfl rfl
    exact PortalsIn.pumps (p := haltPump (putThermal i true s).env i (.fault .thermal) s.plant) hpins (haltPump_wrote .refl)
  | feedback i v =>
    have hpins : PortalsIn (putFeedback i v s).env s.plant := h'.congr (fun _ => rfl) (fun _ => rfl) rfl rfl
    exact hpins.pumps (onFeedback_wrote .refl)
  | surgeEnd i => exact h'.pumps (putPump_wrote .refl)
  | minRunEnd i => exact h'.pumps (putPump_wrote .refl)
  | restEnd i hr => exact h'.pumps (putPump_wrote .refl)
  | startEntryEnd i => exact h'.pumps (putPump_wrote .refl)
  | warningEnd i hq => exact step (.inr (.inl hq)) (toBarring_wrote .refl) toBarring_in
  | limitChange i sw v =>
    refine h'.pinned (i := i) (onLimit_wrote .refl) rfl (fun j hj => PerPortal.get_set_ne _ _ hj) (onLimit_ok (h i).1 rfl) fun hs => ?_
    rw [State.withPlant, onLimit_still hs]
    exact hs
  | travelEnd i hd =>
    simp only [travelDue, Bool.and_eq_true] at hd
    exact step (.inl hd.1) (toJammed_wrote .refl) toJammed_in
  | handTravelEnd i hd =>
    simp only [handTravelDue, Bool.and_eq_true, beq_iff_eq, bne_iff_ne] at hd
    obtain ⟨⟨hq, hm⟩, -⟩ := hd
    refine h'.hand (endHand_wrote .refl) ((h i).1.inHand hq) ?_ (endHand_in hq)
    by_contra hl
    exact hm (((h i).2 (by simpa using hl)).2.2.2.2 hq)
  | loopChange v occupied =>
    have hloop (q : Portal) : (onLoop (s.withPins { s.env.pins with loops := v }).env occupied q).seq = q.seq ∧
        (onLoop (s.withPins { s.env.pins with loops := v }).env occupied q).signal = q.signal ∧
        (onLoop (s.withPins { s.env.pins with loops := v }).env occupied q).motion = q.motion := by
      simp only [onLoop]
      split <;> exact ⟨rfl, rfl, rfl⟩
    have hget (j : PortalId) : PerPortal.get ⟨onLoop (s.withPins { s.env.pins with loops := v }).env occupied s.plant.portals.pe,
        onLoop (s.withPins { s.env.pins with loops := v }).env occupied s.plant.portals.pw⟩ j =
        onLoop (s.withPins { s.env.pins with loops := v }).env occupied (s.plant.portals.get j) := by cases j <;> rfl
    intro j
    obtain ⟨hok, hstill⟩ := h j
    obtain ⟨h1, h2, h3⟩ := hloop (s.plant.portals.get j)
    simp only [State.withPlant, hget]
    exact ⟨(hok.touch h1 h2 h3 onLoop_permit).guards rfl rfl rfl, fun hl => (hstill hl).touch h1 h3 (.inl onLoop_permit)⟩
  | clearConfirmEnd i hq => exact step (.inr (.inr hq)) (toSealing_wrote .refl) toSealing_in
  | clearLimitEnd i =>
    refine PortalsIn.same (a := putPortal s.env i _ s.plant) ?_ rfl rfl
    exact put rfl rfl rfl rfl
  | edgeOn i =>
    have hedge : PortalOk (putPortalPins i { s.env.portalPins i with edge := true } s).env i (s.plant.portals.get i) := by
      refine (h i).1.guards rfl ?_ ?_ <;> simp [putPortalPins, Env.portalPins]
    refine h'.pinned (i := i) (onEdge_wrote .refl) rfl (fun j hj => PerPortal.get_set_ne _ _ hj) (onEdge_ok hedge) fun hs => ?_
    rw [State.withPlant, onEdge_still hs]
    exact hs
  | edgeOff i =>
    refine h'.pinned (i := i) .refl rfl (fun j hj => PerPortal.get_set_ne _ _ hj) ?_ id
    refine (h i).1.guards rfl ?_ ?_ <;> simp [putPortalPins, Env.portalPins]
  | retryEnd i hq =>
    refine step (.inl (by rw [hq]; rfl)) (retrySealing_wrote .refl) ?_
    simp only [retrySealing, State.withPlant]
    split
    · exact toSealed_in
    · rw [joinQueue_portals]
      have hput : PortalsIn s.env (putPortal s.env i { s.plant.portals.get i with retry := .stopped } s.plant) := put rfl rfl rfl rfl
      exact (hput i).1.stepIn ((h i).1.inService (by rw [hq]; nofun) (by rw [hq]; nofun))
  | window d w => exact h
  | scales v w => exact h'.congr (fun _ => rfl) (fun _ => rfl) rfl rfl
  | portalSettings i v => exact h'.congr (fun _ => rfl) (fun _ => rfl) rfl rfl

/-! ### Operations on the state -/

section States
variable {s t : State}

/-- The portals of a state are in order. -/
structure PortalsSafe (s : State) : Prop where
  portals : PortalsIn s.env s.plant

/-- A fold that writes only what `P` does not read. -/
theorem foldl_keeps {α : Type} {P : Plant → Prop} {f : Plant → α → Plant} (hf : ∀ q x, P q → P (f q x)) (l : List α) :
    ∀ {p : Plant}, P p → P (l.foldl f p) := by
  induction l with
  | nil => exact id
  | cons x l ih => exact fun h => ih (hf _ x h)

theorem PortalsSafe.as (h : PortalsSafe s) (hs : t.env.cfg.portalService = s.env.cfg.portalService) (hp : t.env.pins = s.env.pins)
    (hq : t.plant.portals = s.plant.portals) (hu : t.plant.units = s.plant.units) : PortalsSafe t :=
  ⟨h.portals.congr (fun _ => by rw [hs]) (fun _ => by rw [hp]) hq hu⟩

theorem PortalsSafe.settle (h : PortalsSafe s) : PortalsSafe (Machine.settle s) := ⟨h.portals.settle⟩

theorem PortalsIn.syncs {e : Env} {p : Plant} (h : PortalsIn e p) (us : List UnitId) :
    PortalsIn e (us.foldl (fun p u => syncUnit e u p) p) := by
  induction us generalizing p with
  | nil => exact h
  | cons u us ih => exact ih h.sync

theorem resolve_portals (h : PortalsSafe s) (us : List UnitId) : PortalsSafe (resolve us s) := by
  have hreports : PortalsIn (resolve us s).env
      ((changedGovernance s.env.cfg us s.env.table).foldl (fun p n => report (resolve us s).env (.order n) none p) s.plant) :=
    h.portals.congr (fun _ => rfl) (fun _ => rfl)
      (foldl_keeps (P := fun p => p.portals = s.plant.portals) (f := fun p n => report (resolve us s).env (.order n) none p)
        (fun _ _ hp => hp) _ rfl)
      (foldl_keeps (P := fun p => p.units = s.plant.units) (f := fun p n => report (resolve us s).env (.order n) none p)
        (fun _ _ hp => hp) _ rfl)
  exact ⟨hreports.syncs us⟩

theorem removeOrders_portals (h : PortalsSafe s) {gone : Order → Bool} {why : Reason} : PortalsSafe (removeOrders gone why s) :=
  h.as rfl rfl
    (foldl_keeps (P := fun p => p.portals = s.plant.portals) (f := fun p (o : Order) => report s.env (.order o.number) (some why) p)
      (fun _ _ hp => hp) _ rfl)
    (foldl_keeps (P := fun p => p.units = s.plant.units) (f := fun p (o : Order) => report s.env (.order o.number) (some why) p)
      (fun _ _ hp => hp) _ rfl)

theorem standDown_portals (h : PortalsSafe s) : PortalsSafe (standDown s) := resolve_portals (removeOrders_portals h) _

theorem putStore_portals {x : Store} (h : PortalsSafe s) : PortalsSafe (putStore x s) := by
  simp only [putStore]
  split <;> exact ⟨h.portals⟩

theorem takeSection_portals {u : SumpId} {m : Section} (h : PortalsSafe s) : PortalsSafe (takeSection u m s) := by
  have hreport : PortalsIn s.env (reportSection s.env u (s.env.sumps.get u) m
      (s.env.underpass != underpassOf (s.env.sumps.set u m)) s.plant) := by
    refine h.portals.same ?_ ?_
    all_goals
      simp only [reportSection]
      repeat' split
      all_goals rfl
  simp only [takeSection]
  split
  · refine standDown_portals ?_
    exact ⟨hreport⟩
  · exact ⟨hreport⟩

theorem latchSump_portals {u : SumpId} (h : PortalsSafe s) : PortalsSafe (latchSump u s) := by
  simp only [latchSump]
  split <;> exact ⟨h.portals⟩

theorem restartSump_portals {u : SumpId} (h : PortalsSafe s) : PortalsSafe (restartSump u s) :=
  takeSection_portals (s := { s with plant := resetLead u s.plant }) (h.as rfl rfl rfl rfl)

theorem placeOrder_portals {l : Link} {w : Wish} (h : PortalsSafe s) : PortalsSafe (placeOrder l w s) := by
  have hout : PortalsSafe (if (replacedBy s l w).isSome then
      removeOrders (sameOwner (issuerOfLink l) w.holder w.unit) .replaced s else s) := by
    split
    · exact removeOrders_portals h
    · exact h
  have hjoin : PortalsSafe (resolve [w.unit]
      (joinTable (issuerOfLink l) w.holder w.unit w.rank w.verb w.arg w.yieldStage w.expiry
        (if (replacedBy s l w).isSome then removeOrders (sameOwner (issuerOfLink l) w.holder w.unit) .replaced s else s))) := by
    refine resolve_portals ?_ _
    exact hout.as rfl rfl rfl rfl
  simp only [placeOrder]
  split
  · exact putStore_portals hjoin
  · exact hjoin

theorem recordService_portals {u : UnitId} {v : Service} (hv : serviceOf s.env.cfg u ≠ v) (h : PortalsSafe s) : PortalsSafe (recordService u v s) :=
  (resolve_portals (s := (s.withCfg (s.env.cfg.setService u v)).withPlant _) ⟨enterService_portals hv h.portals⟩ [u]).as rfl rfl rfl rfl

theorem PortalsIn.spacing {e : Env} {p : Plant} (h : PortalsIn e p) : PortalsIn e (endSpacing e p) := by
  have hset : PortalsIn e { p with arb := { p.arb with spacing := .stopped } } := h.same rfl rfl
  exact hset.settle

theorem takeSupplyCfg_portals {v : SupplyCfg} (h : PortalsSafe s) : PortalsSafe (takeSupplyCfg v s) := by
  let e : Env := { s.env with cfg := { s.env.cfg with supply := v } }
  have hstart : PortalsIn e (settlePlant e s.plant) :=
    PortalsIn.settle (h.portals.congr (fun _ => rfl) (fun _ => rfl) rfl rfl)
  have htransfer : PortalsIn e (checkTransfer e (settlePlant e s.plant)) := by
    simp only [checkTransfer]
    split
    · exact hstart.changeSupply
    · exact hstart
  have hspacing : PortalsIn e (checkSpacing e (checkTransfer e (settlePlant e s.plant))) := by
    simp only [checkSpacing]
    split
    · exact htransfer.spacing
    · exact htransfer
  exact ⟨hspacing.waits⟩

theorem takePumpCfg_portals {i : PumpId} {v : PumpCfg} (h : PortalsSafe s) : PortalsSafe (takePumpCfg i v s) := by
  simp only [takePumpCfg]
  split
  · exact h.as rfl rfl rfl rfl
  · exact standDown_portals (h.as rfl rfl rfl rfl)

theorem takeGroup_portals {u : SumpId} {g : Group} (h : PortalsSafe s) : PortalsSafe (takeGroup u g s) := by
  have hgroup : PortalsSafe (s.withGroup u g) := h.as rfl rfl rfl rfl
  cases g with
  | calibration c => exact takeGroup_calibration ▸ (restartSump_portals hgroup).settle
  | staging st => exact takeGroup_staging ▸ (takeSection_portals hgroup).settle
  | floats f =>
    rw [takeGroup_floats]
    exact PortalsSafe.settle (hgroup.as rfl rfl rfl rfl)
  | positions l => exact takeGroup_positions ▸ (latchSump_portals hgroup).settle

theorem bootPortal_ok (e : Env) (i : PortalId) : PortalOk e i (bootPortal e i) ∧ PortalStill (bootPortal e i) := by
  simp only [bootPortal]
  split
  · rename_i hs
    have hstill : PortalStill (freshPortal .out) := ⟨rfl, rfl, nofun, nofun, nofun⟩
    exact ⟨⟨by simp [hs, freshPortal], by simp [hs, freshPortal], by simp [freshPortal, Seq.aspect], nofun, nofun, nofun, nofun⟩, hstill⟩
  · rename_i hs
    have hstill : PortalStill (freshPortal .hand) := ⟨rfl, rfl, nofun, nofun, fun _ => rfl⟩
    exact ⟨HandIn.portalOk hs (.ended rfl rfl rfl), hstill⟩
  · rename_i hs
    refine ⟨(settled_in rfl).portalOk hs, ?_⟩
    simp only [settledState]
    split
    · exact ⟨rfl, rfl, nofun, nofun, nofun⟩
    · split
      · exact ⟨rfl, rfl, nofun, nofun, nofun⟩
      · exact ⟨rfl, rfl, nofun, nofun, nofun⟩

theorem bootPlant_portal {e : Env} {i : PortalId} : (bootPlant e).portals.get i = bootPortal e i := by
  rw [bootPlant, lampPass_portals]
  cases i <;> rfl

theorem bootState_portals (pins : Inputs) (b : BootIn) (x : Store) (pd : List Instr) (lines : PerLink (List LineChar)) :
    PortalsSafe (bootState pins b x pd lines) := by
  refine ⟨fun i => ?_⟩
  obtain ⟨hok, hstill⟩ := bootPortal_ok (bootEnv pins x) i
  change PortalOk (bootEnv pins x) i ((bootPlant (bootEnv pins x)).portals.get i) ∧
    (_ → PortalStill ((bootPlant (bootEnv pins x)).portals.get i))
  rw [bootPlant_portal]
  exact ⟨hok, fun _ => hstill⟩

/-- Every act keeps the portals' guards, and the locked portals still. -/
theorem Act.portals (h : PortalsSafe s) (ha : Act s t) : PortalsSafe t := by
  have h' : PortalsIn s.env s.plant := h.portals
  cases ha with
  | nothing => exact h
  | tick => exact ⟨h'⟩
  | fieldRate v => exact h.as rfl rfl rfl rfl
  | keyInput k v => exact ⟨h'.congr (fun _ => rfl) (fun _ => rfl) rfl rfl⟩
  | floatInput u f v => exact ⟨h'.congr (fun _ => rfl) (fun _ => rfl) rfl rfl⟩
  | thermalInput i v => exact ⟨h'.congr (fun _ => rfl) (fun _ => rfl) rfl rfl⟩
  | supplyInput g b => exact ⟨h'.congr (fun _ => rfl) (fun _ => rfl) rfl rfl⟩
  | event he => exact PortalsSafe.settle ⟨he.portals h'⟩
  | deficit z n =>
    have hput {x : Zone} : PortalsIn s.env (putZone s.env z x s.plant) := h'.zone
    refine ⟨?_⟩
    change PortalsIn s.env (measureDeficit s.env z n s.plant)
    simp only [measureDeficit]
    split
    · refine PortalsIn.zones (a := if _ then _ else _) ?_ (lampPass_wrote .refl)
      split
      · exact hput.same rfl rfl
      · exact hput
    · exact h'
  | ramp z _ =>
    refine ⟨?_⟩
    change PortalsIn s.env (stepRamp s.env z s.plant)
    simp only [stepRamp]
    split
    · exact h'.zone
    · exact h'
  | starve u _ => exact ⟨h'.starve⟩
  | supplyChange g b v _ =>
    have hpins : PortalsIn (s.withPins { s.env.pins with gridOk := g, standbyOk := b }).env s.plant := h'.congr (fun _ => rfl) (fun _ => rfl) rfl rfl
    exact ⟨hpins.changeSupply⟩
  | transferEnd _ => exact ⟨h'.changeSupply⟩
  | spacingEnd => exact ⟨h'.spacing⟩
  | supplyCfg v _ _ _ => exact takeSupplyCfg_portals h
  | acknowledge w => exact h.as rfl rfl rfl rfl
  | masks w => exact h.as rfl rfl rfl rfl
  | afterRead l b => exact h.as rfl rfl rfl rfl
  | clearChanges l n => exact h.as rfl rfl rfl rfl
  | reporting l r => exact h.as rfl rfl rfl rfl
  | moderation l _ => exact h.as rfl rfl rfl rfl
  | save _ => exact putStore_portals h
  | restart => exact ⟨h'⟩
  | writeEnd how =>
    simp only [noteFailure]
    split
    · exact putStore_portals h
    · exact (putStore_portals h).as rfl rfl rfl rfl
  | boot pins cut b => exact bootState_portals ..
  | place l w _ => exact (placeOrder_portals h).settle
  | amend l mask m r v o _ _ _ =>
    simp only [acceptAmend]
    split
    · refine PortalsSafe.settle ?_
      split
      · exact h.as rfl rfl rfl rfl
      · refine resolve_portals ?_ _
        exact h.as rfl rfl rfl rfl
    · exact h
  | withdraw o _ _ =>
    refine PortalsSafe.settle ?_
    split
    · exact putStore_portals (resolve_portals (removeOrders_portals h) _)
    · exact resolve_portals (removeOrders_portals h) _
  | authority body k m _ => exact PortalsSafe.settle (standDown_portals (h.as rfl rfl rfl rfl))
  | orderExpiry o _ _ => exact (resolve_portals (removeOrders_portals h) _).settle
  | keyOn k _ _ =>
    exact (resolve_portals (s := joinTable .key (keyHolder k) (.portal k) .overriding .close none none none (setKey k true s))
      (h.as rfl rfl rfl rfl) _).settle
  | keyOff k => exact (resolve_portals (removeOrders_portals (s := setKey k false s) (h.as rfl rfl rfl rfl)) _).settle
  | service u v _ hv =>
    have hrec := recordService_portals hv h
    refine PortalsSafe.settle ?_
    split
    · exact ⟨hrec.portals.room 10⟩
    · exact hrec
  | pumpSettings i v _ _ => exact (takePumpCfg_portals h).settle
  | zoneSettings z v _ _ =>
    have hset : PortalsIn (s.withCfg (putSettings (.zone z v) s.env.cfg)).env s.plant := h'.congr (fun _ => rfl) (fun _ => rfl) rfl rfl
    exact ⟨PortalsIn.settle hset.zone⟩
  | sample u a b =>
    refine PortalsSafe.settle ?_
    split
    · exact latchSump_portals (takeSection_portals h)
    · exact takeSection_portals h
  | floatEnd u f v => exact (takeSection_portals h).settle
  | holdEnd u => exact (takeSection_portals h).settle
  | group u n body g _ _ => exact takeGroup_portals h
  | restartSection u => exact (restartSump_portals h).settle
  | ring u l _ => exact PortalsSafe.settle (h.as rfl rfl rfl rfl)

end States

end Sys2Proof.Machine

/-! The non-lamp load (R102): what draws less fits, every change of supply drops all of it (R100), and room-making makes room (R104). -/

namespace Sys2Proof.Machine

section Loads
variable {g : Prop} {e : Env} {off : PumpId → Prop} {a p : Plant}

/-! ### What the pumps and the permits draw -/

/-- One summand rises by `k` at most. -/
theorem sum_map_raise {α : Type} [DecidableEq α] {f f' : α → Nat} {i : α} {k : Nat} (hi : f' i ≤ f i + k) (ho : ∀ j, j ≠ i → f' j = f j)
    {l : List α} (hl : l.Nodup) : (l.map f').sum ≤ (l.map f).sum + if i ∈ l then k else 0 := by
  induction l with
  | nil => simp
  | cons j l ih =>
    obtain ⟨hj, hl⟩ := List.nodup_cons.mp hl
    have := ih hl
    by_cases he : j = i
    · subst he
      simp only [List.map_cons, List.sum_cons, hj, if_false, List.mem_cons_self, if_true] at this ⊢
      omega
    · have hmem : (i ∈ j :: l) ↔ i ∈ l := by simp [Ne.symm he]
      simp only [List.map_cons, List.sum_cons, hmem, ho j he]
      omega

theorem pumpLoad_le {i : PumpId} (h : Draws (a.pumps.get i) (p.pumps.get i)) : pumpLoad e p i ≤ pumpLoad e a i := by
  simp only [pumpLoad]
  split
  · rename_i hl
    obtain ⟨ha, hs⟩ := h hl
    rw [if_pos ha]
    obtain hs | hs := hs
    · rw [hs, if_pos rfl]
      omega
    · rw [hs]
  · exact Nat.zero_le _

theorem portalLoad_le {i : PortalId} (h : (p.portals.get i).permit = true → (a.portals.get i).permit = true) :
    portalLoad e p i ≤ portalLoad e a i := by
  simp only [portalLoad]
  split
  · rw [if_pos (h ‹_›)]
  · exact Nat.zero_le _

/-- Pumps and permits that draw no more are no more load. -/
theorem nonLampLoad_le (hd : ∀ i, Draws (a.pumps.get i) (p.pumps.get i))
    (hp : ∀ i, (p.portals.get i).permit = true → (a.portals.get i).permit = true) : nonLampLoad e p ≤ nonLampLoad e a :=
  Nat.add_le_add (List.sum_le_sum fun i _ => pumpLoad_le (hd i)) (List.sum_le_sum fun i _ => portalLoad_le (hp i))

theorem NonLampFits.eased (h : NonLampFits e a) (he : Eased g off a p) : NonLampFits e p := by
  obtain ⟨hfit, hshed⟩ := h
  have hle : nonLampLoad e p ≤ nonLampLoad e a := nonLampLoad_le he.draws he.permits
  simp only [NonLampFits, budget, he.supply]
  simp only [budget] at hfit hshed
  exact ⟨hle.trans hfit, fun hp => (Nat.add_le_add_right hle _).trans (hshed hp)⟩

theorem NonLampFits.calm (h : NonLampFits e a) (hc : Calm g off a p) : NonLampFits e p := h.eased hc.eased

/-- A pump's start adds its load and its surge at most (R86). -/
theorem nonLampLoad_started {i : PumpId} :
    nonLampLoad e (started e i p) ≤ nonLampLoad e p + (e.cfg.pumps.get i).load + (e.cfg.pumps.get i).surge := by
  have hother (j : PumpId) (hj : j ≠ i) : pumpLoad e (started e i p) j = pumpLoad e p j := by
    simp only [pumpLoad, started_pumps, PerPump.get_set_ne _ _ hj]
  have hself : pumpLoad e (started e i p) i ≤ pumpLoad e p i + ((e.cfg.pumps.get i).load + (e.cfg.pumps.get i).surge) := by
    simp only [pumpLoad]
    split
    · split <;> omega
    · exact Nat.zero_le _
  have hsum := sum_map_raise hself hother (by decide : PumpId.every.Nodup)
  rw [if_pos (PumpId.mem_every i)] at hsum
  have hportal : portalLoad e (started e i p) = portalLoad e p := by
    funext j
    simp only [portalLoad, started_portals]
  simp only [nonLampLoad, hportal]
  omega

/-- A permit adds its motor's load at most (R112). -/
theorem nonLampLoad_permitted {i : PortalId} : nonLampLoad e (permitted e i p) ≤ nonLampLoad e p + (e.cfg.portals.get i).motorKw := by
  have hother (j : PortalId) (hj : j ≠ i) : portalLoad e (permitted e i p) j = portalLoad e p j := by
    simp only [portalLoad, permitted_other hj]
  have hself : portalLoad e (permitted e i p) i ≤ portalLoad e p i + (e.cfg.portals.get i).motorKw := by
    simp only [portalLoad]
    split <;> omega
  have hsum := sum_map_raise hself hother (by decide : PortalId.every.Nodup)
  rw [if_pos (by cases i <;> decide)] at hsum
  have hpump : pumpLoad e (permitted e i p) = pumpLoad e p := by
    funext j
    simp only [pumpLoad, permitted_pumps]
  simp only [nonLampLoad, hpump]
  omega

theorem started_supply {i : PumpId} : (started e i p).arb.supply = p.arb.supply := by rw [started_arb]; rfl

theorem permitted_supply {i : PortalId} : (permitted e i p).arb.supply = p.arb.supply := by simp [permitted, unqueuePortal]

theorem nonLampFits_of_room {b : Plant} {k : Nat} (hs : b.arb.supply = p.arb.supply) (hb : nonLampLoad e b ≤ nonLampLoad e p + k)
    (hroom : nonLampLoad e p + shedReservation e.cfg + k ≤ budget e p) : NonLampFits e b := by
  simp only [NonLampFits, budget, hs]
  simp only [budget] at hroom
  exact ⟨by omega, fun _ => by omega⟩

/-- What a request that fits is granted fits (R107). -/
theorem grant_fits (h : PlantIn g off p) {r : Request} (hr : r ∈ p.arb.queue) (hf : fits e p r = true) : NonLampFits e (grantRequest e r p) := by
  obtain ⟨i, he, hq, hroom, -⟩ | ⟨i, he, -, hroom⟩ := fits_cases hr hf
  · rw [he]
    refine NonLampFits.calm ?_ (grantPump_calm h hq)
    exact nonLampFits_of_room started_supply (Nat.add_assoc .. ▸ nonLampLoad_started) (Nat.add_assoc .. ▸ hroom)
  · rw [he]
    refine NonLampFits.calm ?_ (grantPortal_calm h)
    exact nonLampFits_of_room permitted_supply nonLampLoad_permitted hroom

/-! ### No load at all -/

theorem nonLampLoad_zero (hpump : ∀ i, (p.pumps.get i).live = false) (hportal : ∀ i, (p.portals.get i).permit = false) :
    nonLampLoad e p = 0 := by
  have h1 : pumpLoad e p = fun _ => 0 := by
    funext i
    simp [pumpLoad, hpump]
  have h2 : portalLoad e p = fun _ => 0 := by
    funext i
    simp [portalLoad, hportal]
  simp [nonLampLoad, h1, h2]

/-- The sheds of a configuration fit under either budget (R44, R103, R105). -/
theorem shedReservation_le {c : WorkConfig} (h : ShedsIn c) {v : Supply} (hv : v.powered = true) : shedReservation c ≤ budgetOf c.supply v := by
  have hall : shedReservation c ≤ shedOfAll c := (List.filter_sublist.map _).sum_le_sum fun _ _ => Nat.zero_le _
  have hmin : shedOfAll c ≤ min c.supply.grid c.supply.standby := h
  cases v with
  | grid => exact hall.trans (hmin.trans (Nat.min_le_left ..))
  | standby => exact hall.trans (hmin.trans (Nat.min_le_right ..))
  | transfer => cases hv
  | dark => cases hv

theorem nonLampFits_of_zero (hs : ShedsIn e.cfg) (h : nonLampLoad e p = 0) : NonLampFits e p :=
  ⟨by omega, fun hp => by rw [h, Nat.zero_add]; exact shedReservation_le hs hp⟩

theorem withdrawPermits_permit {l : List PortalId} {i : PortalId} :
    ((withdrawPermits e l p).portals.get i).permit = (decide (i ∉ l) && (p.portals.get i).permit) := by
  induction l generalizing p with
  | nil => simp [withdrawPermits]
  | cons j l ih =>
    have hstep : ((withdrawPermit e j p).portals.get i).permit = (decide (i ≠ j) && (p.portals.get i).permit) := by
      by_cases hj : i = j
      · subst hj
        rw [withdrawPermit_portal]
        split <;> simp_all
      · rw [(withdrawPermit_wrote (e := e) (i := j) .refl).otherPortal hj]
        simp [hj]
    change ((withdrawPermits e l (withdrawPermit e j p)).portals.get i).permit = _
    rw [ih, hstep, ← Bool.and_assoc]
    by_cases hj : i = j <;> by_cases hl : i ∈ l <;> simp [hj, hl]

theorem mem_permitHolders (h : PlantIn True off p) {i : PortalId} (hp : (p.portals.get i).permit = true) : i ∈ permitHolders p :=
  List.mem_filterMap.mpr ⟨.portal i, h.permits trivial i hp, by simp [hp]⟩

/-- With every permit withdrawn no portal holds one (R100, step 2). -/
theorem withdrawn_permit (h : PlantIn True off p) (i : PortalId) : ((withdrawPermits e (permitHolders p) p).portals.get i).permit = false := by
  rw [withdrawPermits_permit]
  cases hp : (p.portals.get i).permit with
  | false => exact Bool.and_false _
  | true => simp [mem_permitHolders h hp]

/-- What is withdrawn draws no more. -/
theorem withdrawPermits_pumps {l : List PortalId} : (withdrawPermits e l p).pumps = p.pumps := by
  induction l generalizing p with
  | nil => rfl
  | cons j l ih =>
    refine (ih (p := withdrawPermit e j p)).trans ?_
    simp only [withdrawPermit]
    split
    · rw [joinQueue_pumps, putPortal_pumps]
    · rfl

theorem dropPumps_live (i : PumpId) : ((dropPumps e p).pumps.get i).live = false := by
  have : ∀ l : List PumpId, ∀ q : Plant, (i ∈ l ∨ (q.pumps.get i).live = false) →
      ((l.foldl (fun a j => if (a.pumps.get j).live then haltPump e j .off a else a) q).pumps.get i).live = false := by
    intro l
    induction l with
    | nil => exact fun q hq => hq.resolve_left (by simp)
    | cons j l ih =>
      intro q hq
      refine ih _ ?_
      by_cases hj : i = j
      · subst hj
        refine .inr ?_
        dsimp only
        split
        · rw [haltPump_fields.1, PerPump.get_set]
          exact (afterStop_run ..).2
        · simpa using ‹¬(q.pumps.get i).live = true›
      · refine hq.imp (fun hm => (List.mem_cons.mp hm).resolve_left hj) fun hq => ?_
        dsimp only
        split
        · rw [haltPump_fields.1, PerPump.get_set_ne _ _ hj]
          exact hq
        · exact hq
  exact this PumpId.every p (.inl (PumpId.mem_every i))

theorem dropZones_pumps : (dropZones e p).pumps = p.pumps ∧ (dropZones e p).portals = p.portals := by
  have : ∀ l : List ZoneId, ∀ q : Plant,
      (l.foldl (fun a z => putZone e z ((a.zones.get z).setOutput e.clock 0) a) q).pumps = q.pumps ∧
        (l.foldl (fun a z => putZone e z ((a.zones.get z).setOutput e.clock 0) a) q).portals = q.portals := by
    intro l
    induction l with
    | nil => exact fun q => ⟨rfl, rfl⟩
    | cons z l ih => exact fun q => ⟨(ih _).1.trans (putZone_pumps ..), (ih _).2.trans (putZone_portals ..)⟩
  exact this _ _

/-- Every budgeted load is dropped (R100). -/
theorem drops_nonLamp (h : PlantIn True off p) : nonLampLoad e (dropZones e (dropPermits e (dropPumps e p))) = 0 := by
  have hpumps := (dropPumps_calm (e := e) h.calm).ok
  refine nonLampLoad_zero (fun i => ?_) fun i => ?_
  · rw [dropZones_pumps.1, dropPermits, withdrawPermits_pumps]
    exact dropPumps_live i
  · rw [dropZones_pumps.2]
    exact withdrawn_permit hpumps i

/-! ### Room-making (R104) -/

theorem not_overfull (h : overfull e p = false) (hp : p.arb.supply.powered = true) : nonLampLoad e p + shedReservation e.cfg ≤ budget e p := by
  simpa [overfull, hp] using h

/-- The permits that room-making takes make room, where taking all of them does. -/
theorem permitsForRoom_fits {l : List PortalId} (h : overfull e (withdrawPermits e l p) = false) :
    overfull e (withdrawPermits e (permitsForRoom e p l) p) = false := by
  induction l with
  | nil => exact h
  | cons i l ih =>
    simp only [permitsForRoom]
    split
    · exact h
    · exact ih (by simpa using ‹¬overfull e (withdrawPermits e l p) = true›)

/-- With more rounds than pumps, room-making ends with room. -/
theorem makeRoom_fits (hs : ShedsIn e.cfg) {n : Nat} (h : PlantIn True off p) (hn : liveCount p < n) : overfull e (makeRoom e n p) = false := by
  induction n generalizing p with
  | zero => omega
  | succ n ih =>
    simp only [makeRoom]
    split
    · split
      · rename_i i hi
        have hlive := latestLivePump_live hi
        have := liveCount_halt (e := e) (k := .rest) hlive
        exact ih (h.calm.haltLive hlive).ok (by omega)
      · rename_i hnone
        refine permitsForRoom_fits ?_
        have hdead (i : PumpId) : (p.pumps.get i).live = false := by
          by_contra hl
          obtain ⟨j, hj⟩ := h.latest (List.countP_pos_iff.mpr ⟨i, PumpId.mem_every i, by simpa using hl⟩)
          rw [hnone] at hj
          cases hj
        have hzero : nonLampLoad e (withdrawPermits e (permitHolders p) p) = 0 :=
          nonLampLoad_zero (fun i => by rw [withdrawPermits_pumps]; exact hdead i) (withdrawn_permit h)
        obtain ⟨-, hfit⟩ := nonLampFits_of_zero hs hzero
        cases hp : (withdrawPermits e (permitHolders p) p).arb.supply.powered with
        | false => simp [overfull, hp]
        | true =>
          simp only [overfull, hp, Bool.true_and, decide_eq_false_iff_not]
          exact Nat.not_lt.mpr (hfit hp)
    · simpa using ‹¬overfull e p = true›

end Loads

/-! ### The zones and the load when the blocks have acted -/

/-- With `g` the load fits and the zones out of service are off; with `k` the locked zones are off. -/
structure LampsIn (g k : Prop) (e : Env) (p : Plant) : Prop where
  fits : g → NonLampFits e p
  load : g → LampsFit e p
  still : k → ∀ z, p.locked (.zone z) = true → (p.zones.get z).output = 0 ∧ (p.zones.get z).ramp = .none
  out : g → ∀ z ∈ budgetZones, e.cfg.zoneService.get z = .outOfService → (p.zones.get z).output = 0 ∧ (p.zones.get z).allowance = 0

section Acting
variable {g k : Prop} {e : Env} {off : PumpId → Prop} {a p : Plant}

theorem lampPass_nonLampFits : NonLampFits e (lampPass e p) ↔ NonLampFits e p := by
  simp only [NonLampFits, lampPass_nonLamp, lampPass_budget, lampPass_arb]

/-- An allocation puts the zones in order, where the other loads fit. -/
theorem lampPass_in (h : g → NonLampFits e p) : LampsIn g k e (lampPass e p) :=
  ⟨fun hg => lampPass_nonLampFits.mpr (h hg), fun hg => lampPass_fits (h hg), fun _ z => (lampPass_rests z).still,
    fun _ z hz => (lampPass_rests z).out hz⟩

/-- The zones, the supply and the locks stand, and nothing draws more. -/
theorem LampsIn.calm (h : LampsIn g k e a) (hc : Calm g off a p) (hz : p.zones = a.zones) : LampsIn g k e p := by
  refine ⟨fun hg => (h.fits hg).calm hc, fun hg => ?_, fun hk z hl => ?_, fun hg z => ?_⟩
  · have := h.load hg
    have hle : nonLampLoad e p ≤ nonLampLoad e a := nonLampLoad_le hc.draws hc.permits
    simp only [LampsFit, budget, hc.supply, hz] at this ⊢
    omega
  · rw [hz]
    exact h.still hk z (by simpa only [Plant.locked, hc.units] using hl)
  · rw [hz]
    exact h.out hg z

/-- When the owners have acted the zones have been set again. -/
theorem ownersAct_in (hoff : OffIn e p off) (h : PlantIn g off p) (hfit : g → NonLampFits e p) : LampsIn g k e (ownersAct e p) := by
  have hcalm : Calm g off p (ownersAct e p) := h.calm.owners hoff
  have hfits : g → NonLampFits e (ownersAct e p) := fun hg => (hfit hg).calm hcalm
  exact lampPass_in fun hg => lampPass_nonLampFits.mp (hfits hg)

/-- Whatever stood before, when the blocks have acted the load fits, if the loads of pumps and portals did. -/
theorem blocksAct_in (h : PlantIn g (outOff e) p) (hfit : g → NonLampFits e p) : LampsIn g k e (blocksAct e p) := by
  obtain ⟨hcalm, hstill⟩ := h.stopsDue (e := e)
  have houtfall := hstill.calm.outfall (e := e) 8
  have hoff : OffIn e p (stillOff e p) := fun _ ho => ho
  have hunits : (outfallStops e 8 (immediateStops e p)).units = p.units := houtfall.units.trans hcalm.units
  have hfits : g → NonLampFits e (outfallStops e 8 (immediateStops e p)) := fun hg => ((hfit hg).calm hcalm).calm houtfall
  have hstart := ownersAct_in (k := k) (hoff.congr hunits) houtfall.ok hfits
  have hcalmOwners := houtfall.ok.calm.owners (hoff.congr hunits)
  refine (grantPass_induct (P := fun q => PlantIn g (stillOff e p) q ∧ q.units = p.units ∧ LampsIn g k e q) (fun q r hq hr hf => ?_) 40
    ⟨hcalmOwners.ok, hcalmOwners.units.trans hunits, hstart⟩).2.2
  obtain ⟨hok, hu, hin⟩ := hq
  have hgrant : PlantIn g (stillOff e p) (grantRequest e r q) ∧ (grantRequest e r q).units = q.units := by
    obtain ⟨i, he, hq, -, -⟩ | ⟨i, he, -, -⟩ := fits_cases hr hf
    · rw [he]
      have hc := grantPump_calm (e := e) hok hq
      exact ⟨hc.ok, hc.units.trans started_units⟩
    · rw [he]
      have hc := grantPortal_calm (e := e) hok (i := i)
      exact ⟨hc.ok, hc.units.trans permitted_units⟩
  have hoff' : OffIn e (grantRequest e r q) (stillOff e p) := hoff.congr (hgrant.2.trans hu)
  have hc := hgrant.1.calm.owners hoff'
  exact ⟨hc.ok, hc.units.trans (hgrant.2.trans hu), ownersAct_in hoff' hgrant.1 fun _ => grant_fits hok hr hf⟩

theorem settlePlant_in (h : PlantIn g (outOff e) p) (hfit : g → NonLampFits e p) : LampsIn g k e (settlePlant e p) := by
  have hin := blocksAct_in (k := k) h hfit
  exact hin.calm (blocksAct_settled h).ok.calm.refresh rfl

end Acting

end Sys2Proof.Machine

/-! Every act keeps the load within the budget (R102 to R105, R113), and the zones that are locked or out of service off. -/

namespace Sys2Proof.Machine

/-! ### Settings that change -/

section Settings
variable {g k : Prop} {e e' : Env} {off : PumpId → Prop} {a p : Plant}

/-- Settings may change of pumps that are still and of portals without a permit. -/
theorem nonLampLoad_config (hp : ∀ i, (p.pumps.get i).live = true → e'.cfg.pumps.get i = e.cfg.pumps.get i)
    (hr : ∀ i, (p.portals.get i).permit = true → e'.cfg.portals.get i = e.cfg.portals.get i) : nonLampLoad e' p = nonLampLoad e p := by
  have hpump : pumpLoad e' p = pumpLoad e p := by
    funext i
    simp only [pumpLoad]
    split
    · rw [hp i ‹_›]
    · rfl
  have hportal : portalLoad e' p = portalLoad e p := by
    funext i
    simp only [portalLoad]
    split
    · rw [hr i ‹_›]
    · rfl
  simp only [nonLampLoad, hpump, hportal]

theorem shedReservation_eq (c : WorkConfig) :
    shedReservation c = (budgetZones.map fun z => if c.zoneService.get z = .outOfService then 0 else shedLoad c z).sum := by
  have : ∀ l : List ZoneId, ((l.filter (fun z => c.zoneService.get z != .outOfService)).map (shedLoad c)).sum =
      (l.map fun z => if c.zoneService.get z = .outOfService then 0 else shedLoad c z).sum := by
    intro l
    induction l with
    | nil => rfl
    | cons z l ih =>
      by_cases hz : c.zoneService.get z = .outOfService <;> simp [hz, ih]
  exact this budgetZones

/-- Fewer zones in service, with the settings they had, reserve no more. -/
theorem shedReservation_mono {c c' : WorkConfig}
    (h : ∀ z ∈ budgetZones, c'.zoneService.get z ≠ .outOfService → c.zoneService.get z ≠ .outOfService ∧ c'.zones.get z = c.zones.get z) :
    shedReservation c' ≤ shedReservation c := by
  rw [shedReservation_eq, shedReservation_eq]
  refine List.sum_le_sum fun z hz => ?_
  by_cases hs : c'.zoneService.get z = .outOfService
  · simp [hs]
  · obtain ⟨h1, h2⟩ := h z hz hs
    simp only [hs, h1, if_false, shedLoad, h2]
    exact Nat.le_refl _

theorem NonLampFits.config (h : NonLampFits e p) (hload : nonLampLoad e' p = nonLampLoad e p)
    (hshed : shedReservation e'.cfg ≤ shedReservation e.cfg) (hs : e'.cfg.supply = e.cfg.supply) : NonLampFits e' p := by
  obtain ⟨h1, h2⟩ := h
  simp only [NonLampFits, budget, hload, hs]
  simp only [budget] at h1 h2
  exact ⟨h1, fun hp => by have := h2 hp; omega⟩

/-- The settings that the load is made of stand. -/
structure SameLoads (c c' : WorkConfig) : Prop where
  pumps : c'.pumps = c.pumps
  portals : c'.portals = c.portals
  zones : c'.zones = c.zones
  service : c'.zoneService = c.zoneService
  supply : c'.supply = c.supply
  pumpService : c'.pumpService = c.pumpService

theorem SameLoads.of {c c' : WorkConfig} (h : c' = c) : SameLoads c c' := h ▸ ⟨rfl, rfl, rfl, rfl, rfl, rfl⟩

theorem SameLoads.sheds {c c' : WorkConfig} (h : SameLoads c c') (hs : ShedsIn c) : ShedsIn c' := by
  have hload : shedLoad c' = shedLoad c := by
    funext z
    simp only [shedLoad, h.zones]
  simpa only [ShedsIn, shedOfAll, hload, h.supply] using hs

theorem NonLampFits.same (h : NonLampFits e p) (hc : SameLoads e.cfg e'.cfg) : NonLampFits e' p :=
  h.config (nonLampLoad_config (fun _ _ => by rw [hc.pumps]) (fun _ _ => by rw [hc.portals]))
    (shedReservation_mono fun _ _ => by rw [hc.service, hc.zones]; exact fun hs => ⟨hs, rfl⟩) hc.supply

theorem LampsIn.config (h : LampsIn g k e p) (hc : SameLoads e.cfg e'.cfg) : LampsIn g k e' p := by
  refine ⟨fun hg => (h.fits hg).same hc, fun hg => ?_, h.still, fun hg z hz hs => h.out hg z hz (by rwa [hc.service] at hs)⟩
  have hload := h.load hg
  have hlamp : nonLampLoad e' p = nonLampLoad e p := nonLampLoad_config (fun _ _ => by rw [hc.pumps]) (fun _ _ => by rw [hc.portals])
  simpa only [LampsFit, zoneLoad, hlamp, budget, hc.zones, hc.supply] using hload

/-! ### Acts that do not let the blocks act -/

/-- One zone's record is written: no more at its highest, and off where it must be. -/
theorem LampsIn.written (h : LampsIn g k e p) {z : ZoneId} {r : Zone}
    (hmax : max r.output r.allowance ≤ max (p.zones.get z).output (p.zones.get z).allowance)
    (hstill : k → p.locked (.zone z) = true → r.output = (p.zones.get z).output ∧ r.ramp = (p.zones.get z).ramp)
    (hout : g → z ∈ budgetZones → e.cfg.zoneService.get z = .outOfService → r.output = 0 ∧ r.allowance = 0) :
    LampsIn g k e (putZone e z r p) := by
  have hload : nonLampLoad e (putZone e z r p) = nonLampLoad e p := nonLampLoad_congr (putZone_pumps ..) (putZone_portals ..)
  have harb : (putZone e z r p).arb = p.arb := putZone_arb ..
  have hlock (u : UnitId) : (putZone e z r p).locked u = p.locked u := by simp only [Plant.locked, putZone_units]
  have hget (y : ZoneId) : (putZone e z r p).zones.get y = if y = z then r else p.zones.get y := by
    rw [putZone_zones]
    by_cases hy : y = z
    · subst hy
      simp
    · simp [PerZone.get_set_ne _ _ hy, hy]
  refine ⟨fun hg => ?_, fun hg => ?_, fun hk y hl => ?_, fun hg y hy hs => ?_⟩
  · have := h.fits hg
    simpa only [NonLampFits, budget, hload, harb] using this
  · have := h.load hg
    simp only [LampsFit, budget, hload, harb] at this ⊢
    refine (Nat.add_le_add_left (List.sum_le_sum fun y _ => ?_) _).trans this
    rw [hget]
    split
    · rename_i hy
      subst hy
      exact zoneLoad_mono hmax
    · exact Nat.le_refl _
  · rw [hlock] at hl
    rw [hget]
    split
    · rename_i hy
      subst hy
      obtain ⟨h1, h2⟩ := hstill hk hl
      rw [h1, h2]
      exact h.still hk y hl
    · exact h.still hk y hl
  · rw [hget]
    split
    · rename_i hy
      subst hy
      exact hout hg hy hs
    · exact h.out hg y hy hs

theorem starve_zones {u : UnitId} : (starve e u p).zones = p.zones := by
  simp only [starve]
  split
  · exact putPump_zones ..
  · exact putPortal_zones ..
  · rfl

theorem LampsIn.starved (h : LampsIn g k e p) (hok : PlantIn g off p) {u : UnitId} : LampsIn g k e (starve e u p) :=
  h.calm (starve_calm hok.calm) starve_zones

theorem LampsIn.waits (h : LampsIn g k e p) (hok : PlantIn g off p) : LampsIn g k e (checkWaits e p) := by
  refine h.calm (checkWaits_calm hok.calm) ?_
  exact foldl_keeps (P := fun q => q.zones = p.zones) (f := fun q (r : Request) => starve e r.unit q)
    (fun q r hq => starve_zones.trans hq) _ rfl

theorem LampsIn.deficit (h : LampsIn g k e p) {z : ZoneId} {n : Nat} : LampsIn g k e (measureDeficit e z n p) := by
  have hput {r : Zone} : g → NonLampFits e (putZone e z r p) := fun hg => by
    have := h.fits hg
    simpa only [NonLampFits, budget, nonLampLoad_congr (putZone_pumps ..) (putZone_portals ..), putZone_arb] using this
  simp only [measureDeficit]
  split
  · refine lampPass_in fun hg => ?_
    split
    · exact hput hg
    · exact hput hg
  · exact h

/-- A step of a ramp leaves the zone within its allowance, or lower than it was (R152). -/
theorem LampsIn.ramp (h : LampsIn g k e p) {z : ZoneId} : LampsIn g k e (stepRamp e z p) := by
  simp only [stepRamp]
  split
  · rename_i o ho
    have hstep : (p.zones.get z).ramp ≠ .none ∧
        (((p.zones.get z).output < min (p.zones.get z).comp (p.zones.get z).allowance ∧ o = (p.zones.get z).output + 1) ∨
          (min (p.zones.get z).comp (p.zones.get z).allowance < (p.zones.get z).output ∧ o = (p.zones.get z).output - 1)) := by
      split at ho
      · rename_i hr
        split at ho <;> simp_all
      · rename_i hr
        split at ho <;> simp_all
      · cases ho
    obtain ⟨hr, hmove⟩ := hstep
    refine h.written ?_ (fun hk hl => absurd (h.still hk z hl).2 hr) fun hg hz hs => ?_
    · simp only [Zone.rerun, Zone.setOutput]
      omega
    · obtain ⟨h1, h2⟩ := h.out hg z hz hs
      omega
  · exact h

end Settings

/-! ### The store's configurations -/

/-- What `LoadOk` asks of the store. -/
def StoreSheds (t : Store) : Prop :=
  (∀ c, t.image = some c → ShedsIn c) ∧ (∀ w, t.inProgress = some w → ImageShedsIn w) ∧ (∀ w, t.waiting = some w → ImageShedsIn w)

theorem StoreSheds.ask {t : Store} (h : StoreSheds t) {w : Write} (hw : ImageShedsIn w) : StoreSheds (t.ask w) := by
  obtain ⟨himage, hin, hwait⟩ := h
  obtain ⟨hi, -, hin', hwait'⟩ := ask_writes hin hwait hw
  exact ⟨by rwa [hi], hin', hwait'⟩

theorem StoreSheds.endWrite {t : Store} (h : StoreSheds t) (how : WriteEnd) : StoreSheds (t.endWrite how) := by
  obtain ⟨himage, hin, hwait⟩ := h
  exact ⟨fun c hc => (endWrite_image hc).elim (himage c) (hin (.image c)), endWrite_writes how hin hwait⟩

theorem factoryDefaults_sheds : ShedsIn factoryDefaults := by
  change shedOfAll factoryDefaults ≤ min factoryDefaults.supply.grid factoryDefaults.supply.standby
  decide

theorem bootConfig_sheds {t : Store} (h : ∀ c, t.image = some c → ShedsIn c) : ShedsIn (bootConfig t) := by
  obtain ⟨c, hc, hboot⟩ := bootConfig_cases t
  have hs : ShedsIn c := hc.elim (h c) fun he => he ▸ factoryDefaults_sheds
  obtain he | he := hboot
  · rwa [he]
  · rw [he]
    exact hs

/-- What the load of a state is made of. -/
structure LampsSafe (g k : Prop) (s : State) : Prop where
  lamps : LampsIn g k s.env s.plant
  sheds : g → ShedsIn s.env.cfg
  store : g → StoreSheds s.store

/-! ### Every act -/

section Acts
variable {g k : Prop} {s t : State} {a : Plant}

theorem settle_lamps (hok : PlantIn g (outOff s.env) s.plant) (hfit : g → NonLampFits s.env s.plant) (hs : g → ShedsIn s.env.cfg)
    (ht : g → StoreSheds s.store) : LampsSafe g k (settle s) := ⟨settlePlant_in hok hfit, hs, ht⟩

theorem changeSupply_lamps {e : Env} {p : Plant} (hok : PlantIn g (outOff e) p) (hs : g → ShedsIn e.cfg) {v : Supply} :
    LampsIn g k e (changeSupply e v p) := by
  refine settlePlant_in (drops_calm (e := e) (v := v) hok).ok fun hg => ?_
  refine nonLampFits_of_zero (hs hg) (drops_nonLamp (off := outOff e) ?_)
  exact (setSupply_plantIn hok).given hg

theorem endSpacing_lamps {e : Env} {p : Plant} (hok : PlantIn g (outOff e) p) (hfit : g → NonLampFits e p) : LampsIn g k e (endSpacing e p) := by
  have hset := hok.calm.same (q := { p with arb := { p.arb with spacing := .stopped } }) rfl rfl rfl rfl rfl fun _ => id
  exact settlePlant_in hset.ok fun hg => (hfit hg).calm hset

theorem budgetOf_unpowered {c : SupplyCfg} {v : Supply} (h : v.powered = false) : budgetOf c v = 0 := by
  cases v <;> first | rfl | cases h

theorem takeSupplyCfg_lamps {v : SupplyCfg} (hok : PlantIn g (outOff s.env) s.plant) (h : LampsSafe g k s)
    (hs : shedsFit s.env.cfg v = true) (hb : budgetHolds s.env s.plant v = true) : LampsSafe g k (takeSupplyCfg v s) := by
  let e : Env := { s.env with cfg := { s.env.cfg with supply := v } }
  have hsheds : ShedsIn e.cfg := (of_decide_eq_true hs : shedOfAll s.env.cfg ≤ min v.grid v.standby)
  have hfit : g → NonLampFits e s.plant := fun hg => by
    obtain ⟨hold, -⟩ := h.lamps.fits hg
    simp only [budgetHolds, Bool.or_eq_true, Bool.not_eq_true', decide_eq_true_eq] at hb
    cases hp : s.plant.arb.supply.powered with
    | true =>
      have hfit : nonLampLoad e s.plant + shedReservation e.cfg ≤ budget e s.plant := hb.resolve_left (by simp [hp])
      exact ⟨by omega, fun _ => hfit⟩
    | false =>
      refine ⟨?_, by simp [hp]⟩
      rw [budget, budgetOf_unpowered hp] at hold
      rw [budget, budgetOf_unpowered hp]
      exact hold
  have hpumps : PlantIn g (outOff e) (settlePlant e s.plant) := (settlePlant_settled (e := e) hok).ok.mono fun _ => .inl
  have hstart : LampsIn g k e (settlePlant e s.plant) := settlePlant_in (e := e) hok hfit
  have htransfer : PlantIn g (outOff e) (checkTransfer e (settlePlant e s.plant)) ∧
      LampsIn g k e (checkTransfer e (settlePlant e s.plant)) := by
    simp only [checkTransfer]
    split
    · exact ⟨(changeSupply_pumps (lim := False) (k := k) hpumps).ok, changeSupply_lamps hpumps fun _ => hsheds⟩
    · exact ⟨hpumps, hstart⟩
  have hspacing : PlantIn g (outOff e) (checkSpacing e (checkTransfer e (settlePlant e s.plant))) ∧
      LampsIn g k e (checkSpacing e (checkTransfer e (settlePlant e s.plant))) := by
    simp only [checkSpacing]
    split
    · exact ⟨(endSpacing_pumps (lim := False) (k := k) htransfer.1).ok, endSpacing_lamps htransfer.1 htransfer.2.fits⟩
    · exact htransfer
  exact ⟨hspacing.2.waits hspacing.1, fun _ => hsheds, h.store⟩

theorem setService_loads {c : WorkConfig} {u : UnitId} {v : Service} : (c.setService u v).pumps = c.pumps ∧
    (c.setService u v).portals = c.portals ∧ (c.setService u v).zones = c.zones ∧ (c.setService u v).supply = c.supply := by
  cases u <;> exact ⟨rfl, rfl, rfl, rfl⟩

/-- Only a budgeted zone that comes from OUT_OF_SERVICE reserves more (R104). -/
theorem setService_reservation {c : WorkConfig} {u : UnitId} {v : Service} (h : needsRoom u (serviceOf c u) v = false) :
    shedReservation (c.setService u v) ≤ shedReservation c := by
  refine shedReservation_mono fun z hz hs => ?_
  cases u with
  | zone y =>
    refine ⟨fun hout => ?_, rfl⟩
    by_cases hzy : z = y
    · subst hzy
      have hz6 : z ≠ .z6 := by rintro rfl; revert hz; decide
      have hv : v ≠ .outOfService := by simpa [WorkConfig.setService] using hs
      simp [needsRoom, serviceOf, hout, hz6, hv] at h
    · simp only [WorkConfig.setService, PerZone.get_set_ne _ _ hzy] at hs
      exact hs hout
  | _ => exact ⟨hs, rfl⟩

theorem changeService_lamps {u : UnitId} {v : Service} (hok : PlantIn g (outOff s.env) s.plant) (h : LampsSafe g k s) :
    LampsSafe g k (changeService u v s) := by
  obtain ⟨hp, hr, hz, hb⟩ := setService_loads (c := s.env.cfg) (u := u) (v := v)
  have hcfg : (recordService u v s).env.cfg = s.env.cfg.setService u v := rfl
  have hrec := recordService_eased (u := u) (v := v) hok
  have hload : nonLampLoad (recordService u v s).env s.plant = nonLampLoad s.env s.plant :=
    nonLampLoad_config (fun _ _ => by rw [hcfg, hp]) (fun _ _ => by rw [hcfg, hr])
  have hsheds : g → ShedsIn (recordService u v s).env.cfg := fun hg => by
    have hl : shedLoad (s.env.cfg.setService u v) = shedLoad s.env.cfg := by
      funext z
      simp only [shedLoad, hz]
    have := h.sheds hg
    simpa only [ShedsIn, shedOfAll, hcfg, hl, hb] using this
  have hstore : (recordService u v s).store = s.store := rfl
  have hle : nonLampLoad (recordService u v s).env (recordService u v s).plant ≤ nonLampLoad s.env s.plant :=
    hload ▸ nonLampLoad_le hrec.draws hrec.permits
  simp only [changeService]
  split
  · have hroom := makeRoom_calm (e := (recordService u v s).env) hrec.ok.calm 10
    refine settle_lamps hroom.ok (fun hg => ?_) hsheds fun hg => hstore ▸ h.store hg
    have hfits := makeRoom_fits (e := (recordService u v s).env) (hsheds hg) (hrec.ok.given hg) (n := 10)
      ((liveCount_le _).trans_lt (by omega))
    refine ⟨?_, not_overfull hfits⟩
    have hroomLe : nonLampLoad (recordService u v s).env (makeRoom (recordService u v s).env 10 (recordService u v s).plant) ≤
        nonLampLoad (recordService u v s).env (recordService u v s).plant := nonLampLoad_le hroom.draws hroom.permits
    have hold := (h.lamps.fits hg).1
    have hbudget : budget (recordService u v s).env (makeRoom (recordService u v s).env 10 (recordService u v s).plant) = budget s.env s.plant := by
      rw [budget, budget, hroom.supply, hrec.supply, hcfg, hb]
    rw [hbudget]
    exact (hroomLe.trans hle).trans hold
  · rename_i hneed
    refine settle_lamps hrec.ok (fun hg => ?_) hsheds fun hg => hstore ▸ h.store hg
    refine NonLampFits.eased (a := s.plant) ?_ hrec
    exact (h.lamps.fits hg).config hload (hcfg ▸ setService_reservation (by simpa using hneed)) (by rw [hcfg, hb])

theorem takePumpCfg_loads {i : PumpId} {v : PumpCfg} : (takePumpCfg i v s).env.cfg.pumps = s.env.cfg.pumps.set i v ∧
    (takePumpCfg i v s).env.cfg.portals = s.env.cfg.portals ∧ (takePumpCfg i v s).env.cfg.zones = s.env.cfg.zones ∧
    (takePumpCfg i v s).env.cfg.zoneService = s.env.cfg.zoneService ∧ (takePumpCfg i v s).env.cfg.supply = s.env.cfg.supply ∧
    (takePumpCfg i v s).store = s.store := by
  simp only [takePumpCfg]
  split <;> exact ⟨rfl, rfl, rfl, rfl, rfl, rfl⟩

theorem bootPlant_lamps {e : Env} (hs : g → ShedsIn e.cfg) : LampsIn g k e (bootPlant e) := by
  refine lampPass_in fun hg => nonLampFits_of_zero (hs hg) (nonLampLoad_zero (fun i => ?_) fun i => ?_)
  · rw [PerPump.get_all]
    rfl
  · cases i
    · exact (bootPortal_ok e .pe).2.1
    · exact (bootPortal_ok e .pw).2.1

theorem SameCore.lamps : SameCore s t → LampsSafe g k s → LampsSafe g k t := by
  rintro ⟨_, _, rfl⟩ h
  exact ⟨h.lamps, h.sheds, h.store⟩

theorem putStore_lamps {x : Store} (h : LampsSafe g k s) (hok : PlantIn g (outOff s.env) s.plant) (hx : g → StoreSheds x) :
    LampsSafe g k (putStore x s) := by
  simp only [putStore]
  split
  · exact ⟨h.lamps, h.sheds, hx⟩
  · exact ⟨h.lamps.calm hok.calm.report rfl, h.sheds, hx⟩

/-- The blocks act on what an event has done without more being drawn, under settings that let what was drawn fit. -/
theorem LampsSafe.acted {x : State} (hx : Eased g (outOff s.env) s.plant x.plant) (hp : x.env.cfg.pumpService = s.env.cfg.pumpService)
    (hfit : g → NonLampFits x.env s.plant) (hs : g → ShedsIn x.env.cfg) (ht : g → StoreSheds x.store) : LampsSafe g k (settle x) := by
  refine settle_lamps (hx.ok.mono fun i hi => ?_) (fun hg => (hfit hg).eased hx) hs ht
  rwa [outOff, hp] at hi

theorem LampsSafe.settled (h : LampsSafe g k s) {x : State} (hx : Eased g (outOff s.env) s.plant x.plant) (hc : SameLoads s.env.cfg x.env.cfg)
    (ht : g → StoreSheds x.store) : LampsSafe g k (settle x) :=
  .acted hx hc.pumpService (fun hg => (h.lamps.fits hg).same hc) (fun hg => hc.sheds (h.sheds hg)) ht

theorem LampsSafe.same (h : LampsSafe g k s) {x : State} (hx : Calm g (outOff s.env) s.plant x.plant) (hz : x.plant.zones = s.plant.zones)
    (hc : SameLoads s.env.cfg x.env.cfg) (ht : g → StoreSheds x.store) : LampsSafe g k x :=
  ⟨(h.lamps.calm hx hz).config hc, fun hg => hc.sheds (h.sheds hg), ht⟩

theorem bootState_lamps (pins : Inputs) (b : BootIn) {x : Store} (pd : List Instr) (lines : PerLink (List LineChar))
    (hx : g → ∀ c, x.image = some c → ShedsIn c) : LampsSafe g k (bootState pins b x pd lines) := by
  have hsheds : g → ShedsIn (bootEnv pins x).cfg := fun hg => bootConfig_sheds (hx hg)
  have hboot : LampsIn g k (bootEnv pins x) (bootPlant (bootEnv pins x)) := bootPlant_lamps hsheds
  exact ⟨⟨hboot.fits, hboot.load, hboot.still, hboot.out⟩, hsheds, fun hg => ⟨hx hg, by simp [bootState], by simp [bootState]⟩⟩

theorem placeOrder_store {l : Link} {w : Wish} {P : Store → Prop} (h : P s.store)
    (hask : ∀ l, P (s.store.ask (.locks l))) : P (placeOrder l w s).store := by
  have hout : (if (replacedBy s l w).isSome then removeOrders (sameOwner (issuerOfLink l) w.holder w.unit) .replaced s else s).store =
      s.store := by split <;> rfl
  have hin {x : State} {issuer : Issuer} :
      (resolve [w.unit] (joinTable issuer w.holder w.unit w.rank w.verb w.arg w.yieldStage w.expiry x)).store = x.store := rfl
  simp only [placeOrder]
  split
  · rw [askLockoutWrite, putStore_store, hin, hout]
    exact hask _
  · rw [hin, hout]
    exact h

theorem StoreSheds.lockWrite {x : Store} (h : StoreSheds x) (l : List StoredLock) : StoreSheds (x.ask (.locks l)) := h.ask trivial

theorem event_lamps (hok : PlantIn g (outOff s.env) s.plant)
    (hpermit : g → ∀ i, s.env.cfg.portalService.get i = .outOfService → (s.plant.portals.get i).permit = false) (h : LampsSafe g k s)
    (he : Event s t) : LampsSafe g k (settle t) := by
  obtain ⟨hstore, henv⟩ := he.frame
  have hx := he.eased hok
  have hstore' : g → StoreSheds t.store := by rw [hstore]; exact h.store
  have hcfg : t.env.cfg.portals = s.env.cfg.portals ∨ ∃ i v, t.env.cfg.portals = s.env.cfg.portals.set i v ∧
      s.env.cfg.portalService.get i = .outOfService := by
    cases he with
    | portalSettings i v hv => exact .inr ⟨i, v, rfl, hv⟩
    | _ => exact .inl rfl
  have hzones : t.env.cfg.zones = s.env.cfg.zones ∧ t.env.cfg.zoneService = s.env.cfg.zoneService ∧ t.env.cfg.supply = s.env.cfg.supply ∧
      t.env.cfg.pumps = s.env.cfg.pumps ∧ t.env.cfg.pumpService = s.env.cfg.pumpService := by
    rw [henv]
    exact ⟨rfl, rfl, rfl, rfl, rfl⟩
  obtain ⟨hz, hs, hb, hp, hps⟩ := hzones
  obtain hcfg | ⟨i, v, hcfg, hout⟩ := hcfg
  · exact h.settled hx ⟨hp, hcfg, hz, hs, hb, hps⟩ hstore'
  · refine .acted hx hps (fun hg => (h.lamps.fits hg).config (nonLampLoad_config (fun _ _ => by rw [hp]) fun j hj => ?_)
      (shedReservation_mono fun _ _ => by rw [hs, hz]; exact fun hs => ⟨hs, rfl⟩) hb) (fun hg => ?_) hstore'
    · have hne : j ≠ i := by
        rintro rfl
        simp [hpermit hg j hout] at hj
      rw [hcfg, PerPortal.get_set_ne _ _ hne]
    · have := h.sheds hg
      have hl : shedLoad t.env.cfg = shedLoad s.env.cfg := by
        funext z
        simp only [shedLoad, hz]
      simpa only [ShedsIn, shedOfAll, hl, hb] using this

theorem pumpSettings_lamps (hok : PlantIn g (outOff s.env) s.plant) (h : LampsSafe g k s) {i : PumpId} {v : PumpCfg}
    (hout : serviceOf s.env.cfg (.pump i) = .outOfService) : LampsSafe g k (settle (takePumpCfg i v s)) := by
  obtain ⟨hp, hr, hz, hs, hb, hstore⟩ := takePumpCfg_loads (s := s) (i := i) (v := v)
  refine .acted (takePumpCfg_eased hok.eased) takePumpCfg_service (fun hg => ?_) (fun hg => ?_) (by rw [hstore]; exact h.store)
  · refine (h.lamps.fits hg).config (nonLampLoad_config (fun j hj => ?_) fun _ _ => by rw [hr])
      (shedReservation_mono fun _ _ => by rw [hs, hz]; exact fun hs => ⟨hs, rfl⟩) hb
    have hne : j ≠ i := by
      rintro rfl
      simp [((hok.pumps j).off hout).1] at hj
    rw [hp, PerPump.get_set_ne _ _ hne]
  · have := h.sheds hg
    have hl : shedLoad (takePumpCfg i v s).env.cfg = shedLoad s.env.cfg := by
      funext z
      simp only [shedLoad, hz]
    simpa only [ShedsIn, shedOfAll, hl, hb] using this

theorem zoneSettings_lamps (hok : PlantIn g (outOff s.env) s.plant) (h : LampsSafe g k s) {z : ZoneId} {v : ZoneCfg}
    (hout : serviceOf s.env.cfg (.zone z) = .outOfService) (hv : settingsFit s.env.cfg (.zone z v) = true) :
    LampsSafe g k (settle (takeZoneCfg z v s)) := by
  simp only [settingsFit, Bool.and_eq_true, decide_eq_true_eq] at hv
  refine .acted (s := s) ?_ rfl (fun hg => ?_) (fun _ => hv.2) h.store
  · exact Calm.eased hok.calm.zone
  · refine (h.lamps.fits hg).config (nonLampLoad_config (fun _ _ => rfl) fun _ _ => rfl) (shedReservation_mono fun y _ hs => ⟨hs, ?_⟩) rfl
    have hne : y ≠ z := by
      rintro rfl
      exact hs hout
    exact PerZone.get_set_ne _ _ hne

theorem latchSump_store {u : SumpId} : (latchSump u s).store = s.store := by
  simp only [latchSump]
  split <;> rfl

theorem takeGroup_lamps (hok : PlantIn g (outOff s.env) s.plant) (h : LampsSafe g k s) {u : SumpId} {gr : Group} :
    LampsSafe g k (takeGroup u gr s) := by
  have eased : Eased g (outOff s.env) s.plant (s.withGroup u gr).plant := hok.eased
  have hcfg : SameLoads s.env.cfg (s.withGroup u gr).env.cfg := ⟨rfl, rfl, rfl, rfl, rfl, rfl⟩
  cases gr with
  | calibration c =>
    rw [takeGroup_calibration]
    refine h.settled (restartSump_eased eased) (by rw [restartSump_cfg]; exact hcfg) ?_
    rw [restartSump, (takeSection_frame ..).2.2.1]
    exact h.store
  | staging st =>
    rw [takeGroup_staging]
    refine h.settled (takeSection_eased eased) (by rw [(takeSection_frame ..).2.2.2.1]; exact hcfg) ?_
    rw [(takeSection_frame ..).2.2.1]
    exact h.store
  | floats f =>
    rw [takeGroup_floats]
    exact h.settled eased hcfg h.store
  | positions l =>
    rw [takeGroup_positions]
    refine h.settled (latchSump_eased eased) (by rw [latchSump_env]; exact hcfg) ?_
    rw [latchSump_store]
    exact h.store

/-- Every act keeps the load within the budget and the zones off that must be. -/
theorem Act.lamps (hok : PlantIn g (outOff s.env) s.plant)
    (hpermit : g → ∀ i, s.env.cfg.portalService.get i = .outOfService → (s.plant.portals.get i).permit = false) (h : LampsSafe g k s)
    (ha : Act s t) : LampsSafe g k t := by
  have refl : Calm g (outOff s.env) s.plant s.plant := hok.calm
  have eased : Eased g (outOff s.env) s.plant s.plant := hok.eased
  have cfg : SameLoads s.env.cfg s.env.cfg := .of rfl
  have taken {u : SumpId} {m : Section} : SameLoads s.env.cfg (takeSection u m s).env.cfg ∧ (takeSection u m s).store = s.store :=
    ⟨.of (takeSection_frame ..).2.2.2.1, (takeSection_frame ..).2.2.1⟩
  cases ha with
  | nothing => exact h
  | tick => exact h.same refl rfl (.of rfl) h.store
  | fieldRate v => exact h.same refl rfl ⟨rfl, rfl, rfl, rfl, rfl, rfl⟩ h.store
  | keyInput k v => exact h.same refl rfl cfg h.store
  | floatInput u f v => exact h.same refl rfl cfg h.store
  | thermalInput i v => exact h.same refl rfl cfg h.store
  | supplyInput g b => exact h.same refl rfl cfg h.store
  | event he => exact event_lamps hok hpermit h he
  | deficit z n => exact ⟨h.lamps.deficit, h.sheds, h.store⟩
  | ramp z _ => exact ⟨h.lamps.ramp, h.sheds, h.store⟩
  | starve u _ => exact ⟨h.lamps.starved hok, h.sheds, h.store⟩
  | supplyChange g b v _ =>
    exact ⟨changeSupply_lamps (e := (s.withPins { s.env.pins with gridOk := g, standbyOk := b }).env) hok h.sheds, h.sheds, h.store⟩
  | transferEnd _ => exact ⟨changeSupply_lamps hok h.sheds, h.sheds, h.store⟩
  | spacingEnd => exact ⟨endSpacing_lamps hok h.lamps.fits, h.sheds, h.store⟩
  | supplyCfg v _ hs hb => exact takeSupplyCfg_lamps hok h hs hb
  | acknowledge w => exact h.same (refl.same rfl rfl rfl rfl rfl fun _ => id) rfl cfg h.store
  | masks w => exact h.same (refl.same rfl rfl rfl rfl rfl fun _ => id) rfl ⟨rfl, rfl, rfl, rfl, rfl, rfl⟩ h.store
  | afterRead l b => exact h.same (refl.same rfl rfl rfl rfl rfl fun _ => id) rfl cfg h.store
  | clearChanges l n => exact h.same (refl.same rfl rfl rfl rfl rfl fun _ => id) rfl cfg h.store
  | reporting l r => exact h.same (refl.same rfl rfl rfl rfl rfl fun _ => id) rfl ⟨rfl, rfl, rfl, rfl, rfl, rfl⟩ h.store
  | moderation l _ => exact h.same (refl.same rfl rfl rfl rfl rfl fun _ => id) rfl cfg h.store
  | save _ => exact putStore_lamps h hok fun hg => (h.store hg).ask (h.sheds hg)
  | restart => exact ⟨h.lamps, h.sheds, h.store⟩
  | writeEnd how =>
    have hput : LampsSafe g k (putStore (s.store.endWrite how) s) := putStore_lamps h hok fun hg => (h.store hg).endWrite how
    simp only [noteFailure]
    split
    · exact hput
    · refine ⟨hput.lamps.calm (Calm.raise (PlantIn.calm (off := outOff s.env) ?_)) rfl, hput.sheds, hput.store⟩
      exact (putStore_eased hok.eased).ok
  | boot pins cut b => exact bootState_lamps _ _ _ _ fun hg c hc => (h.store hg).1 c (cut_image hc)
  | place l w _ =>
    exact h.settled (placeOrder_eased eased) (.of placeOrder_cfg)
      fun hg => placeOrder_store (P := StoreSheds) (h.store hg) (h.store hg).lockWrite
  | amend l mask m r v o _ _ _ =>
    simp only [acceptAmend]
    split
    · refine h.settled ?_ ?_ ?_
      · split
        · exact eased.same rfl rfl rfl
        · exact resolve_eased (eased.same rfl rfl rfl)
      · refine .of ?_
        split <;> rfl
      · split <;> exact h.store
    · exact h
  | withdraw o _ _ =>
    refine h.settled ?_ ?_ ?_
    · split
      · exact putStore_eased (resolve_eased (removeOrders_eased eased))
      · exact resolve_eased (removeOrders_eased eased)
    · refine .of ?_
      split
      · rw [askLockoutWrite_env]
        rfl
      · rfl
    · split
      · rw [askLockoutWrite, putStore_store]
        exact fun hg => (h.store hg).lockWrite _
      · exact h.store
  | authority body k m _ => exact h.settled (standDown_eased eased) ⟨rfl, rfl, rfl, rfl, rfl, rfl⟩ h.store
  | orderExpiry o _ _ => exact h.settled (resolve_eased (removeOrders_eased eased)) cfg h.store
  | keyOn k _ _ => exact h.settled (resolve_eased (eased.same rfl rfl rfl)) cfg h.store
  | keyOff k => exact h.settled (resolve_eased (removeOrders_eased eased)) cfg h.store
  | service u v _ _ => exact changeService_lamps hok h
  | pumpSettings i v hout _ => exact pumpSettings_lamps hok h hout
  | zoneSettings z v hout hv => exact zoneSettings_lamps hok h hout hv
  | sample u a b =>
    refine h.settled ?_ ?_ ?_
    · split
      · exact latchSump_eased (takeSection_eased eased)
      · exact takeSection_eased eased
    · split
      · rw [latchSump_env]
        exact taken.1
      · exact taken.1
    · split
      · rw [latchSump_store, taken.2]
        exact h.store
      · rw [taken.2]
        exact h.store
  | floatEnd u f v => exact h.settled (takeSection_eased eased) taken.1 (by rw [taken.2]; exact h.store)
  | holdEnd u => exact h.settled (takeSection_eased eased) taken.1 (by rw [taken.2]; exact h.store)
  | group u n body g _ _ => exact takeGroup_lamps hok h
  | restartSection u =>
    refine h.settled (restartSump_eased eased) (.of restartSump_cfg) ?_
    rw [restartSump, (takeSection_frame ..).2.2.1]
    exact h.store
  | ring u l _ => exact h.settled (eased.same rfl rfl rfl) ⟨rfl, rfl, rfl, rfl, rfl, rfl⟩ h.store

end Acts

/-! ### The guards and the budget -/

/-- What O57 says of a state, beside the pumps in order. -/
structure GuardSafe (s : State) : Prop where
  pumps : PumpsSafe False False True s
  portals : PortalsSafe s
  lamps : LampsSafe False True s

theorem SameCore.guardSafe {s t : State} (hc : SameCore s t) (h : GuardSafe s) : GuardSafe t := by
  obtain ⟨_, _, rfl⟩ := hc
  exact ⟨h.pumps, ⟨h.portals.portals⟩, h.lamps.lamps, nofun, nofun⟩

theorem Act.guardSafe {s t : State} (h : GuardSafe s) (ha : Act s t) : GuardSafe t :=
  ⟨ha.pumpsSafe h.pumps, ha.portals h.portals, ha.lamps h.pumps.ok nofun h.lamps⟩

/-- A locked portal drives no motor. -/
theorem PortalStill.motor {q : Portal} (h : PortalStill q) : q.motor = none := by simp [Portal.motor, h.1]

theorem guardSafe_iff {s : State} (hp : PumpsOk s) (hq : QueueOk s) : PortalsOk s ∧ LockedStill s ↔ GuardSafe s := by
  constructor
  · rintro ⟨hportals, hpump, -, hzone⟩
    refine ⟨⟨⟨fun i => ?_, nofun, hq, nofun⟩, nofun, fun _ => hpump⟩, ⟨hportals⟩, ⟨nofun, nofun, fun _ => hzone, nofun⟩, nofun, nofun⟩
    obtain ⟨h1, h2, h3, h4⟩ := hp i
    exact ⟨h1, h2, h3, h4, fun _ => nofun⟩
  · intro h
    exact ⟨h.portals.portals, h.pumps.still trivial, fun i hl => ((h.portals.portals i).2 hl).motor, h.lamps.lamps.still trivial⟩

/-- Settles O57: every act keeps the portals' guards and what is locked still. -/
theorem guardInvariantKept : Obligations.GuardInvariantKept := by
  intro s t _ _ hpumps hqueue hportals hstill hstep
  have h : GuardSafe t := step_keeps (P := GuardSafe) (Q := GuardSafe) SameCore.guardSafe SameCore.guardSafe
    (fun hs ha => ha.guardSafe hs) ((guardSafe_iff hpumps hqueue).mp ⟨hportals, hstill⟩) hstep
  exact ⟨h.portals.portals, h.pumps.still trivial, fun i hl => ((h.portals.portals i).2 hl).motor, h.lamps.lamps.still trivial⟩

/-- What O58 says of a state, beside the pumps in order. -/
structure BudgetSafe (s : State) : Prop where
  pumps : PlantIn True (outOff s.env) s.plant
  portals : PortalsSafe s
  lamps : LampsSafe True False s

/-- A portal out of service holds no permit (R115). -/
theorem PortalOk.outPermit {e : Env} {i : PortalId} {q : Portal} (h : PortalOk e i q) (hs : e.cfg.portalService.get i = .outOfService) :
    q.permit = false := by
  obtain ⟨-, hout, -, -, hwants, -, -⟩ := h
  by_contra hp
  exact hwants (by simpa using hp) (by simp [Portal.wantsMotor, hout.mp hs])

theorem SameCore.budgetSafe {s t : State} (hc : SameCore s t) (h : BudgetSafe s) : BudgetSafe t := by
  obtain ⟨_, _, rfl⟩ := hc
  exact ⟨h.pumps, ⟨h.portals.portals⟩, h.lamps.lamps, h.lamps.sheds, h.lamps.store⟩

theorem Act.budgetSafe {s t : State} (h : BudgetSafe s) (ha : Act s t) : BudgetSafe t := by
  have hpumps : PumpsSafe True False False s := ⟨h.pumps, fun _ => nofun, nofun⟩
  exact ⟨(ha.pumpsSafe hpumps).ok, ha.portals h.portals,
    ha.lamps h.pumps (fun _ i hs => (h.portals.portals i).1.outPermit hs) h.lamps⟩

theorem BudgetSafe.loadOk {s : State} (h : BudgetSafe s) : LoadOk s := by
  obtain ⟨himage, hin, hwait⟩ := h.lamps.store trivial
  exact ⟨h.lamps.lamps.load trivial, (h.lamps.lamps.fits trivial).2, h.lamps.sheds trivial, himage, hin, hwait, h.lamps.lamps.out trivial,
    fun i hs => (h.portals.portals i).1.outPermit hs⟩

theorem budgetSafe_of {s : State} (hpumps : PumpsOk s) (hqueue : QueueOk s) (hnoted : GrantsNoted s) (hportals : PortalsOk s) (hload : LoadOk s) :
    BudgetSafe s := by
  obtain ⟨hmax, hshed, hsheds, himage, hin, hwait, hout, -⟩ := hload
  refine ⟨plantIn_iff.mpr ⟨hpumps, hqueue, hnoted⟩, ⟨hportals⟩, ⟨fun _ => ⟨?_, hshed⟩, fun _ => hmax, nofun, fun _ => hout⟩, fun _ => hsheds,
    fun _ => ⟨himage, hin, hwait⟩⟩
  exact (Nat.le_add_right ..).trans hmax

/-- Even with every output at the greater of itself and its allowance the load fits; so it fits as it is (R102). -/
theorem LoadOk.budgetOk {s : State} (h : LoadOk s) : BudgetOk s := by
  obtain ⟨hmax, -⟩ := h
  refine le_trans ?_ hmax
  refine Nat.add_le_add_left (List.sum_le_sum fun z _ => ?_) _
  exact zoneLoad_mono (Nat.le_max_left ..)

/-- Settles O58: every act keeps the load within the budget. -/
theorem budgetInvariantKept : Obligations.BudgetInvariantKept := by
  intro s t _ _ hpumps hqueue hnoted hportals hload hstep
  have h : BudgetSafe t := step_keeps (P := BudgetSafe) (Q := BudgetSafe) SameCore.budgetSafe SameCore.budgetSafe
    (fun hs ha => ha.budgetSafe hs) (budgetSafe_of hpumps hqueue hnoted hportals hload) hstep
  exact ⟨h.loadOk, h.loadOk.budgetOk⟩

end Sys2Proof.Machine

/-! Sets of alert causes, and what the Attention Unit's operations do to the causes present and to their counts (R174, R175, R178). -/

namespace Sys2Proof.Machine

/-! ### Sets of causes -/

section CauseSets
variable {c d : Cause} {v w : Word16}

theorem Cause.every_index (c : Cause) : Cause.every[c.index.val]? = some c := by cases c <;> rfl

theorem Cause.index_inj : c.index = d.index ↔ c = d :=
  ⟨fun h => Option.some.inj (by rw [← c.every_index, ← d.every_index, h]), fun h => h ▸ rfl⟩

@[simp] theorem Cause.mem_every (c : Cause) : c ∈ Cause.every := by cases c <;> decide

@[simp] theorem Cause.isIn_zero : c.isIn 0 = false := by simp [Cause.isIn]

@[simp] theorem Cause.isIn_or : c.isIn (v ||| w) = (c.isIn v || c.isIn w) := BitVec.getLsbD_or

@[simp] theorem Cause.isIn_and : c.isIn (v &&& w) = (c.isIn v && c.isIn w) := BitVec.getLsbD_and

@[simp] theorem Cause.isIn_not : c.isIn (~~~v) = !c.isIn v := by simp [Cause.isIn]

@[simp] theorem Cause.isIn_bit : c.isIn d.bit = decide (c = d) := by
  simp only [Cause.isIn, Cause.bit, BitVec.getLsbD_shiftLeft, BitVec.getLsbD_one]
  by_cases h : c = d
  · subst h
    simp
  · have hne : c.index.val ≠ d.index.val := fun hi => h (Cause.index_inj.mp (Fin.ext hi))
    rw [decide_eq_false h]
    simp
    omega

theorem Cause.isIn_ite {p : Prop} [Decidable p] : c.isIn (if p then v else w) = if p then c.isIn v else c.isIn w := by split <;> rfl

@[simp] theorem Cause.isIn_causeSet {l : List Cause} : c.isIn (causeSet l) = l.contains c := by
  have : ∀ (l : List Cause) (w : Word16), c.isIn (l.foldl (fun w c => w ||| c.bit) w) = (c.isIn w || l.contains c) := by
    intro l
    induction l with
    | nil => exact fun w => by simp
    | cons d l ih => exact fun w => by rw [List.foldl_cons, ih, Cause.isIn_or, Cause.isIn_bit, Bool.or_assoc]; simp
  rw [causeSet, this, Cause.isIn_zero, Bool.false_or]

@[simp] theorem Cause.isIn_latchedMask : c.isIn latchedMask = c.latched := by
  rw [latchedMask, Cause.isIn_causeSet]
  cases h : c.latched <;> simp [h]

end CauseSets

/-! ### The causes present and their counts -/

section Present
variable {a : Attention} {now : Nat} {masks w : Word16} {c d : Cause} {k : RecordKey} {why : Option Reason}

@[simp] theorem report_present : (a.report now k why).present = a.present := rfl

@[simp] theorem setRelay_present : (a.setRelay masks).present = a.present := rfl

@[simp] theorem raise_isIn : d.isIn (a.raise now masks c).present = (d.isIn a.present || decide (d = c)) := by simp [Attention.raise]

theorem conditions_isIn : c.isIn (a.conditions now masks w).present = if c.latched then c.isIn a.present else c.isIn w := by
  simp only [Attention.conditions]
  split
  · rename_i h
    have hc := congrArg c.isIn h
    simp only [Cause.isIn_or, Cause.isIn_and, Cause.isIn_not, Cause.isIn_latchedMask] at hc
    cases hl : c.latched with
    | true => rfl
    | false => simpa [hl] using hc.symm
  · cases hl : c.latched <;> simp [hl]

theorem count_setCount {n : Nat} : (a.setCount c n).count d = if d = c then n else a.count d := by
  simp only [Attention.count, Attention.setCount, Vector.getElem_set]
  by_cases h : d = c
  · subst h
    simp
  · have : ¬c.index.val = d.index.val := fun hi => h (Cause.index_inj.mp (Fin.ext hi)).symm
    simp [h, this]

theorem count_report : (a.report now k why).count d = a.count d := rfl

theorem count_setRelay : (a.setRelay masks).count d = a.count d := rfl

theorem count_raise : (a.raise now masks c).count d = if d = c then min 255 (a.count c + 1) else a.count d := by
  rw [Attention.raise, count_setRelay, count_report, count_setCount]
  rfl

theorem count_conditions : (a.conditions now masks w).count d = a.count d := by
  simp only [Attention.conditions]
  split <;> rfl

/-! ### A PLANT entry (R174, R179) -/

/-- The changed set has the PLANT record's entry, or has overflowed since. -/
def ChangedSet.notesPlant (c : ChangedSet) : Prop := c.overfull = true ∨ ∃ x ∈ c.entries, x.key = .plant

theorem ChangedSet.notesPlant_take {c : ChangedSet} (h : c.notesPlant) : (c.take now k why).notesPlant := by
  simp only [ChangedSet.take]
  split
  · refine h.imp id fun ⟨x, hx, hk⟩ => ⟨_, List.mem_map.mpr ⟨x, hx, rfl⟩, ?_⟩
    split <;> exact hk
  · split
    · exact .inl rfl
    · exact h.imp id fun ⟨x, hx, hk⟩ => ⟨x, List.mem_append_left _ hx, hk⟩

theorem ChangedSet.notesPlant_plant {c : ChangedSet} : (c.take now .plant why).notesPlant := by
  simp only [ChangedSet.take]
  split
  · rename_i h
    obtain ⟨x, hx, hk⟩ := List.any_eq_true.mp h
    refine .inr ⟨_, List.mem_map.mpr ⟨x, hx, rfl⟩, ?_⟩
    split <;> exact beq_iff_eq.mp hk
  · split
    · exact .inl rfl
    · exact .inr ⟨_, List.mem_append_right _ (List.mem_singleton_self _), rfl⟩

/-- Both changed sets have it. -/
def Attention.notesPlant (a : Attention) : Prop := ∀ l : Link, (a.sets.get l).notesPlant

theorem Attention.notesPlant_report (h : a.notesPlant) : (a.report now k why).notesPlant := by
  intro l
  cases l
  · exact ChangedSet.notesPlant_take (h .field)
  · exact ChangedSet.notesPlant_take (h .panel)

theorem Attention.notesPlant_plant : (a.report now .plant why).notesPlant := by
  intro l
  cases l <;> exact ChangedSet.notesPlant_plant

theorem raise_notesPlant : (a.raise now masks c).notesPlant := Attention.notesPlant_plant

/-- A change of the condition causes is noted. -/
theorem conditions_notesPlant (h : a.notesPlant) : (a.conditions now masks w).notesPlant := by
  simp only [Attention.conditions]
  split
  · exact h
  · exact Attention.notesPlant_plant

theorem conditions_change (h : (a.conditions now masks w).present ≠ a.present) : (a.conditions now masks w).notesPlant := by
  simp only [Attention.conditions] at h ⊢
  split at h
  · exact absurd rfl h
  · rw [if_neg ‹_›]
    exact Attention.notesPlant_plant

end Present

/-! ### The condition causes (R174) -/

section Conditions
variable {e : Env} {p : Plant}

/-- The condition of each condition cause. -/
def conditionHolds (e : Env) (p : Plant) : Cause → Bool
  | .stageSevere => e.underpass == 4
  | .stageFlood => decide (3 ≤ e.underpass)
  | .supplyNotGrid => p.arb.supply != .grid
  | .sensorSingle => SumpId.every.any (fun u => (e.sumps.get u).mode == .single)
  | .luminanceLost => e.windows.east.lost || e.windows.west.lost
  | .lockoutPresent => e.table.any (fun o => o.rank == .lockout)
  | _ => false

theorem conditionBits_isIn {c : Cause} : c.isIn (conditionBits e p) = conditionHolds e p c := by
  simp only [conditionBits, Cause.isIn_or, Cause.isIn_ite, Cause.isIn_bit, Cause.isIn_zero]
  cases c with
  | supplyNotGrid =>
    by_cases h : p.arb.supply = .grid <;> simp [conditionHolds, h]
  | stageSevere => by_cases h : e.underpass = 4 <;> simp [conditionHolds, h]
  | sensorSingle =>
    cases h : SumpId.every.any (fun u => (e.sumps.get u).mode == .single) <;> simp only [conditionHolds, h] <;> simp
  | lockoutPresent =>
    cases h : e.table.any (fun o => o.rank == .lockout) <;> simp only [conditionHolds, h] <;> simp
  | _ => simp [conditionHolds]

/-- When the conditions have been refreshed, a condition cause is present exactly while its condition holds. -/
theorem refreshConditions_isIn {c : Cause} :
    c.isIn (refreshConditions e p).attn.present = if c.latched then c.isIn p.attn.present else conditionHolds e p c := by
  rw [← conditionBits_isIn]
  exact conditions_isIn

end Conditions

end Sys2Proof.Machine

/-! Start-up (R189 to R191), the invariants at reset, and every run from there. -/

namespace Sys2Proof.Machine

/-! ### What start-up leaves -/

section StartUp
variable (pins : Inputs) (b : BootIn) (x : Store) (pd : List Instr) (lines : PerLink (List LineChar))

theorem reset_bootState : bootState idlePins ⟨0, .succeeded⟩ State.reset.store [] State.reset.links.lines = State.reset := rfl

theorem bootConfig_eq (t : Store) : bootConfig t =
    if t.lockArea.isSome then t.image.getD factoryDefaults
    else { t.image.getD factoryDefaults with
      pumpService := .all .outOfService, portalService := .all .outOfService, zoneService := .all .outOfService } := rfl

/-- Resolution changes the governance of orders alone (R10). -/
theorem resolveTable_outranked (c : WorkConfig) (us : List UnitId) (l : List Order) :
    (resolveTable c us l).map (fun o => { o with governance := Governance.outranked }) =
      l.map (fun o => { o with governance := Governance.outranked }) := by
  rw [resolveTable, List.map_map]
  refine List.map_congr_left fun o _ => ?_
  simp only [Function.comp]
  split <;> rfl

/-- The causes that start-up raises are those of the areas that failed (R190). -/
theorem bootState_cause {c : Cause} (hc : c = .configLost ∨ c = .locksLost) :
    c.isIn (bootState pins b x pd lines).plant.attn.present = (bootRaised b.clearing x).contains c := by
  have hcond : conditionHolds (bootEnv pins x) (bootPlant (bootEnv pins x)) c = false := by
    obtain rfl | rfl := hc <;> rfl
  simp only [bootState, bootAttention, (foldl_setCount _ 1 _).1, Cause.isIn_or, Cause.isIn_causeSet, conditionBits_isIn, hcond, Bool.or_false]

omit x in
theorem bootRaised_causes {how : WriteEnd} {x : Store} : (bootRaised how x).contains .configLost = x.image.isNone ∧
    (bootRaised how x).contains .locksLost = x.lockArea.isNone := by
  simp only [bootRaised]
  by_cases h : how = .succeeded <;> cases x.image <;> cases x.lockArea <;> simp [h]

theorem bootPlant_frame (e : Env) : (bootPlant e).units = bootUnits e ∧ (bootPlant e).pumps = .all freshPump ∧
    (bootPlant e).arb = bootArbiter e.pins ∧
    (bootPlant e).duty = ⟨freshDuty (e.ring .c).length, freshDuty (e.ring .e).length, freshDuty (e.ring .w).length⟩ := by
  refine ⟨lampPass_units, lampPass_pumps, lampPass_arb, ?_⟩
  exact (lampPass_wrote (e := e) .refl).stands (f := Plant.duty) fun q w hw => by
    cases w with
    | zone z r => exact putZone_duty ..
    | _ => exact hw.elim

/-- Settles O4. -/
theorem startUpGivesFreshState : Obligations.StartUpGivesFreshState := by
  refine ⟨?_, fun pins cut b s => ⟨_, rfl, ?_⟩⟩
  · rintro ⟨pd, e, p, links, store⟩ rfl rfl hlines
    change links.lines = _ at hlines
    simp only [exec, execStartUp]
    rw [hlines]
    rfl
  · generalize hx : s.store.cut cut = x
    obtain ⟨hunits, hpumps, harb, hduty⟩ := bootPlant_frame (bootEnv pins x)
    have hplant : (bootState pins b x s.pending s.links.lines).plant = { bootPlant (bootEnv pins x) with
        attn := bootAttention (bootEnv pins x) (bootPlant (bootEnv pins x)) (bootRaised b.clearing x) } := rfl
    refine ⟨rfl, rfl, rfl, bootConfig_eq x, ?_, rfl, rfl, ?_, rfl, rfl, ?_, ?_, ?_, ?_, ?_, ?_, ?_, ?_, ?_, ?_, ?_, rfl, rfl, rfl, rfl, rfl, rfl, rfl⟩
    · change (bootTable (bootConfig x) x).map _ = _
      rw [bootTable, resolveTable_outranked, List.map_map]
      rfl
    · intro u
      cases u <;> exact ⟨rfl, rfl, rfl, rfl⟩
    · intro u
      rw [hplant]
      exact (congrArg (PerUnit.get · u) hunits).trans (bootUnits_get ..)
    · intro i
      rw [hplant]
      simp only [hpumps, PerPump.get_all]
      exact ⟨rfl, rfl, rfl⟩
    · intro u
      rw [hplant]
      simp only [hduty]
      cases u <;> exact ⟨rfl, rfl⟩
    · intro i
      rw [hplant]
      simp only [bootPlant_portal, bootPortal]
      split <;> exact ⟨rfl, rfl⟩
    · rw [hplant]
      simp only [harb]
      rfl
    · rw [hplant]
      simp only [harb]
      rfl
    · rw [hplant]
      simp only [harb]
      rfl
    · rw [hplant]
      simp only [bootAttention, (foldl_setCount _ 1 _).2.1]
      rfl
    · exact (bootState_cause _ _ _ _ _ (.inl rfl)).trans bootRaised_causes.1
    · exact (bootState_cause _ _ _ _ _ (.inr rfl)).trans bootRaised_causes.2
    · rw [hplant]
      simp only [bootAttention, (foldl_setCount _ 1 _).1]
      rfl

end StartUp

/-! ### The invariants -/

/-- Every invariant of the block together. -/
structure AllSafe (s : State) : Prop where
  attention : AttentionOk s
  stages : StagesIn s.env
  orders : OrdersOk s
  rings : RingsOk s
  pumps : PumpsSafe True True True s
  portals : PortalsSafe s
  lamps : LampsSafe True True s

theorem reset_image {c : WorkConfig} (h : State.reset.store.image = some c) : c = factoryDefaults := (Option.some.inj h).symm

theorem reset_locks {l : List StoredLock} (h : State.reset.store.lockArea = some l) : l = [] := (Option.some.inj h).symm

theorem reset_storeLocks : StoreLocks State.reset.store := by
  have hin : State.reset.store.inProgress = none := rfl
  have hwait : State.reset.store.waiting = none := rfl
  refine ⟨fun l hl => ?_, by simp [hin], by simp [hwait], fun c hc => reset_image hc ▸ factoryDefaults_field⟩
  rw [reset_locks hl]
  exact ⟨Nat.zero_le _, List.nodup_nil, by simp, List.nodup_nil⟩

theorem reset_allSafe : AllSafe State.reset := by
  rw [← reset_bootState]
  refine ⟨bootState_attentionOk .., bootState_stages .., bootState_ordersOk _ _ _ _ reset_storeLocks, bootState_ringsOk _ _ _ _ fun c hc => ?_,
    bootState_pumps .., bootState_portals .., bootState_lamps _ _ _ _ fun _ c hc => ?_⟩
  · exact reset_image hc ▸ factoryDefaults_rings
  · exact reset_image hc ▸ factoryDefaults_sheds

theorem SameCore.allSafe {s t : State} (hc : SameCore s t) (h : AllSafe s) : AllSafe t := by
  obtain ⟨_, _, rfl⟩ := hc
  exact ⟨h.attention, h.stages, ⟨h.orders.table, h.orders.store, h.orders.governed⟩, h.rings, h.pumps, ⟨h.portals.portals⟩,
    h.lamps.lamps, h.lamps.sheds, h.lamps.store⟩

theorem Act.allSafe {s t : State} (h : AllSafe s) (ha : Act s t) : AllSafe t :=
  ⟨ha.attentionOk h.attention, ha.stages h.stages, ha.ordersOk h.orders, ha.ringsOk h.rings, ha.pumpsSafe h.pumps, ha.portals h.portals,
    ha.lamps h.pumps.ok (fun _ i hs => (h.portals.portals i).1.outPermit hs) h.lamps⟩

theorem AllSafe.budgetSafe {s : State} (h : AllSafe s) : BudgetSafe s :=
  ⟨h.pumps.ok, h.portals, ⟨h.lamps.lamps.fits, h.lamps.lamps.load, nofun, h.lamps.lamps.out⟩, h.lamps.sheds, h.lamps.store⟩

theorem AllSafe.lockedStill {s : State} (h : AllSafe s) : LockedStill s :=
  ⟨h.pumps.still trivial, fun i hl => ((h.portals.portals i).2 hl).motor, h.lamps.lamps.still trivial⟩

/-- Settles O59. -/
theorem invariantsHoldAtReset : Obligations.InvariantsHoldAtReset := by
  have h := reset_allSafe
  obtain ⟨htable, hgoverned⟩ := ordersOk_iff.mp h.orders
  obtain ⟨hpumps, hqueue, hnoted⟩ := plantIn_iff.mp h.pumps.ok
  exact ⟨h.attention.1, h.attention.2, ⟨fun u => sectionOk_iff.mpr (h.stages.sections u), h.stages.underpass⟩,
    ⟨h.stages.underpass, h.stages.yields⟩, htable, hgoverned, h.rings, hpumps, hqueue, hnoted, h.pumps.limit trivial trivial,
    h.portals.portals, h.lockedStill, h.budgetSafe.loadOk, h.budgetSafe.loadOk.budgetOk⟩

/-! ### Every run -/

/-- A gate driven closed stands behind its barrier and a RED signal (R42). -/
theorem PortalOk.gateGuarded {e : Env} {i : PortalId} {q : Portal} (h : PortalOk e i q) (hm : q.motor = some .gateClose) :
    (e.portalPins i).barrierLowered = true ∧ q.signal = .red := by
  refine ⟨h.2.2.2.2.2.1 hm, ?_⟩
  obtain ⟨-, -, haspect, hred, -⟩ := h
  by_cases hq : q.seq = .hand
  · exact hred hq ((hand_motor hq).1.mp hm).2
  · exact haspect .red (by rw [((motor_gateClose hq).mp hm).2]; rfl)

theorem AllSafe.safe {s : State} (h : AllSafe s) : Safe s :=
  ⟨h.budgetSafe.loadOk.budgetOk, fun i => (h.portals.portals i).1.gateGuarded, h.lockedStill, h.pumps.limit trivial trivial⟩

/-- A step answers a next state and keeps every invariant. -/
theorem step_allSafe {s : State} (h : AllSafe s) : ∃ t, step s = .next t ∧ AllSafe t := by
  obtain ⟨t, -, ht, -⟩ := step_acted s
  exact ⟨t, ht, step_keeps (P := AllSafe) (Q := AllSafe) SameCore.allSafe SameCore.allSafe (fun hs ha => ha.allSafe hs) h ht⟩

theorem run_allSafe (n : Nat) : ∀ {s : State}, AllSafe s → ∃ t, Host.Core.run core n s = .next t ∧ AllSafe t := by
  induction n with
  | zero => exact fun {s} h => ⟨s, rfl, h⟩
  | succ n ih =>
    intro s h
    obtain ⟨t, ht, hsafe⟩ := step_allSafe h
    obtain ⟨t', hrun, hsafe'⟩ := ih hsafe
    refine ⟨t', ?_, hsafe'⟩
    simp only [Host.Core.run]
    rw [show core.step s = .next t from ht]
    exact hrun

theorem runSchedule_allSafe (l : List Arrival) : ∀ {s : State}, AllSafe s → ∃ t, runSchedule l s = .next t ∧ AllSafe t := by
  induction l with
  | nil => exact fun {s} h => ⟨s, rfl, h⟩
  | cons a l ih =>
    intro s h
    obtain ⟨t, ht, hsafe⟩ := run_allSafe a.steps h
    have harrive : AllSafe (t.arrive a) := SameCore.allSafe ⟨_, _, rfl⟩ hsafe
    obtain ⟨t', hrun, hsafe'⟩ := ih harrive
    exact ⟨t', by simp only [runSchedule, ht, hrun], hsafe'⟩

/-- Settles O60: every step keeps the invariants that hold at reset. -/
theorem everyRunFromResetIsSafe : Obligations.EveryRunFromResetIsSafe := fun schedule => by
  obtain ⟨t, ht, h⟩ := runSchedule_allSafe schedule reset_allSafe
  exact ⟨t, ht, h.safe⟩

end Sys2Proof.Machine

/-! The blocks that act after an event (log 19), and governance by rank and place (R9, R11, R33). -/

namespace Sys2Proof.Machine

/-! ### What the plant's blocks leave (R174, log 19) -/

section Blocks
variable {e : Env} {a p : Plant} {s : State}

/-- From `a` to `p` the causes present have only grown, by PUMP_FAULT and GATE_JAMMED, and each growth is noted. -/
structure CausesGrown (a p : Plant) : Prop where
  keeps : ∀ c : Cause, c.isIn a.attn.present = true → c.isIn p.attn.present = true
  counts : ∀ c : Cause, c ≠ .pumpFault → c ≠ .gateJammed → p.attn.count c = a.attn.count c
  noted : p.attn.present = a.attn.present ∨ p.attn.notesPlant

theorem CausesGrown.attn (h : CausesGrown a p) {q : Plant} (hq : q.attn = p.attn ∨ ∃ k, q.attn = p.attn.report e.clock k none) : CausesGrown a q := by
  obtain ⟨h1, h2, h3⟩ := h
  obtain hq | ⟨k, hq⟩ := hq
  · exact ⟨by rwa [hq], by rwa [hq], by rwa [hq]⟩
  · refine ⟨by rwa [hq], fun c hp hj => ?_, ?_⟩
    · rw [hq, count_report]
      exact h2 c hp hj
    · rw [hq]
      exact h3.imp id Attention.notesPlant_report

theorem CausesGrown.raise (h : CausesGrown a p) {c : Cause} (hc : c = .pumpFault ∨ c = .gateJammed) : CausesGrown a (raiseCause e c p) := by
  obtain ⟨h1, h2, h3⟩ := h
  refine ⟨fun d hd => ?_, fun d hp hj => ?_, .inr raise_notesPlant⟩
  · change d.isIn (p.attn.raise e.clock e.cfg.masks c).present = true
    rw [raise_isIn, h1 d hd, Bool.true_or]
  · change (p.attn.raise e.clock e.cfg.masks c).count d = _
    rw [count_raise, if_neg, h2 d hp hj]
    rintro rfl
    exact hc.elim hp hj

theorem putPump_attn {i : PumpId} {q : Pump} : (putPump e i q p).attn = p.attn ∨ ∃ k, (putPump e i q p).attn = p.attn.report e.clock k none := by
  simp only [putPump]
  split
  · exact .inl rfl
  · exact .inr ⟨_, rfl⟩

theorem putPortal_attn {i : PortalId} {q : Portal} :
    (putPortal e i q p).attn = p.attn ∨ ∃ k, (putPortal e i q p).attn = p.attn.report e.clock k none := by
  simp only [putPortal]
  split
  · exact .inl rfl
  · exact .inr ⟨_, rfl⟩

theorem putZone_attn {z : ZoneId} {q : Zone} : (putZone e z q p).attn = p.attn ∨ ∃ k, (putZone e z q p).attn = p.attn.report e.clock k none := by
  simp only [putZone]
  split
  · exact .inl rfl
  · exact .inr ⟨_, rfl⟩

/-- The blocks acknowledge nothing and raise no other cause. -/
theorem blocksAct_causes : CausesGrown p (blocksAct e p) := by
  refine (blocksAct_wrote (e := e) .refl).induct (P := CausesGrown p) (fun q w hw h => ?_) ⟨fun _ => id, fun _ _ _ => rfl, .inl rfl⟩
  cases w with
  | pump i r => exact h.attn putPump_attn
  | portal i r => exact h.attn putPortal_attn
  | zone z r => exact h.attn putZone_attn
  | join u =>
    refine h.attn (e := e) (.inl ?_)
    simp only [PlantWrite.run, joinQueue]
    split <;> rfl
  | drop u => exact h.attn (e := e) (.inl rfl)
  | note u => exact h.attn (e := e) (.inl rfl)
  | lead u => exact h.attn (e := e) (.inl rfl)
  | spacing t => exact h.attn (e := e) (.inl rfl)
  | raise c => exact h.raise hw

/-- The blocks act, and the conditions are refreshed last. -/
theorem settlePlant_causes {c : Cause} : c.isIn (settlePlant e p).attn.present =
    if c.latched then c.isIn (blocksAct e p).attn.present else conditionHolds e (blocksAct e p) c := refreshConditions_isIn

theorem settlePlant_noted (h : (settlePlant e p).attn.present ≠ p.attn.present) : (settlePlant e p).attn.notesPlant := by
  obtain ⟨-, -, hnoted⟩ := blocksAct_causes (e := e) (p := p)
  by_cases hcond : (settlePlant e p).attn.present = (blocksAct e p).attn.present
  · exact conditions_notesPlant (hnoted.resolve_left fun hb => h (hcond.trans hb))
  · exact conditions_change hcond

/-- What the blocks may not write stands. -/
theorem blocksAct_arb : (blocksAct e p).arb.supply = p.arb.supply ∧ (blocksAct e p).arb.transfer = p.arb.transfer := by
  constructor
  · refine (blocksAct_wrote (e := e) .refl).stands (f := fun q => q.arb.supply) fun q w _ => ?_
    cases w <;> simp [PlantWrite.run]
  · refine (blocksAct_wrote (e := e) .refl).stands (f := fun q => q.arb.transfer) fun q w _ => ?_
    cases w <;> simp [PlantWrite.run]

theorem blocksAct_latches (u : SumpId) : ((blocksAct e p).duty.get u).latches = (p.duty.get u).latches := by
  refine (blocksAct_wrote (e := e) .refl).stands (f := fun q => (q.duty.get u).latches) fun q w _ => ?_
  cases w with
  | lead v =>
    simp only [PlantWrite.run, advanceLead]
    by_cases hv : u = v
    · subst hv
      simp
    · simp [PerSump.get_set_ne _ _ hv]
  | _ => simp [PlantWrite.run]

theorem blocksAct_zone (z : ZoneId) : ((blocksAct e p).zones.get z).deficit = (p.zones.get z).deficit ∧
    ((blocksAct e p).zones.get z).flag = (p.zones.get z).flag ∧ ((blocksAct e p).zones.get z).hand = (p.zones.get z).hand := by
  have h := (blocksAct_wrote (e := e) (a := p) .refl).stands
    (f := fun q => ((q.zones.get z).deficit, (q.zones.get z).flag, (q.zones.get z).hand)) fun q w hw => by
      cases w with
      | zone y r =>
        simp only [PlantWrite.run, putZone_zones]
        by_cases hy : z = y
        · subst hy
          obtain ⟨h1, h2, h3⟩ := hw
          simp [h1, h2, h3]
        · simp [PerZone.get_set_ne _ _ hy]
      | _ => simp [PlantWrite.run]
  simpa using h

/-- Settles O12. -/
theorem plantBlocksStayInThePlant : Obligations.PlantBlocksStayInThePlant := by
  intro s
  obtain ⟨hkeeps, hcounts, -⟩ := blocksAct_causes (e := s.env) (p := s.plant)
  obtain ⟨hsupply, htransfer⟩ := blocksAct_arb (e := s.env) (p := s.plant)
  have hcond (c : Cause) (hl : c.latched = false) :
      c.isIn (settlePlant s.env s.plant).attn.present = conditionHolds s.env s.plant c := by
    rw [settlePlant_causes, hl]
    cases c <;> simp only [conditionHolds, hsupply, Bool.false_eq_true, if_false]
  refine ⟨rfl, rfl, rfl, rfl, (blocksAct_wrote .refl).units, hsupply, htransfer, blocksAct_latches, blocksAct_zone, fun c hl hc => ?_,
    fun c hp hj => ?_, ⟨?_, ?_, ?_, ?_, ?_, ?_⟩, fun c hc k => ?_⟩
  · change c.isIn (settlePlant s.env s.plant).attn.present = true
    rw [settlePlant_causes, if_pos hl]
    exact hkeeps c hc
  · change (settlePlant s.env s.plant).attn.count c = _
    rw [← hcounts c hp hj]
    exact count_conditions
  · change Cause.isIn _ (settlePlant s.env s.plant).attn.present = true ↔ _
    rw [hcond _ rfl]
    simp [conditionHolds]
  · change Cause.isIn _ (settlePlant s.env s.plant).attn.present = true ↔ _
    rw [hcond _ rfl]
    simp [conditionHolds]
  · change Cause.isIn _ (settlePlant s.env s.plant).attn.present = true ↔ _
    rw [hcond _ rfl]
    simp [conditionHolds]
  · change Cause.isIn _ (settlePlant s.env s.plant).attn.present = true ↔ _
    rw [hcond _ rfl]
    have hmem (u : SumpId) : u ∈ SumpId.every := by cases u <;> decide
    simp [conditionHolds, hmem]
  · change Cause.isIn _ (settlePlant s.env s.plant).attn.present = true ↔ _
    rw [hcond _ rfl]
    simp [conditionHolds]
  · change Cause.isIn _ (settlePlant s.env s.plant).attn.present = true ↔ _
    rw [hcond _ rfl]
    simp [conditionHolds]
  · exact settlePlant_noted (fun h => hc (congrArg c.isIn h)) k

end Blocks

/-! ### The governing order (R9) -/

/-- The better of the orders so far and one more, among those on the unit: the higher rank, and among equals the later. -/
def ahead (u : UnitId) (best : Option Order) (o : Order) : Option Order :=
  if o.unit == u then
    match best with
    | none => some o
    | some b => if b.rank.height ≤ o.rank.height then some o else some b
  else best

/-- The order stands in the list, none before it ranks higher, and all after it rank lower. -/
def Foremost (u : UnitId) (table : List Order) (o : Order) : Prop :=
  ∃ before after, table = before ++ o :: after ∧ o.unit = u ∧ (∀ x ∈ before, x.unit = u → x.rank.height ≤ o.rank.height) ∧
    ∀ x ∈ after, x.unit = u → x.rank.height < o.rank.height

section Governor
variable {u : UnitId} {c : WorkConfig} {table l : List Order} {o b : Order} {best : Option Order}

theorem governorOf_eq : governorOf table u = table.foldl (ahead u) none := List.foldl_filter ..

theorem ahead_other (h : o.unit ≠ u) : ahead u best o = best := if_neg (by simpa using h)

theorem ahead_mine (h : o.unit = u) : ahead u (some b) o = if b.rank.height ≤ o.rank.height then some o else some b :=
  if_pos (beq_iff_eq.mpr h)

theorem ahead_first (h : o.unit = u) : ahead u none o = some o := if_pos (beq_iff_eq.mpr h)

/-- What the fold ends with is foremost; with nothing, no order stands on the unit. -/
theorem foldl_ahead (table : List Order) : match table.foldl (ahead u) none with
    | some o => Foremost u table o
    | none => ∀ x ∈ table, x.unit ≠ u := by
  induction table using List.reverseRecOn with
  | nil => simp
  | append_singleton l x ih =>
    rw [List.foldl_append, List.foldl_cons, List.foldl_nil]
    by_cases hx : x.unit = u
    · cases hl : l.foldl (ahead u) none with
      | none =>
        rw [hl] at ih
        rw [ahead_first hx]
        exact ⟨l, [], rfl, hx, fun y hy hu => absurd hu (ih y hy), by simp⟩
      | some b =>
        rw [hl] at ih
        obtain ⟨before, after, rfl, hb, hbefore, hafter⟩ := ih
        rw [ahead_mine hx]
        by_cases hle : b.rank.height ≤ x.rank.height
        · rw [if_pos hle]
          refine ⟨before ++ b :: after, [], rfl, hx, fun y hy hu => ?_, by simp⟩
          rcases List.mem_append.mp hy with hy | hy
          · exact (hbefore y hy hu).trans hle
          · rcases List.mem_cons.mp hy with rfl | hy
            · exact hle
            · exact (hafter y hy hu).le.trans hle
        · rw [if_neg hle]
          refine ⟨before, after ++ [x], by simp, hb, hbefore, fun y hy hu => ?_⟩
          rcases List.mem_append.mp hy with hy | hy
          · exact hafter y hy hu
          · rw [List.mem_singleton.mp hy]
            omega
    · rw [ahead_other hx]
      split
      · rename_i o ho
        rw [ho] at ih
        obtain ⟨before, after, rfl, hb, hbefore, hafter⟩ := ih
        refine ⟨before, after ++ [x], by simp, hb, hbefore, fun y hy hu => ?_⟩
        rcases List.mem_append.mp hy with hy | hy
        · exact hafter y hy hu
        · exact absurd (List.mem_singleton.mp hy ▸ hu) hx
      · rename_i hn
        rw [hn] at ih
        intro y hy
        rcases List.mem_append.mp hy with hy | hy
        · exact ih y hy
        · exact List.mem_singleton.mp hy ▸ hx

/-- Lower ranks that follow leave the best as it is. -/
theorem foldl_ahead_lower (h : ∀ x ∈ l, x.unit = u → x.rank.height < o.rank.height) : l.foldl (ahead u) (some o) = some o := by
  induction l with
  | nil => rfl
  | cons x l ih =>
    have hx : ahead u (some o) x = some o := by
      by_cases hu : x.unit = u
      · rw [ahead_mine hu, if_neg]
        have := h x List.mem_cons_self hu
        omega
      · exact ahead_other hu
    rw [List.foldl_cons, hx]
    exact ih fun y hy => h y (List.mem_cons_of_mem _ hy)

/-- The governing order is the foremost one (R9). -/
theorem governorOf_iff : governorOf table u = some o ↔ Foremost u table o := by
  rw [governorOf_eq]
  constructor
  · intro h
    have := foldl_ahead (u := u) table
    rwa [h] at this
  · rintro ⟨before, after, rfl, hu, hbefore, hafter⟩
    have hfirst : ahead u (before.foldl (ahead u) none) o = some o := by
      have hfold := foldl_ahead (u := u) before
      cases hb : before.foldl (ahead u) none with
      | none => exact ahead_first hu
      | some b =>
        rw [hb] at hfold
        obtain ⟨l, l', rfl, hbu, -⟩ := hfold
        rw [ahead_mine hu, if_pos]
        exact hbefore b (by simp) hbu
    rw [List.foldl_append, List.foldl_cons, hfirst]
    exact foldl_ahead_lower hafter

theorem governorOf_none : governorOf table u = none ↔ ∀ x ∈ table, x.unit ≠ u := by
  constructor
  · intro h
    have := foldl_ahead (u := u) table
    rw [governorOf_eq] at h
    rwa [h] at this
  · intro h
    by_contra hn
    obtain ⟨o, ho⟩ := Option.ne_none_iff_exists'.mp hn
    obtain ⟨before, after, rfl, hu, -⟩ := governorOf_iff.mp ho
    exact h o (by simp) hu

theorem governorNumber_iff {n : Nat} : governorNumber c table u = some n ↔
    serviceOf c u = .inService ∧ ∃ o, Foremost u table o ∧ o.number = n := by
  simp only [governorNumber]
  split
  · rename_i hs
    rw [Option.map_eq_some_iff]
    simp only [governorOf_iff, hs, true_and]
  · rename_i hs
    simp [hs]

/-- A number that two places of a table share is one place. -/
theorem splits_unique {before after before' after' : List Order} {o o' : Order} (hn : ((before ++ o :: after).map Order.number).Nodup)
    (h : before ++ o :: after = before' ++ o' :: after') (ho : o'.number = o.number) : before = before' ∧ after = after' ∧ o = o' := by
  have hmem : o' ∈ before ++ o :: after := by rw [h]; simp
  obtain rfl : o' = o := List.inj_on_of_nodup_map hn hmem (by simp) ho
  rw [List.map_append, List.map_cons, List.nodup_append, List.nodup_cons] at hn
  obtain ⟨-, ⟨hafter, -⟩, hbefore⟩ := hn
  have hb : o' ∉ before := fun hb => hbefore o'.number (List.mem_map_of_mem hb) o'.number (by simp) rfl
  have ha : o' ∉ after := fun ha => hafter (List.mem_map_of_mem ha)
  obtain ⟨h1, h2, h3⟩ := (List.append_cons_inj_of_notMem hb ha).mp h
  exact ⟨h1, h3, h2⟩

/-- Settles O13. -/
theorem governanceIsByRankThenPlace : Obligations.GovernanceIsByRankThenPlace := by
  refine ⟨fun c before after o hn => ?_, fun c => rfl, by decide, fun c table u => ⟨?_, fun n => ?_, ?_⟩, fun c table u hs ho => ?_⟩
  · simp only [governanceOf]
    split
    · rfl
    · rename_i hs
      refine if_congr ?_ rfl rfl
      rw [governorNumber_iff]
      constructor
      · rintro ⟨-, o', ⟨before', after', h, -, hb, ha⟩, hnum⟩
        obtain ⟨rfl, rfl, rfl⟩ := splits_unique hn h hnum
        exact ⟨hb, ha⟩
      · rintro ⟨hb, ha⟩
        exact ⟨by simpa using hs, o, ⟨before, after, rfl, rfl, hb, ha⟩, rfl⟩
  · simp [unitRecOf, lockFlag]
  · change governorNumber c table u = some n ↔ _
    rw [governorNumber_iff]
    constructor
    · rintro ⟨hs, o, ⟨before, after, h, hu, hb, ha⟩, hnum⟩
      exact ⟨hs, before, o, after, h, hu, hnum, hb, ha⟩
    · rintro ⟨hs, before, o, after, h, hu, hnum, hb, ha⟩
      exact ⟨hs, o, ⟨before, after, h, hu, hb, ha⟩, hnum⟩
  · simp only [unitRecOf, sourceOf]
    cases serviceOf c u with
    | inService => rfl
    | inHand => rfl
    | outOfService => rfl
  · have hnone : governorOf table u = none := governorOf_none.mpr ho
    have hlock : lockFlag table u = false := by
      simp only [lockFlag, List.any_eq_false, Bool.and_eq_true, beq_iff_eq, not_and]
      exact fun x hx hu => absurd hu (ho x hx)
    simp [unitRecOf, governorNumber, hs, hnone, hlock, sourceOf]

end Governor

end Sys2Proof.Machine

/-! The queue, the idle step, and what every request has in common (0.7, R161, R162, R187). -/

namespace Sys2Proof.Machine

/-! ### The owner of a request -/

/-- What the owner of each request does with it (R171). -/
def ownerOf : Instr → State → State × Answer
  | .place l _ b => handlePlace l b
  | .amend l _ b => handleAmend l b
  | .withdraw l _ b => handleWithdraw l b
  | .lookupOrder _ _ b => handleLookup b
  | .listOrders _ _ b => handleList b
  | .setAuthority l _ b => handleAuthority l b
  | .readUnit _ _ b => handleReadUnit b
  | .setService l _ b => handleSetService l b
  | .handDrive l _ b => handleHandDrive l b
  | .setUnitConfig l _ b => handleSetUnitConfig l b
  | .resetFault _ _ b => handleResetFault b
  | .readSump _ _ b => handleReadSump b
  | .setSumpConfig _ _ b => handleSetSumpConfig b
  | .restartSection _ _ b => handleRestartSection b
  | .setRingOrder l _ b => handleSetRingOrder l b
  | .readPlant _ _ b => handleReadPlant b
  | .setSupplyConfig l _ b => handleSetSupplyConfig l b
  | .setLuminanceConfig l _ b => handleSetLuminanceConfig l b
  | .setLinkConfig l _ b => handleSetLinkConfig l b
  | .readAlerts _ _ b => handleReadAlerts b
  | .ackAlerts _ _ b => handleAckAlerts b
  | .setAlertMasks _ _ b => handleSetAlertMasks b
  | .readChanges l _ b => handleReadChanges l b
  | .clearChanges l _ b => handleClearChanges l b
  | .setReporting l _ b => handleSetReporting l b
  | .saveConfig _ _ b => handleSaveConfig b
  | .restartController l _ b => handleRestartController l b
  | _ => fun s => (s, .refuse .unknownKind)

section Requests
variable {c : Instr} {l : Link} {kind tag : Byte} {body : List Byte} {s t : State}

/-- A request is taken by its port, which hands it to its owner (R161). -/
theorem exec_request (h : requestOf c = some (l, kind, tag, body)) : exec c s = .next (takeRequest l kind tag (ownerOf c) s) := by
  cases c with
  | unknownKind k kd tg b =>
    simp only [requestOf] at h
    split at h
    · cases h
      simp only [exec, execUnknownKind, if_pos ‹_›]
      rfl
    · cases h
  | _ => first | (cases h; rfl) | cases h

/-- Settles O5. -/
theorem pendingReplyDiscardsRequest : Obligations.PendingReplyDiscardsRequest := by
  intro c l kind tag body s r numbers h hslot
  rw [exec_request h]
  obtain hslot | hslot := hslot
  · rw [takeRequest_waiting hslot]
  · rw [takeRequest_deferred hslot]

/-! ### Refusals (0.7) -/

/-- An answer other than DONE and ACCEPTED comes with an unchanged state. -/
def Honest (s : State) (r : State × Answer) : Prop := r.1 = s ∨ r.2.code = .done ∨ r.2.code = .accepted

theorem Honest.kept {a : Answer} : Honest s (s, a) := .inl rfl

theorem Honest.did {p : List Byte} : Honest s (t, .done p) := .inr (.inl rfl)

theorem guarded_honest {checks : List (Bool × Code)} {f : State → State × Answer} (h : Honest s (f s)) : Honest s (guarded checks f s) := by
  obtain ⟨c, -, he⟩ | ⟨-, he⟩ := guarded_cases (f := f) (s := s) checks
  · rw [he]
    exact .kept
  · rwa [he]

theorem handlePlace_honest : Honest s (handlePlace l body s) := by
  simp only [handlePlace]
  split
  · split
    · exact .kept
    · split
      · exact guarded_honest (.inr (.inl (by simp only [acceptPlace])))
      · exact .kept
  · exact .kept

theorem handleAmend_honest : Honest s (handleAmend l body s) := by
  simp only [handleAmend]
  repeat' split
  all_goals first
    | with_reducible exact .kept
    | exact guarded_honest (.inr (.inl (by simp only [acceptAmend]; split <;> rfl)))

theorem handleWithdraw_honest : Honest s (handleWithdraw l body s) := by
  simp only [handleWithdraw]
  repeat' split
  all_goals first
    | with_reducible exact .kept
    | exact .inr (.inl (by simp only [acceptWithdraw]))

theorem handleAuthority_honest : Honest s (handleAuthority l body s) := by
  refine guarded_honest ?_
  split
  · exact .did
  · exact .kept

theorem handleSetService_honest : Honest s (handleSetService l body s) := by
  simp only [handleSetService]
  split
  · refine guarded_honest ?_
    split
    · simp only [acceptService]
      split
      · exact .did
      · exact .did
    · exact .kept
  · exact .kept

theorem handleHandDrive_honest : Honest s (handleHandDrive l body s) := by
  simp only [handleHandDrive]
  split
  · split
    · exact .kept
    · refine guarded_honest ?_
      split
      · exact .did
      · exact .kept
  · exact .kept

theorem handleSetUnitConfig_honest : Honest s (handleSetUnitConfig l body s) := by
  simp only [handleSetUnitConfig]
  split
  · exact .kept
  · refine guarded_honest ?_
    split
    · exact .did
    · exact .kept

theorem handleResetFault_honest : Honest s (handleResetFault body s) := by
  simp only [handleResetFault]
  split
  · split
    · exact .kept
    · exact guarded_honest .did
  · exact .kept

theorem handleSetSumpConfig_honest : Honest s (handleSetSumpConfig body s) := by
  simp only [handleSetSumpConfig]
  split
  · refine guarded_honest ?_
    split
    · exact .did
    · exact .kept
  · exact .kept

theorem handleRestartSection_honest : Honest s (handleRestartSection body s) := by
  simp only [handleRestartSection]
  split
  · split
    · exact .kept
    · exact .did
  · exact .kept

theorem handleSetRingOrder_honest : Honest s (handleSetRingOrder l body s) := by
  simp only [handleSetRingOrder]
  split
  · refine guarded_honest ?_
    split
    · exact .did
    · exact .kept
  · exact .kept

theorem handleSetSupplyConfig_honest : Honest s (handleSetSupplyConfig l body s) := by
  refine guarded_honest ?_
  split
  · exact .did
  · exact .kept

theorem handleSetLuminanceConfig_honest : Honest s (handleSetLuminanceConfig l body s) := by
  refine guarded_honest ?_
  split
  · exact .did
  · exact .kept

theorem handleSetLinkConfig_honest : Honest s (handleSetLinkConfig l body s) := by
  refine guarded_honest ?_
  split
  · exact .did
  · exact .kept

theorem handleAckAlerts_honest : Honest s (handleAckAlerts body s) := by
  simp only [handleAckAlerts]
  split
  · exact .did
  · exact .kept

theorem handleSetAlertMasks_honest : Honest s (handleSetAlertMasks body s) := by
  simp only [handleSetAlertMasks]
  split
  · exact guarded_honest .did
  · exact .kept

theorem handleReadChanges_honest : Honest s (handleReadChanges l body s) := by
  simp only [handleReadChanges]
  split
  · exact .did
  · exact .kept

theorem handleClearChanges_honest : Honest s (handleClearChanges l body s) := by
  simp only [handleClearChanges]
  split
  · split
    · exact .kept
    · exact .did
  · exact .kept

theorem handleSetReporting_honest : Honest s (handleSetReporting l body s) := by
  simp only [handleSetReporting]
  split
  · refine guarded_honest ?_
    split
    · exact .did
    · exact .kept
  · exact .kept

/-- Every owner refuses without an effect. -/
theorem ownerOf_honest : Honest s (ownerOf c s) := by
  cases c with
  | place l tag body => exact handlePlace_honest
  | amend l tag body => exact handleAmend_honest
  | withdraw l tag body => exact handleWithdraw_honest
  | lookupOrder l tag body => exact .inl handleLookup_state
  | listOrders l tag body => exact .inl handleList_state
  | setAuthority l tag body => exact handleAuthority_honest
  | readUnit l tag body => exact .inl handleReadUnit_state
  | setService l tag body => exact handleSetService_honest
  | handDrive l tag body => exact handleHandDrive_honest
  | setUnitConfig l tag body => exact handleSetUnitConfig_honest
  | resetFault l tag body => exact handleResetFault_honest
  | readSump l tag body => exact .inl handleReadSump_state
  | setSumpConfig l tag body => exact handleSetSumpConfig_honest
  | restartSection l tag body => exact handleRestartSection_honest
  | setRingOrder l tag body => exact handleSetRingOrder_honest
  | readPlant l tag body => exact .inl handleReadPlant_state
  | setSupplyConfig l tag body => exact handleSetSupplyConfig_honest
  | setLuminanceConfig l tag body => exact handleSetLuminanceConfig_honest
  | setLinkConfig l tag body => exact handleSetLinkConfig_honest
  | readAlerts l tag body => exact .inl handleReadAlerts_state
  | ackAlerts l tag body => exact handleAckAlerts_honest
  | setAlertMasks l tag body => exact handleSetAlertMasks_honest
  | readChanges l tag body => exact handleReadChanges_honest
  | clearChanges l tag body => exact handleClearChanges_honest
  | setReporting l tag body => exact handleSetReporting_honest
  | saveConfig l tag body => exact guarded_honest (.inr (.inr rfl))
  | restartController l tag body => exact guarded_honest .did
  | _ => exact .kept

/-- Settles O6: an owner that refuses leaves the state, and the port adds the reply. -/
theorem refusedRequestChangesNothing : Obligations.RefusedRequestChangesNothing := by
  intro c l kind tag body s t r h hslot hexec hr hdone haccepted
  rw [exec_request h, takeRequest_empty hslot] at hexec
  cases hexec
  rw [putPort_port] at hr
  have hreply : r = ⟨kind, tag, (ownerOf c s).2.code, (ownerOf c s).2.payload⟩ ∧
      slotFor kind tag (ownerOf c s).2 = .waiting r := by
    simp only [slotFor] at hr ⊢
    split at hr
    · cases hr
    · cases hr
      exact ⟨rfl, rfl⟩
  obtain ⟨rfl, hslot'⟩ := hreply
  have hstate : (ownerOf c s).1 = s := (ownerOf_honest (c := c) (s := s)).resolve_right fun h => h.elim hdone haccepted
  refine ⟨rfl, rfl, ?_⟩
  rw [replied, hslot', hstate]

end Requests

end Sys2Proof.Machine

/-! When a timer has made an event due, what an event with nothing to do leaves, and the obligations about steps, key switches and
floats that follow: O1, O2, O3, O20, O33. -/

namespace Sys2Proof.Machine

/-! ### Steps (log 1, log 2) -/

/-- Settles O1. -/
theorem stepRunsFrontCommand : Obligations.StepRunsFrontCommand := by
  intro c rest s h
  simp only [step, h]

/-- Settles O2: the idle step's three cases, and the two lines seen alike. -/
theorem idleStepTakesDueEventOrTick : Obligations.IdleStepTakesDueEventOrTick := by
  intro s h
  have hstep : step s = idle s := by simp only [step, h]
  rw [hstep]
  refine ⟨fun c hc => by simp only [idle, hc], fun hnone => ⟨fun c hc => ?_, fun c hf hc => ?_, fun hf hp => ?_⟩⟩
  · simp only [idle, hnone, hc]
  · simp only [idle, hnone, hf, hc]
  · refine ⟨passLinks s.links, by simp only [idle, hnone, hf, hp, tick], rfl, rfl, fun l => ?_⟩
    have hline : (passLinks s.links).lines.get l = passLine (s.links.lines.get l) := tick_line l s
    have hport : (passLinks s.links).ports.get l = passPort (s.links.lines.get l) (s.port l) := tick_port l s
    simp only [hline, hport]
    cases s.links.lines.get l with
    | nil => exact ⟨rfl, rfl⟩
    | cons c later =>
      by_cases hidle : c.idle = 0
      · simp [passLine, passPort, lineQuiet, hidle]
      · simp only [passLine, passPort, lineQuiet, hidle, if_false, bne_iff_ne, ne_eq, not_false_eq_true, if_true, true_and]
        rfl

/-! ### The waiting commands (log 42) -/

section Pending
variable {s t : State}

/-- Only the environment and the plant differ. -/
def Inside (s t : State) : Prop := ∃ env plant, t = { s with env := env, plant := plant }

theorem Inside.trans {a b c : State} : Inside a b → Inside b c → Inside a c := by
  rintro ⟨_, _, rfl⟩ ⟨_, _, rfl⟩
  exact ⟨_, _, rfl⟩

theorem Inside.pending : Inside s t → t.pending = s.pending := by rintro ⟨_, _, rfl⟩; rfl
theorem Inside.links : Inside s t → t.links = s.links := by rintro ⟨_, _, rfl⟩; rfl
theorem Inside.store : Inside s t → t.store = s.store := by rintro ⟨_, _, rfl⟩; rfl

theorem Inside.settle (h : Inside s t) : Inside s (settle t) := h.trans ⟨_, _, rfl⟩

theorem takeSection_inside {u : SumpId} {m : Section} : Inside s (takeSection u m s) := by
  simp only [takeSection]
  split <;> exact ⟨_, _, rfl⟩

theorem latchSump_inside {u : SumpId} : Inside s (latchSump u s) := by
  simp only [latchSump]
  split <;> exact ⟨_, _, rfl⟩

theorem restartSump_inside {u : SumpId} : Inside s (restartSump u s) :=
  Inside.trans ⟨_, _, rfl⟩ (takeSection_inside (s := { s with plant := resetLead u s.plant }))

theorem sample_inside {u : SumpId} {r : Section × Bool} :
    Inside s (if r.2 then latchSump u (takeSection u r.1 s) else takeSection u r.1 s) := by
  split
  · exact takeSection_inside.trans latchSump_inside
  · exact takeSection_inside

theorem takeGroup_inside {u : SumpId} {g : Group} : Inside s (takeGroup u g s) := by
  refine Inside.settle ?_
  cases g with
  | calibration c => exact Inside.trans ⟨_, _, rfl⟩ restartSump_inside
  | staging c => exact Inside.trans ⟨_, _, rfl⟩ takeSection_inside
  | floats c => exact ⟨_, _, rfl⟩
  | positions c => exact Inside.trans ⟨_, _, rfl⟩ latchSump_inside

theorem takePumpCfg_inside {i : PumpId} {v : PumpCfg} : Inside s (takePumpCfg i v s) := by
  simp only [takePumpCfg]
  split <;> exact ⟨_, _, rfl⟩

theorem changeService_inside {u : UnitId} {v : Service} : Inside s (changeService u v s) := by
  refine Inside.settle ?_
  split <;> exact ⟨_, _, rfl⟩

theorem Event.inside (h : Event s t) : Inside s t := by cases h <;> exact ⟨_, _, rfl⟩

theorem placeOrder_pending {l : Link} {w : Wish} : (placeOrder l w s).pending = s.pending := by
  simp only [placeOrder, joinTable]
  split <;> simp only [askLockoutWrite_pending, resolve_pending] <;> split <;> rfl

theorem acceptAmend_pending {m : Marks} {o o' : Order} : (acceptAmend m o o' s).1.pending = s.pending := by
  simp only [acceptAmend]
  split
  · split <;> rfl
  · rfl

theorem acceptWithdraw_pending {o : Order} : (acceptWithdraw o s).1.pending = s.pending := by
  simp only [acceptWithdraw, settle_pending]
  split <;> simp

theorem noteFailure_pending {how : WriteEnd} : (noteFailure how s).pending = s.pending := by
  simp only [noteFailure]
  split <;> rfl

theorem Act.pending (h : Act s t) : t.pending = s.pending := by
  cases h with
  | event h => exact h.inside.pending
  | place => exact placeOrder_pending
  | amend => exact acceptAmend_pending
  | withdraw => exact acceptWithdraw_pending
  | save => exact putStore_pending ..
  | writeEnd => exact noteFailure_pending.trans (putStore_pending ..)
  | service => exact changeService_inside.pending
  | pumpSettings => exact takePumpCfg_inside.settle.pending
  | sample => exact sample_inside.settle.pending
  | floatEnd => exact takeSection_inside.settle.pending
  | holdEnd => exact takeSection_inside.settle.pending
  | group => exact takeGroup_inside.pending
  | restartSection => exact restartSump_inside.settle.pending
  | _ => rfl

theorem Acted.pending : Acted s t → t.pending = s.pending := by
  rintro ⟨_, h, _, rfl⟩
  exact h.pending

end Pending

/-! ### When an event is due -/

section Due
variable {s : State} {e : Env} {p : Plant} {u : SumpId} {i : PumpId} {k : PortalId}

/-- A timer counts and has counted for so many milliseconds. -/
def Ran (e : Env) (t : Timer) (ms : Nat) : Prop := ∃ start, t = .since start ∧ ms ≤ e.clock - start

theorem confirmDue_iff : confirmDue e p i = true ↔
    (p.pumps.get i).run = .starting ∧ Ran e (p.pumps.get i).confirm (1000 * (e.cfg.pumps.get i).confirmLimit) := by
  simp [confirmDue, Timer.ranOut_iff, Ran]

theorem lostRunDue_iff : lostRunDue e p i = true ↔ (p.pumps.get i).run = .running ∧ Ran e (p.pumps.get i).lostTimer 1000 := by
  simp [lostRunDue, Timer.ranOut_iff, Ran, Config.lostRunTime]

theorem dryRunDue_iff : dryRunDue e p i = true ↔ (p.pumps.get i).run = .running ∧ Ran e (p.pumps.get i).dryTimer 5000 := by
  simp [dryRunDue, Timer.ranOut_iff, Ran, Config.dryRunTime]

theorem restDue_iff : restDue e p i = true ↔
    (p.pumps.get i).run = .resting ∧ Ran e (p.pumps.get i).minRest (1000 * (p.pumps.get i).restLength) := by
  simp [restDue, Timer.ranOut_iff, Ran]

theorem surgeDue_iff : surgeDue e p i = true ↔ Ran e (p.pumps.get i).surge (1000 * (e.cfg.pumps.get i).surgeTime) :=
  Timer.ranOut_iff

theorem minRunDue_iff : minRunDue e p i = true ↔ Ran e (p.pumps.get i).minRun (1000 * (e.cfg.pumps.get i).minRun) :=
  Timer.ranOut_iff

theorem startEntryDue_iff : startEntryDue e p i = true ↔
    ∃ oldest later, (p.pumps.get i).starts = oldest :: later ∧ 3600000 ≤ e.clock - oldest := by
  have hlife : Config.startEntryLife = 3600000 := rfl
  cases h : (p.pumps.get i).starts <;> simp [startEntryDue, h, hlife]

theorem warningDue_iff : warningDue e p k = true ↔
    (p.portals.get k).seq = .warning ∧ Ran e (p.portals.get k).warn (1000 * (e.cfg.portals.get k).warningTime) := by
  simp [warningDue, Timer.ranOut_iff, Ran]

theorem travelled_iff : travelled e p k = true ↔
    (p.portals.get k).permit = true ∧ Ran e (p.portals.get k).travel (travelLimit (e.cfg.portals.get k) (p.portals.get k)) := by
  simp [travelled, Timer.ranOut_iff, Ran]

theorem travelDue_iff : travelDue e p k = true ↔ (p.portals.get k).seq.motionStep = true ∧ (p.portals.get k).permit = true ∧
    Ran e (p.portals.get k).travel (travelLimit (e.cfg.portals.get k) (p.portals.get k)) := by
  simp [travelDue, travelled_iff]

theorem handTravelDue_iff : handTravelDue e p k = true ↔ (p.portals.get k).seq = .hand ∧ (p.portals.get k).motion ≠ .none ∧
    (p.portals.get k).permit = true ∧ Ran e (p.portals.get k).travel (travelLimit (e.cfg.portals.get k) (p.portals.get k)) := by
  simp [handTravelDue, travelled_iff, and_assoc]

theorem clearConfirmDue_iff : clearConfirmDue e p k = true ↔
    (p.portals.get k).seq = .clearing ∧ Ran e (p.portals.get k).confirm (1000 * (e.cfg.portals.get k).clearConfirm) := by
  simp [clearConfirmDue, Timer.ranOut_iff, Ran]

theorem clearLimitDue_iff : clearLimitDue e p k = true ↔ (p.portals.get k).seq = .clearing ∧ (p.portals.get k).overdue = false ∧
    Ran e (p.portals.get k).limit (1000 * (e.cfg.portals.get k).clearLimit) := by
  simp [clearLimitDue, Timer.ranOut_iff, Ran, and_assoc]

theorem retryDue_iff : retryDue e p k = true ↔
    (p.portals.get k).seq = .sealing ∧ Ran e (p.portals.get k).retry (1000 * (e.cfg.portals.get k).retryDelay) := by
  simp [retryDue, Timer.ranOut_iff, Ran]

theorem spacingDue_iff : spacingDue e p = true ↔ Ran e p.arb.spacing (1000 * e.cfg.supply.spacing) := Timer.ranOut_iff

theorem transferDue_iff : transferDue e p = true ↔ p.arb.supply = .transfer ∧ Ran e p.arb.transfer (1000 * e.cfg.supply.transferLimit) := by
  simp [transferDue, Timer.ranOut_iff, Ran]

/-- A request of the unit has waited for the wait limit. -/
def Waited (e : Env) (p : Plant) (u : UnitId) : Prop :=
  ∃ r ∈ p.arb.queue, r.unit = u ∧ Ran e r.wait (1000 * e.cfg.supply.waitLimit)

theorem waitDue_iff {u : UnitId} : waitDue e p u = true ↔ p.arb.supply ≠ .transfer ∧ starvedFlag p u = false ∧ Waited e p u := by
  have hqueued : Waited e p u → p.queued u = true := by
    rintro ⟨r, hr, hu, -⟩
    exact List.any_eq_true.mpr ⟨r, hr, by simp [hu]⟩
  have hwaited : (p.arb.queue.any fun r => r.unit == u && r.wait.ranOut e.clock (1000 * e.cfg.supply.waitLimit)) = true ↔
      Waited e p u := by
    simp [Waited, Timer.ranOut_iff, Ran]
  simp only [waitDue, awaitsStarving, Bool.and_eq_true, hwaited, bne_iff_ne, Bool.not_eq_true']
  exact ⟨fun ⟨⟨⟨_, hs⟩, hf⟩, hw⟩ => ⟨hs, hf, hw⟩, fun ⟨hs, hf, hw⟩ => ⟨⟨⟨hqueued hw, hs⟩, hf⟩, hw⟩⟩

theorem floatDue_iff {f : FloatId} : floatDue e u f = true ↔
    Ran e ((e.sumps.get u).float f).stable 2000 ∧ floatNow e u f ≠ ((e.sumps.get u).float f).active := by
  simp [floatDue, Timer.ranOut_iff, Ran, Config.floatStableTime]

theorem holdDue_iff : holdDue e u = true ↔ Ran e (e.sumps.get u).hold (1000 * (e.cfg.sumps.get u).staging.hold) := Timer.ranOut_iff

theorem lossDue_iff {d : Side} : lossDue e d = true ↔ (e.windows.get d).lost = false ∧ Ran e (e.windows.get d).loss 60000 := by
  simp [lossDue, Timer.ranOut_iff, Ran, Config.luminanceLossTime]

theorem rampDue_iff {z : ZoneId} : rampDue e p z = true ↔ (p.zones.get z).ramp ≠ .none ∧
    ∃ start, (p.zones.get z).step = .since start ∧
      1000 * ((p.zones.get z).steps + 1) ≤ (e.clock - start) * rampRate e z (p.zones.get z) := by
  cases h : (p.zones.get z).step <;> simp [rampDue, h, Timer.counting, Timer.elapsed]

theorem moderationDue_iff {l : Link} : moderationDue e p l = true ↔
    ∃ start, (p.attn.sets.get l).timer = .since start ∧ 1000 * (e.cfg.reporting.get l).moderation ≤ e.clock - start := by
  cases h : (p.attn.sets.get l).timer <;> simp [moderationDue, h]

theorem keyDue_iff : keyDue e k = true ↔
    e.pins.keys.get k ≠ (e.keys.get k).on ∧ Ran e (e.keys.get k).stable 1000 := by
  simp [keyDue, Timer.ranOut_iff, Ran, Config.keyStableTime, and_comm]

theorem orderDue_iff {o : Order} : orderDue e o = true ↔ ∃ instant, o.expiresAt = some instant ∧ instant ≤ e.clock := by
  simp [orderDue, Option.any_eq_true]

theorem mem_dueOf {l : List (Bool × Instr)} {c : Instr} : c ∈ dueOf l ↔ (true, c) ∈ l := by
  simp only [dueOf, List.mem_map, List.mem_filter]
  constructor
  · rintro ⟨⟨b, c'⟩, ⟨hm, hb⟩, rfl⟩
    cases (show b = true from hb)
    exact hm
  · exact fun h => ⟨_, ⟨h, rfl⟩, rfl⟩

end Due

/-! ### An event with nothing to do (log 1, log 14) -/

section Nothing
variable {s : State}

theorem next_of_not {t : State} {c : Bool} (h : ¬ c = true) :
    (if c = true then (Host.Outcome.next t : Host.Outcome State Fault Refusal) else .next s) = .next s := if_neg h

theorem orderExpiry_nothing {n : Nat} (h : ∀ o ∈ s.env.table, o.number = n → orderDue s.env o = false) :
    exec (.orderExpiry n) s = .next s := by
  have hnone : s.env.table.find? (fun o => o.number == n && orderDue s.env o) = none := by
    rw [List.find?_eq_none]
    intro o ho
    by_cases hn : o.number = n <;> simp [hn, h o ho]
  simp only [exec, execOrderExpiry, hnone]

/-- Settles O3: `exec_acted` answers, no act touches the queue, and each event's condition is what its timer says. -/
theorem everyCommandAnswers : Obligations.EveryCommandAnswers := by
  refine ⟨fun c s => ?_, fun s => ⟨fun i => ?pumps, fun k => ?portals, fun l b h => ?replies, fun how h => ?store, fun n h => ?order,
    ?spacing, fun u h => ?wait, ?float, ?hold, fun d h => ?loss, fun z h => ?ramp, fun l h => ?moderation⟩⟩
  · obtain ⟨t, ht, hact⟩ := exec_acted c s
    exact ⟨t, ht, hact.pending⟩
  case pumps =>
    refine ⟨fun h => next_of_not (h ∘ confirmDue_iff.mp), fun h => next_of_not (h ∘ lostRunDue_iff.mp),
      fun h => next_of_not (h ∘ dryRunDue_iff.mp), fun h => next_of_not (h ∘ restDue_iff.mp), fun h => next_of_not (h ∘ surgeDue_iff.mp),
      fun h => next_of_not (h ∘ minRunDue_iff.mp), fun h => next_of_not fun hd => ?_, if_pos rfl, if_pos rfl, if_pos rfl⟩
    obtain ⟨oldest, later, hs, hle⟩ := startEntryDue_iff.mp hd
    exact absurd (h oldest later hs) (by omega)
  case portals =>
    exact ⟨fun h => next_of_not (h ∘ warningDue_iff.mp), fun h => next_of_not (h ∘ travelDue_iff.mp),
      fun h => next_of_not (h ∘ handTravelDue_iff.mp), fun h => next_of_not (h ∘ clearConfirmDue_iff.mp),
      fun h => next_of_not (h ∘ clearLimitDue_iff.mp), fun h => next_of_not (h ∘ retryDue_iff.mp), if_pos rfl, if_pos rfl⟩
  case replies => simp only [exec, execReplyStart, execReplyEnd, h, and_self]
  case store => exact ⟨if_neg (by simp [h]), if_neg (by simp [h])⟩
  case order =>
    refine orderExpiry_nothing fun o ho hn => ?_
    rw [Bool.eq_false_iff]
    intro hd
    obtain ⟨instant, hi, hle⟩ := orderDue_iff.mp hd
    exact absurd (h o ho hn instant hi) (by omega)
  case spacing => exact fun h => next_of_not (h ∘ spacingDue_iff.mp)
  case wait =>
    refine next_of_not fun hd => ?_
    obtain ⟨-, -, r, hr, hu, hran⟩ := waitDue_iff.mp hd
    exact h r hr hu hran
  case float => exact fun u f h => next_of_not fun hd => h (floatDue_iff.mp hd).1
  case hold => exact fun u h => next_of_not (h ∘ holdDue_iff.mp)
  case loss =>
    refine next_of_not fun hd => ?_
    obtain ⟨hlost, hran⟩ := lossDue_iff.mp hd
    exact h.elim (fun h => by simp [hlost] at h) (· hran)
  case ramp =>
    refine congrArg _ (if_neg fun hd => ?_)
    obtain ⟨hne, start, hs, hle⟩ := rampDue_iff.mp hd
    refine h.elim hne fun h => absurd (h start hs) ?_
    exact Nat.not_lt.mpr hle
  case moderation =>
    refine congrArg _ (if_neg fun hd => ?_)
    obtain ⟨start, hs, hle⟩ := moderationDue_iff.mp hd
    exact absurd (h start hs) (by omega)

end Nothing

/-! ### Key switches (R25) -/

section Keys
variable {s : State} {k : PortalId}

theorem mem_dueEvents_key : Instr.keyDebounceExpiry k ∈ dueEvents s ↔ keyDue s.env k = true := by
  have hkey {k' : PortalId} : Instr.keyDebounceExpiry k ∈ dueKey s.env k' ↔ k' = k ∧ keyDue s.env k = true := by
    simp only [dueKey, mem_dueOf, List.mem_singleton, Prod.mk.injEq, Instr.keyDebounceExpiry.injEq]
    constructor
    · rintro ⟨h, rfl⟩
      exact ⟨rfl, h.symm⟩
    · rintro ⟨rfl, h⟩
      exact ⟨h.symm, rfl⟩
  simp [dueEvents, dueOrders, hkey, dueSump, duePump, dueArbiter, duePortal, dueSide, dueZone, dueLink, mem_dueOf, PortalId.mem_every]

/-- An expiry that is due: the debounced state takes the input (R25), and the KEY order joins or leaves (R26). -/
theorem exec_keyDebounceExpiry (h : keyDue s.env k = true) : exec (.keyDebounceExpiry k) s = .next (
    if s.env.pins.keys.get k = true then
      settle (resolve [.portal k] (joinTable .key (keyHolder k) (.portal k) .overriding .close none none none (setKey k true s)))
    else
      settle (resolve [.portal k] (removeOrders (fun o => o.issuer == .key && o.holder == keyHolder k) .withdrawn (setKey k false s)))) := by
  simp only [exec, execKeyDebounceExpiry, h, Bool.not_true, Bool.false_eq_true, if_false]
  exact next_ite _

/-- Settles O20. -/
theorem keySwitchIsDebounced : Obligations.KeySwitchIsDebounced := by
  refine ⟨fun k on s h => ?change, fun k s h => ?early, fun k s start hne hstart hran => ?due, fun k s => ?idle, ?boot⟩
  case change => exact if_neg h
  case early =>
    have hnot : keyDue s.env k = false := by
      rw [Bool.eq_false_iff]
      intro hd
      obtain ⟨hne, hran⟩ := keyDue_iff.mp hd
      exact h.elim hne (· hran)
    simp only [exec, execKeyDebounceExpiry, hnot, Bool.not_false, if_true]
  case due =>
    refine ⟨_, exec_keyDebounceExpiry (keyDue_iff.mpr ⟨hne, start, hstart, hran⟩), ?_⟩
    cases hon : s.env.pins.keys.get k <;> exact ⟨rfl, rfl⟩
  case idle => rw [mem_dueEvents_key, keyDue_iff, Ran]
  case boot =>
    intro pins cut b s t ht k
    cases ht
    exact PerPortal.get_all ..

end Keys

/-! ### Floats and the hold (R60, R64) -/

/-- Settles O33. -/
theorem floatAndHoldEvents : Obligations.FloatAndHoldEvents := by
  refine ⟨fun u f closed s h => ?change, fun u f s => ?debounce, fun u s start c hhold hcand hran => ?hold⟩
  case change =>
    refine (if_neg h).trans ?_
    cases f <;> rfl
  case debounce =>
    refine ⟨fun h => next_of_not fun hd => (floatDue_iff.mp hd).2 ?_, fun start hs hran hne => ⟨_, if_pos (floatDue_iff.mpr ⟨⟨start, ?_, hran⟩, ?_⟩), ?_⟩⟩
    · cases f <;> exact h
    · cases f <;> exact hs
    · cases f <;> exact hne
    · obtain ⟨-, hlinks, hstore, hcfg, hsumps, hunder⟩ := takeSection_frame u
        (evaluate s.env.clock (s.env.cfg.sumps.get u).staging ((s.env.sumps.get u).setFloat f ⟨floatNow s.env u f, .stopped⟩)) s
      refine ⟨hsumps.trans ?_, hunder.trans (congrArg underpassOf hsumps.symm), hcfg, hlinks, hstore⟩
      cases f <;> rfl
  case hold =>
    have hdown : stepDown (s.env.sumps.get u) = { s.env.sumps.get u with stage := c, hold := .stopped, candidate := none } := by
      simp only [stepDown, hhold, hcand]
    obtain ⟨-, hlinks, hstore, hcfg, hsumps, hunder⟩ := takeSection_frame u (stepDown (s.env.sumps.get u)) s
    exact ⟨_, if_pos (holdDue_iff.mpr ⟨start, hhold, hran⟩), hsumps.trans (by rw [hdown]),
      hunder.trans (congrArg underpassOf hsumps.symm), hcfg, hlinks, hstore⟩

end Sys2Proof.Machine

/-! Requests and their refusals, replies, and the receiver: O7, O8, O10. -/

namespace Sys2Proof.Machine

section Requests
variable {c : Instr} {l : Link} {kind tag : Byte} {body payload : List Byte} {s t : State} {code : Code}

/-- An EMPTY slot takes the request, and its owner's answer waits in it (R161). -/
theorem exec_answered (h : requestOf c = some (l, kind, tag, body)) (hslot : (s.port l).slot = .empty)
    (ha : ownerOf c s = (t, .now code payload)) : exec c s = .next (replied l kind tag code payload t) := by
  rw [exec_request h, takeRequest_empty hslot, ha]
  rfl

/-- The first check that fails is the answer, and nothing else changes (0.7). -/
theorem exec_refused (h : requestOf c = some (l, kind, tag, body)) (hslot : (s.port l).slot = .empty)
    {checks : List (Bool × Code)} {f : State → State × Answer} (ho : ownerOf c s = guarded checks f s)
    (hf : firstFailure checks = some code) : exec c s = .next (replied l kind tag code [] s) :=
  exec_answered h hslot (ho.trans (guarded_fail hf))

/-- Every check passes and the owner acts. -/
theorem exec_accepted (h : requestOf c = some (l, kind, tag, body)) (hslot : (s.port l).slot = .empty)
    {checks : List (Bool × Code)} {f : State → State × Answer} (ho : ownerOf c s = guarded checks f s)
    (hf : firstFailure checks = none) (ha : f s = (t, .now code payload)) :
    exec c s = .next (replied l kind tag code payload t) :=
  exec_answered h hslot (ho.trans ((guarded_pass hf).trans ha))

/-! ### Reserved and busy (R162, R186, R187, R189) -/

theorem notSaving_eq_false : notSaving s = false ↔ s.store.state = .saving := by simp [notSaving]

theorem notSaving_eq_true : notSaving s = true ↔ s.store.state ≠ .saving := by simp [notSaving]

/-- The first check of a reserved request after its length fails on the field link. -/
theorem reserved {len : Bool} {rest : List (Bool × Code)} (h : len = true) :
    firstFailure ((len, .badLength) :: ((Link.field == .panel), .noAuthority) :: rest) = some .noAuthority := by
  rw [h]
  rfl

/-- The store's check of a reserved request fails while it is SAVING. -/
theorem reserved_busy {len : Bool} {rest : List (Bool × Code)} (h : len = true) (hsaving : s.store.state = .saving) :
    firstFailure ((len, .badLength) :: ((Link.panel == .panel), .noAuthority) :: (notSaving s, .busy) :: rest) = some .busy := by
  rw [h, notSaving_eq_false.mpr hsaving]
  rfl

theorem ringLength {n : Byte} {rest : List Byte} (h1 : 1 ≤ n.toNat) (h4 : n.toNat ≤ 4) (hlen : rest.length = n.toNat) :
    (within 1 4 n.toNat && rest.length == n.toNat) = true := by
  simp [within, h1, h4, hlen]

/-- Settles O7: each refusal is the first check that fails. -/
theorem reservedAndBusyRefusals : Obligations.ReservedAndBusyRefusals := by
  refine ⟨fun tag s hslot => ⟨fun a b => ?_, fun a b c => ?_, fun u rest hlen => ?_, fun body hlen => ?_, fun u n rest h1 h4 hlen => ?_,
      fun body hlen => ?_, fun body hlen => ?_, fun a => ?_, ?_⟩,
    fun l tag s hslot => ⟨fun hsaving => ⟨fun u g rest hlen => ?_, fun a b => ?_, fun a b c => ?_⟩, fun hbusy => ?_⟩,
    fun tag s hslot hbusy => ?_,
    fun tag s hslot hsaving => ⟨fun a b => ?_, fun u rest hlen => ?_, fun u n rest h1 h4 hlen => ?_, fun body hlen => ?_,
      fun body hlen => ?_, fun body hlen => ?_, fun a => ?_⟩⟩
  · exact exec_refused rfl hslot (by unfold ownerOf handleSetService; rfl) rfl
  · cases hu : unitOf a with
    | none => exact exec_answered rfl hslot (by simp only [ownerOf, handleHandDrive, hu]; rfl)
    | some u => exact exec_refused rfl hslot (by simp only [ownerOf, handleHandDrive, hu]; rfl) rfl
  · exact exec_refused rfl hslot (by unfold ownerOf handleSetUnitConfig; rfl) (reserved hlen)
  · exact exec_refused rfl hslot (by unfold ownerOf handleAuthority; rfl) (reserved (decide_eq_true hlen))
  · exact exec_refused rfl hslot (by unfold ownerOf handleSetRingOrder; rfl) (reserved (ringLength h1 h4 hlen))
  · exact exec_refused rfl hslot (by unfold ownerOf handleSetSupplyConfig; rfl) (reserved (beq_iff_eq.mpr hlen))
  · exact exec_refused rfl hslot (by unfold ownerOf handleSetLuminanceConfig; rfl) (reserved (beq_iff_eq.mpr hlen))
  · exact exec_refused rfl hslot (by unfold ownerOf handleSetLinkConfig; rfl) (reserved rfl)
  · exact exec_refused rfl hslot (by unfold ownerOf handleRestartController; rfl) (reserved rfl)
  · exact exec_refused rfl hslot (by unfold ownerOf handleSetSumpConfig; rfl) (by rw [hlen, notSaving_eq_false.mpr hsaving]; rfl)
  · exact exec_refused rfl hslot (by unfold ownerOf handleSetAlertMasks; rfl) (by rw [notSaving_eq_false.mpr hsaving]; rfl)
  · exact exec_refused rfl hslot (by unfold ownerOf handleSetReporting; rfl) (by rw [notSaving_eq_false.mpr hsaving]; rfl)
  · have hcheck : (notSaving s && !s.store.restarting) = false := by
      obtain h | h := hbusy
      · rw [notSaving_eq_false.mpr h, Bool.false_and]
      · rw [h, Bool.not_true, Bool.and_false]
    exact exec_refused rfl hslot (by unfold ownerOf handleSaveConfig; rfl) (by rw [hcheck]; rfl)
  · have hidle : (s.store.state == .idle) = false := by obtain h | h := hbusy <;> rw [h] <;> rfl
    exact exec_refused rfl hslot (by unfold ownerOf handleRestartController; rfl) (by rw [hidle]; rfl)
  · exact exec_refused rfl hslot (by unfold ownerOf handleSetService; rfl) (by rw [notSaving_eq_false.mpr hsaving]; rfl)
  · exact exec_refused rfl hslot (by unfold ownerOf handleSetUnitConfig; rfl) (reserved_busy hlen hsaving)
  · exact exec_refused rfl hslot (by unfold ownerOf handleSetRingOrder; rfl) (reserved_busy (ringLength h1 h4 hlen) hsaving)
  · exact exec_refused rfl hslot (by unfold ownerOf handleAuthority; rfl) (reserved_busy (decide_eq_true hlen) hsaving)
  · exact exec_refused rfl hslot (by unfold ownerOf handleSetSupplyConfig; rfl) (reserved_busy (beq_iff_eq.mpr hlen) hsaving)
  · exact exec_refused rfl hslot (by unfold ownerOf handleSetLuminanceConfig; rfl) (reserved_busy (beq_iff_eq.mpr hlen) hsaving)
  · exact exec_refused rfl hslot (by unfold ownerOf handleSetLinkConfig; rfl) (reserved_busy rfl hsaving)

end Requests

/-! ### The receiver (R159, R160) -/

section Receiving
variable {l : Link} {s : State}

theorem gapRan_iff {rx : Receiver} : rx.gapRan = true ↔ ∃ bytes quiet, rx = .assembling bytes quiet ∧ 10 < quiet := by
  cases rx with
  | assembling bytes quiet =>
    have hgap : (Receiver.assembling bytes quiet).gapRan = true ↔ 10 < quiet := decide_eq_true_iff
    simp [hgap]
  | _ => simp [Receiver.gapRan]

theorem busy_iff {rx : Receiver} : rx.busy = true ↔ ∃ bytes quiet, rx = .assembling bytes quiet := by
  cases rx <;> simp [Receiver.busy]

theorem takenInHunting_eq {b : Byte} : takenInHunting b = if b = 0x5A then .assembling [0x5A] 0 else .hunting := by
  have hlead : Config.leadByte = 0x5A := rfl
  simp only [takenInHunting, hlead]
  split
  · simp_all
  · rfl

/-- The record of a port that hunts again with its receiver replaced: `huntAgain_eq`, and the receiver. -/
theorem exec_frameAbandoned {late : Byte} {bytes : List Byte} {quiet : Nat} (h : (s.port l).rx = .assembling bytes quiet)
    (hgap : 10 < quiet) : exec (.frameAbandoned l late) s = .next
      { s with
        links :=
          { s.links with
            ports := s.links.ports.set l { s.port l with rx := takenInHunting late }
            rateInUse := if l = .field ∧ (s.port l).slot = .empty then s.env.cfg.fieldRate else s.links.rateInUse } } := by
  refine (if_pos (gapRan_iff.mpr ⟨bytes, quiet, h, hgap⟩)).trans ?_
  rw [huntAgain_port, huntAgain_eq]
  simp only [putPort, PerLink.set_set]

theorem exec_faultyFrameByte {why : ByteFault} (hbusy : (s.port l).rx.busy = true) (hwhy : ¬(l = .panel ∧ why = .parity)) :
    exec (.faultyFrameByte l why) s = .next (huntAgain l s) := by
  refine if_pos ?_
  rw [hbusy, Bool.true_and, Bool.not_eq_true', Bool.and_eq_false_iff, beq_eq_false_iff_ne, beq_eq_false_iff_ne, ← not_and_or]
  exact hwhy

/-- Settles O8. -/
theorem unsoundFramesChangeOnlyReceiver : Obligations.UnsoundFramesChangeOnlyReceiver := by
  refine ⟨fun l kind tag body s hkind hslot => ?unknown, fun l s c rx h => ?unsound, fun l s => ⟨fun frame h => ?_, fun late h => ?_,
    fun why h => ?_⟩, fun l s c later hline => ?chars⟩
  case unknown => exact exec_answered (body := body) (by simp only [requestOf, if_pos hkind]) hslot rfl
  case unsound =>
    obtain ⟨frame, rfl, hsound, hoff, rfl⟩ | ⟨late, bytes, quiet, rfl, hrx, hgap, rfl⟩ | ⟨why, bytes, quiet, rfl, hrx, hwhy, rfl⟩ := h
    · rw [← huntAgain_eq]
      exact if_neg (by simp [hsound, hoff])
    · rw [← takenInHunting_eq]
      exact exec_frameAbandoned hrx hgap
    · rw [← huntAgain_eq]
      exact exec_faultyFrameByte (busy_iff.mpr ⟨_, _, hrx⟩) hwhy
  · exact if_pos (by simp [h])
  · refine if_neg fun hgap => ?_
    obtain ⟨bytes, quiet, hrx, hlt⟩ := gapRan_iff.mp hgap
    exact absurd (h bytes quiet hrx) (by omega)
  · refine if_neg fun hand => ?_
    obtain ⟨hbusy, -⟩ := (Bool.and_eq_true ..).mp hand
    obtain ⟨bytes, quiet, hrx⟩ := busy_iff.mp hbusy
    obtain h | h := h <;> cases hrx.symm.trans h
  case chars =>
    have hdrop : dropChar l s = { s with links := { s.links with lines := s.links.lines.set l later } } := by
      simp only [dropChar, hline, List.drop_succ_cons, List.drop_zero]
    have hkeep : putPort l (s.port l) (dropChar l s) = dropChar l s := by
      simp [putPort, State.port, dropChar]
    refine ⟨by simp only [arrivedChar, hline], fun why hread => ?_, fun b hread => ?_⟩
    · rw [takeChar, charEvent_faulty hread, ← hdrop]
      cases hrx : (s.port l).rx with
      | assembling bytes quiet => rfl
      | off => simp only [Receiver.busy, Bool.false_eq_true, if_false, ← hrx, hkeep]
      | hunting => simp only [Receiver.busy, Bool.false_eq_true, if_false, ← hrx, hkeep]
    · cases hrx : (s.port l).rx with
      | off =>
        rw [takeChar, charEvent_byte hread (by rw [hrx]; rfl), hrx, hear_off, ← hdrop]
        simp only [← hrx, hkeep]
      | hunting =>
        rw [takeChar, charEvent_byte hread (by rw [hrx]; rfl), hrx, hear_hunting, ← hdrop, takenInHunting_eq]
        rfl
      | assembling bytes quiet =>
        simp only [← hdrop]
        by_cases hgap : 10 < quiet
        · rw [takeChar, charEvent_late hread (gapRan_iff.mpr ⟨_, _, hrx, hgap⟩), if_pos hgap]
        · have hran : (s.port l).rx.gapRan = false := by
            rw [hrx]
            exact decide_eq_false hgap
          rw [takeChar, charEvent_byte hread hran, hrx, if_neg hgap]
          have hlimit : Config.bodyLimit = 200 := rfl
          simp only [Receiver.hear, hlimit]
          by_cases hlong : (bytes ++ [b]).length = 5 ∧ 200 < b.toNat
          · rw [if_pos hlong, if_pos hlong]
          · rw [if_neg hlong, if_neg hlong]
            by_cases hwhole : frameComplete (bytes ++ [b]) = true
            · simp only [if_pos hwhole]
            · simp only [if_neg hwhole]
              rw [hdrop]
              rfl

end Receiving

/-! ### Replies (R163 to R165, R189) -/

/-- Settles O10. -/
theorem replyIsSentAndEnds : Obligations.ReplyIsSentAndEnds := by
  refine ⟨fun l s r h => ?start, fun l b s frame h hno => ?ends, fun b s frame h hrestart => ?boot,
    fun tag v s rate hslot hsaving hv => ?rate, fun tag s hslot hidle => ?restart, fun l s => ⟨fun frame h => ?_, fun h => ?_, rfl, rfl⟩⟩
  case start =>
    have hattention : (s.changes l).attention (s.env.cfg.reporting.get l) = true ↔
        (s.env.cfg.reporting.get l).threshold ≤ (s.changes l).entries.length ∨ (s.changes l).timer = .ranOut ∨
          (s.changes l).overfull = true := by
      simp [ChangedSet.attention, or_assoc]
    simp only [exec, execReplyStart, h, ← hattention]
    rfl
  case ends =>
    simp only [exec, execReplyEnd, h, endReply, if_neg hno]
    rw [huntAgain_eq, putPort_port]
    simp only [putPort, PerLink.set_set, and_true]
  case boot => simp only [exec, execReplyEnd, h, endReply, hrestart, and_self, if_true, execStartUp, Store.cut]
  case rate =>
    have hrate : rateOf v = some rate := by obtain ⟨rfl, rfl⟩ | ⟨rfl, rfl⟩ | ⟨rfl, rfl⟩ := hv <;> rfl
    have hhead : ([v].head?.bind rateOf) = some rate := hrate
    refine exec_accepted rfl hslot (by unfold ownerOf handleSetLinkConfig; rfl)
      (by rw [hhead, notSaving_eq_true.mpr hsaving]; rfl) ?_
    simp only [hhead]
    by_cases hfree : (s.port .field).rx = .hunting ∧ (s.port .field).slot = .empty
    · rw [if_pos hfree]
      exact congrArg (·, _) (if_pos hfree)
    · rw [if_neg hfree]
      exact congrArg (·, _) (if_neg hfree)
  case restart =>
    exact exec_accepted rfl hslot (by unfold ownerOf handleRestartController; rfl) (by rw [hidle]; rfl) rfl
  · simp only [lineDriven, lineBits, h, List.flatMap, and_self]
  · simp only [lineDriven, lineBits]
    cases hslot : (s.port l).slot with
    | sending frame => exact absurd hslot (h frame)
    | _ => exact ⟨trivial, trivial⟩

end Sys2Proof.Machine

/-! Frames and characters: the check bytes, the receiver's run through a whole frame, and the character read back (O9). -/

namespace Sys2Proof.Machine

/-! ### The CRC (R160) -/

section Crc
variable {c : Word16}

/-- A bit equal to the register's top bit is shifted in without the polynomial. -/
theorem crcBit_msb : crcBit c c.msb = c <<< 1 := by simp [crcBit]

/-- The bits of the register's upper byte are its top bits, one shift after the other. -/
theorem upperByte_bit {j : Nat} (hj : j < 8) : (c.extractLsb' 8 8).getLsbD (7 - j) = (c <<< j).msb := by
  rw [BitVec.getLsbD_extractLsb', BitVec.msb_eq_getLsbD_last, BitVec.getLsbD_shiftLeft]
  have h1 : 7 - j < 8 := by omega
  have h2 : ¬ 16 - 1 < j := by omega
  have h3 : 8 + (7 - j) = 16 - 1 - j := by omega
  simp [h1, h3]
  omega

/-- Shifting in the register's own upper byte leaves the lower byte, moved up. -/
theorem crcByte_upper : crcByte c (c.extractLsb' 8 8) = c <<< 8 := by
  have hstep (j : Nat) (hj : j < 8) : crcBit (c <<< j) ((c.extractLsb' 8 8).getLsbD (7 - j)) = c <<< (j + 1) := by
    rw [upperByte_bit hj, crcBit_msb, ← BitVec.shiftLeft_add]
  have h0 := hstep 0 (by omega)
  rw [BitVec.shiftLeft_zero] at h0
  simp only [crcByte, List.foldl_cons, List.foldl_nil, h0, hstep 1 (by omega), hstep 2 (by omega), hstep 3 (by omega),
    hstep 4 (by omega), hstep 5 (by omega), hstep 6 (by omega), hstep 7 (by omega)]

/-- The check bytes of a run of bytes bring its CRC to zero. -/
theorem crc16_checked (l : List Byte) : crc16 (l ++ bytesOfWord (crc16 l)) = 0 := by
  have hlower : (crc16 l).extractLsb' 0 8 = (crc16 l <<< 8).extractLsb' 8 8 := by
    ext i hi
    simp
    omega
  have hfold : crc16 (l ++ bytesOfWord (crc16 l)) =
      crcByte (crcByte (crc16 l) ((crc16 l).extractLsb' 8 8)) ((crc16 l).extractLsb' 0 8) := by
    simp only [crc16, bytesOfWord, List.foldl_append, List.foldl_cons, List.foldl_nil]
  rw [hfold, crcByte_upper, hlower, crcByte_upper, ← BitVec.shiftLeft_add]
  exact BitVec.shiftLeft_eq_zero (by omega)

end Crc

/-! ### Frames (R159, R171) -/

section Frames
variable {station kind tag : Byte} {body frame : List Byte}

theorem length_toNat (h : body.length ≤ 200) : (BitVec.ofNat 8 body.length).toNat = body.length := by
  rw [BitVec.toNat_ofNat, Nat.mod_eq_of_lt (by omega)]

theorem frameOf_sound (hk : kind < 0x80) : frameSound station (frameOf station kind tag body) = true := by
  have hcrc := crc16_checked (checkedBytes station kind tag body)
  simp only [frameSound, frameOf, checkedBytes, List.cons_append] at hcrc ⊢
  simp [hcrc]
  exact hk

theorem frameOf_complete (h : body.length ≤ 200) : frameComplete (frameOf station kind tag body) = true := by
  have hlimit : Config.bodyLimit = 200 := rfl
  have hget : (frameOf station kind tag body)[4]? = some (BitVec.ofNat 8 body.length) := rfl
  have hlen : (frameOf station kind tag body).length = body.length + 7 := by
    simp only [frameOf, checkedBytes, bytesOfWord, List.length_cons, List.length_append, List.length_nil]
  simp only [frameComplete, hget, hlen, length_toNat h, hlimit]
  simp [frameOf, h]

/-- A whole frame has its length byte in its place, and as many bytes as that says. -/
theorem frameComplete_iff : frameComplete frame = true ↔
    frame.head? = some 0x5A ∧ ∃ n, frame[4]? = some n ∧ n.toNat ≤ 200 ∧ frame.length = n.toNat + 7 := by
  have hlead : Config.leadByte = 0x5A := rfl
  have hlimit : Config.bodyLimit = 200 := rfl
  cases h : frame[4]? <;> simp [frameComplete, h, hlead, hlimit]

/-- A receiver that has collected the first bytes of a whole frame completes it with the rest. -/
theorem hearAll_rest {p q : List Byte} (hwhole : frameComplete (p ++ q) = true) (hp : p ≠ []) (hq : q ≠ []) :
    hearAll (.assembling p 0) q = (.hunting, some (p ++ q)) := by
  have hlimit : Config.bodyLimit = 200 := rfl
  obtain ⟨-, n, hn, hle, hlen⟩ := frameComplete_iff.mp hwhole
  induction q generalizing p with
  | nil => exact absurd rfl hq
  | cons b q ih =>
    have hassoc : p ++ b :: q = (p ++ [b]) ++ q := by simp
    have hshort : ¬((p ++ [b]).length = 5 ∧ Config.bodyLimit < b.toNat) := by
      rintro ⟨h5, hb⟩
      have hfour : (p ++ b :: q)[4]? = some b := by
        rw [hassoc, List.getElem?_append_left (by omega), List.getElem?_append_right (by simp at h5; omega)]
        simp at h5
        simp [h5]
      cases hn.symm.trans hfour
      omega
    have hhear : (Receiver.assembling p 0).hear b =
        if frameComplete (p ++ [b]) then .complete (p ++ [b]) else .on (.assembling (p ++ [b]) 0) := by
      simp only [Receiver.hear, if_neg hshort]
    simp only [hearAll, List.foldl_cons, hhear]
    cases q with
    | nil => simp [hwhole]
    | cons b' q =>
      have hpart : frameComplete (p ++ [b]) = false := by
        rw [Bool.eq_false_iff]
        intro h
        obtain ⟨-, m, hm, -, hlen'⟩ := frameComplete_iff.mp h
        have hsame : (p ++ b :: b' :: q)[4]? = some m := by
          rw [hassoc, List.getElem?_append_left (by omega), hm]
        cases hn.symm.trans hsame
        simp only [List.length_append, List.length_cons] at hlen hlen'
        simp at hlen'
        omega
      rw [hpart]
      rw [hassoc] at hwhole hn hlen ⊢
      exact ih hwhole (by simp) (by simp) hn hlen

theorem hearAll_frame (hwhole : frameComplete frame = true) : hearAll .hunting frame = (.hunting, some frame) := by
  obtain ⟨hhead, n, hn, -, hlen⟩ := frameComplete_iff.mp hwhole
  match frame, hhead, hlen with
  | b :: rest, hhead, hlen =>
    cases hhead
    exact hearAll_rest (p := [0x5A]) hwhole (by simp) (by rintro rfl; simp at hlen)

/-! ### The request of a frame (R160 to R162) -/

variable {l : Link}

theorem requestCommand_listed : ∀ kind ∈ listedKinds, requestOf (requestCommand l kind tag body) = some (l, kind, tag, body) := by
  simp only [listedKinds, List.forall_mem_cons, List.not_mem_nil, false_implies, implies_true, and_true]
  exact ⟨rfl, rfl, rfl, rfl, rfl, rfl, rfl, rfl, rfl, rfl, rfl, rfl, rfl, rfl, rfl, rfl, rfl, rfl, rfl, rfl, rfl, rfl, rfl, rfl, rfl,
    rfl, rfl⟩

theorem requestCommand_unlisted (h : kind ∉ listedKinds) : requestCommand l kind tag body = .unknownKind l kind tag body := by
  unfold requestCommand
  split
  case h_28 => rfl
  all_goals
    rename_i hk
    have hkind := BitVec.ofNat_toNat 8 kind
    rw [hk] at hkind
    exact absurd (by rw [← BitVec.setWidth_eq kind, ← hkind]; decide) h

theorem requestOf_requestCommand (hk : kind < 0x80) :
    requestOf (requestCommand l kind tag body) = some (l, kind, tag, body) := by
  by_cases hmem : kind ∈ listedKinds
  · exact requestCommand_listed kind hmem
  · have hunlisted : kindUnlisted kind = true := by
      simp [kindUnlisted, hmem]
      exact hk
    rw [requestCommand_unlisted hmem, requestOf, if_pos hunlisted]

theorem frameCommand_unsound {s : State} (h : frameSound (stationByte s l) frame = false) :
    frameCommand s l frame = .frameDiscarded l frame := by
  unfold frameCommand
  split
  · rw [if_neg (by simp [h])]
  · rfl

theorem frameCommand_frameOf {s : State} (hk : kind < 0x80) (hlen : body.length ≤ 200) :
    requestOf (frameCommand s l (frameOf (stationByte s l) kind tag body)) = some (l, kind, tag, body) := by
  have hframe : frameCommand s l (frameOf (stationByte s l) kind tag body) =
      if frameSound (stationByte s l) (frameOf (stationByte s l) kind tag body) = true then
        requestCommand l kind tag
          ((body ++ bytesOfWord (crc16 (checkedBytes (stationByte s l) kind tag body))).take (BitVec.ofNat 8 body.length).toNat)
      else .frameDiscarded l (frameOf (stationByte s l) kind tag body) := rfl
  rw [hframe, if_pos (frameOf_sound hk), length_toNat hlen, List.take_left]
  exact requestOf_requestCommand hk

end Frames

/-! ### Characters (R157) -/

section Chars

theorem byteOfBits_dataBits : ∀ b : Byte, byteOfBits (dataBits b) = b := by decide +kernel

/-- The parity of a list of bits is its number of ones, modulo 2. -/
theorem foldl_xor_toNat (data : List Bool) (acc : Bool) :
    (data.foldl xor acc).toNat = (acc.toNat + data.countP (fun bit => bit)) % 2 := by
  induction data generalizing acc with
  | nil => cases acc <;> rfl
  | cons b data ih =>
    rw [List.foldl_cons, ih, List.countP_cons]
    cases acc <;> cases b <;> simp [Nat.add_comm]
    omega

theorem parityOf_toNat {data : List Bool} : (parityOf data).toNat = data.countP (fun bit => bit) % 2 := by
  rw [parityOf, foldl_xor_toNat, Bool.toNat_false, Nat.zero_add]

/-- With its parity bit, the number of ones is even; with the other bit, odd. -/
theorem countP_parity {data : List Bool} {parity : Bool} :
    (data ++ [parity]).countP (fun bit => bit) % 2 = 0 ↔ parity = parityOf data := by
  have h := parityOf_toNat (data := data)
  rw [List.countP_append]
  cases parity <;> cases hp : parityOf data <;> rw [hp] at h <;> simp at h ⊢ <;> omega

theorem readChar_charBits (l : Link) (b : Byte) : readChar l (charBits l b) = .byte b := by
  have hbyte : byteOfBits ((charBits l b).drop 1 |>.take 8) = b := byteOfBits_dataBits b
  have htail : (charBits l b).drop 9 = charTail l (((charBits l b).drop 1).take 8) := by cases l <;> rfl
  have hplace : ((charBits l b).head? != some false || (charBits l b).length != (charBits l 0).length ||
      (charBits l b).getLast? != some true) = false := by
    cases l <;> rfl
  simp only [readChar, hplace, Bool.false_eq_true, if_false, if_pos htail, hbyte]

/-- A start or stop bit out of place is a framing error, whatever the bits between. -/
theorem readChar_framing {l : Link} {start stop : Bool} {bits : List Bool} (h : start = true ∨ stop = false) :
    readChar l (start :: (bits ++ [stop])) = .faulty .framing := by
  have hlast : (start :: (bits ++ [stop])).getLast? = some stop := by rw [← List.cons_append, List.getLast?_concat]
  refine if_pos ?_
  rw [hlast, List.head?_cons]
  obtain rfl | rfl := h <;> simp

/-- An odd number of ones is a parity error on the field link. -/
theorem readChar_parity {parity : Bool} {data : List Bool} (hlen : data.length = 8) (hp : parity ≠ parityOf data) :
    readChar .field (false :: (data ++ [parity, true])) = .faulty .parity := by
  have hlast : (false :: (data ++ [parity, true])).getLast? = some true := by
    rw [show false :: (data ++ [parity, true]) = (false :: (data ++ [parity])) ++ [true] by simp, List.getLast?_concat]
  have hdata : ((false :: (data ++ [parity, true])).drop 1).take 8 = data := by simp [← hlen]
  have htail : (false :: (data ++ [parity, true])).drop 9 = [parity, true] := by simp [← hlen]
  have hwhole : (false :: (data ++ [parity, true])).length = (charBits .field 0).length := by
    rw [List.length_cons, List.length_append, hlen]
    rfl
  simp only [readChar, hlast, hdata, htail, hwhole, charTail]
  rw [if_neg (by simp), if_neg (by simpa using hp)]

end Chars

/-- Settles O9. -/
theorem frameCheckIsSound : Obligations.FrameCheckIsSound := by
  refine ⟨fun station kind tag body => ⟨crc16_checked _, frameOf_sound, fun hlen => ⟨frameOf_complete hlen, hearAll_frame (frameOf_complete hlen)⟩⟩,
    fun l s kind tag body hk hlen => frameCommand_frameOf hk hlen, fun l s frame h => frameCommand_unsound h, readChar_charBits,
    fun b => ⟨rfl, rfl, rfl, parityOf (dataBits b), rfl, countP_parity.mpr rfl⟩,
    fun start stop parity data hlen => ⟨fun h => ?_, fun hodd => ?_⟩⟩
  · refine ⟨?_, readChar_framing h⟩
    have h := readChar_framing (l := .field) (bits := data ++ [parity]) h
    rwa [List.append_assoc] at h
  · exact readChar_parity hlen fun hp => absurd (countP_parity.mpr hp) (by omega)

end Sys2Proof.Machine

/-! The Attention Unit's requests, the changed sets and the store's writes: O11, O50, O51. -/

namespace Sys2Proof.Machine

/-! ### The store (R184 to R188) -/

section Stores
variable {s : State}

theorem ask_state {c : WorkConfig} {t : Store} : (t.ask (.image c)).state = .saving := by
  cases h : t.inProgress <;> simp [Store.ask, Store.state, h, Write.isImage]

/-- An image asked for while none is held makes the store SAVING, which is a PLANT record's change. -/
theorem putStore_ask {c : WorkConfig} (h : s.store.state ≠ .saving) :
    putStore (s.store.ask (.image c)) s = { s with store := s.store.ask (.image c), plant := report s.env .plant none s.plant } := by
  simp only [putStore, ask_state, if_neg h.symm]

/-- What a write's end leaves beside the store: at most a PLANT entry, and STORE_FAULT where it failed. -/
theorem noteFailure_putStore {how : WriteEnd} {x : Store} :
    (noteFailure how (putStore x s)).env = s.env ∧ (noteFailure how (putStore x s)).links = s.links ∧
      (noteFailure how (putStore x s)).store = x ∧ (noteFailure how (putStore x s)).plant.units = s.plant.units ∧
      Cause.storeFault.isIn (noteFailure how (putStore x s)).plant.attn.present =
        (Cause.storeFault.isIn s.plant.attn.present || how != .succeeded) := by
  have hunits : (putStore x s).plant.units = s.plant.units := by
    simp only [putStore]
    split <;> rfl
  have hpresent : (putStore x s).plant.attn.present = s.plant.attn.present := by
    simp only [putStore]
    split <;> rfl
  simp only [noteFailure]
  split
  · rename_i h
    exact ⟨putStore_env .., putStore_links .., putStore_store .., hunits, by simp [hpresent, h]⟩
  · rename_i h
    exact ⟨putStore_env .., putStore_links .., putStore_store .., hunits, by simp [raiseCause, hpresent, h]⟩

/-- Settles O11. -/
theorem storeWritesStartAndEnd : Obligations.StoreWritesStartAndEnd := by
  refine ⟨fun l tag s hslot hsaving hrestart => ?save, fun how c s h => ?image, fun how locks s r numbers h hslot => ?locks⟩
  case save =>
    have hcheck : (notSaving s && !s.store.restarting) = true := by rw [notSaving_eq_true.mpr hsaving, hrestart]; rfl
    refine exec_accepted rfl hslot (by unfold ownerOf handleSaveConfig; rfl) (by rw [hcheck]; rfl) ?_
    rw [putStore_ask hsaving]
    cases h : s.store.inProgress <;> simp [Store.ask, h, Answer.now]
  case image =>
    obtain ⟨henv, hlinks, hstore, hunits, hfault⟩ := noteFailure_putStore (s := s) (how := how) (x := s.store.endWrite how)
    have hend : s.store.endWrite how = { s.store with image := areaAfter how c s.store.image, inProgress := s.store.waiting, waiting := none } := by
      simp only [Store.endWrite, h]
    refine ⟨_, if_pos (by simp [h, Write.isImage]), henv, hlinks, hunits, ?_, hfault⟩
    rw [hstore, hend]
    cases how <;> rfl
  case locks =>
    obtain ⟨henv, hlinks, hstore, hunits, hfault⟩ := noteFailure_putStore (s := s) (how := how) (x := s.store.endWrite how)
    have hend : s.store.endWrite how = { s.store with lockArea := areaAfter how locks s.store.lockArea, inProgress := s.store.waiting, waiting := none } := by
      simp only [Store.endWrite, h]
    have hport (k : Link) : (noteFailure how (putStore (s.store.endWrite how) s)).port k = s.port k := congrArg (·.ports.get k) hlinks
    refine ⟨_, if_pos (by simp [h, Write.isImage]), henv, hunits, hstore.trans ?_, ?_, ?_, hfault⟩
    · rw [hend]
      cases how <;> rfl
    · rw [releasePanel, putPort_port_ne _ _ _ (by decide), hport]
    · rw [releasePanel, putPort_port, hport, hslot]
      rfl

end Stores

/-! ### Alerts (R174 to R178) -/

section Alerts
variable {a : Attention} {now : Nat} {masks named : Word16} {c : Cause}

theorem count_foldl_setCount {gone : List Cause} :
    (gone.foldl (fun (b : Attention) c => b.setCount c 0) a).count c = if c ∈ gone then 0 else a.count c := by
  induction gone generalizing a with
  | nil => simp
  | cons d gone ih =>
    rw [List.foldl_cons, ih, count_setCount]
    by_cases hd : c = d <;> by_cases hg : c ∈ gone <;> simp [hd, hg]

/-- Nothing named is present: nothing is acknowledged. -/
theorem acknowledge_none (h : acknowledged named a = []) : a.acknowledge now masks named = a :=
  if_pos (by rw [show Cause.every.filter _ = [] from h]; rfl)

theorem acknowledge_some (h : acknowledged named a ≠ []) : a.acknowledge now masks named =
    (((acknowledged named a).foldl (fun (b : Attention) c => b.setCount c 0)
      { a with present := a.present &&& ~~~causeSet (acknowledged named a) }).report now .plant none).setRelay masks :=
  if_neg (by rw [List.isEmpty_iff]; exact h)

theorem acknowledge_isIn :
    c.isIn (a.acknowledge now masks named).present = (c.isIn a.present && !(acknowledged named a).contains c) := by
  by_cases h : acknowledged named a = []
  · simp [acknowledge_none h, h]
  · rw [acknowledge_some h, setRelay_present, report_present, (foldl_setCount _ 0 _).1]
    simp

theorem count_acknowledge : (a.acknowledge now masks named).count c = if c ∈ acknowledged named a then 0 else a.count c := by
  by_cases h : acknowledged named a = []
  · simp [acknowledge_none h, h]
  · rw [acknowledge_some h, count_setRelay, count_report, count_foldl_setCount]
    rfl

theorem acknowledge_relay (h : acknowledged named a ≠ []) :
    (a.acknowledge now masks named).relayOn = relayRule (a.acknowledge now masks named).present masks := by
  rw [acknowledge_some h]
  rfl

theorem acknowledge_notesPlant (h : acknowledged named a ≠ []) : (a.acknowledge now masks named).notesPlant := by
  rw [acknowledge_some h]
  exact Attention.notesPlant_plant

theorem causeBytes_eq : causeBytes masks a c = [BitVec.ofNat 8 (c.index.val + 1), if c.latched then 2 else 1,
    if c.isIn masks then 1 else 0, BitVec.ofNat 8 (a.count c)] := by
  cases c <;> rfl

/-- Settles O50. -/
theorem alertRequestsAct : Obligations.AlertRequestsAct := by
  refine ⟨fun l tag s hslot => ⟨fun body h => ?_, ?_, fun body h => ⟨?_, ?_⟩, fun hi lo => ?ack, fun hi lo hsaving => ?masks⟩,
    fun l start s htimer hran => ?moderation⟩
  · refine exec_answered rfl hslot ?_
    cases body with
    | nil => exact absurd rfl h
    | cons => rfl
  · refine exec_answered rfl hslot ?_
    simp only [← causeBytes_eq, ownerOf, handleReadAlerts, alertBytes, byteList, List.length_map]
    rfl
  · refine exec_answered rfl hslot ?_
    match body, h with
    | [], _ => rfl
    | [_], _ => rfl
    | [_, _], h => exact absurd rfl h
    | _ :: _ :: _ :: _, _ => rfl
  · refine exec_answered rfl hslot ?_
    match body, h with
    | [], _ => rfl
    | [_], _ => rfl
    | [_, _], h => exact absurd rfl h
    | _ :: _ :: _ :: _, _ => rfl
  case ack =>
    refine ⟨_, _, exec_answered (l := l) rfl hslot rfl, congrArg Port.slot (putPort_port ..), fun c => acknowledge_isIn, fun c => count_acknowledge,
      fun h => ?_, fun h => ⟨acknowledge_relay h, acknowledge_notesPlant h⟩,
      ⟨causeSet (acknowledged (hi ++ lo) s.plant.attn), fun c => Cause.isIn_causeSet, ?_⟩, rfl, rfl, rfl⟩
    · exact congrArg (fun a => { s.plant with attn := a }) (acknowledge_none h)
    · have hcounts : ((acknowledged (hi ++ lo) s.plant.attn).map (fun c => byte1 (s.plant.attn.count c))).flatten =
          (acknowledged (hi ++ lo) s.plant.attn).map (fun c => BitVec.ofNat 8 (s.plant.attn.count c)) := by
        rw [← List.flatMap_def]
        exact (List.map_eq_flatMap ..).symm
      exact congrArg (fun b => Reply.mk 0x29 tag .done (bytesOfWord _ ++ b ++ bytesOfWord _)) hcounts
  case masks =>
    exact exec_accepted rfl hslot (by unfold ownerOf handleSetAlertMasks; rfl) (by rw [notSaving_eq_true.mpr hsaving]; rfl) rfl
  case moderation => exact congrArg _ (if_pos (moderationDue_iff.mpr ⟨start, htimer, hran⟩))

end Alerts

/-! ### Changed sets (R179 to R183) -/

section Changes
variable {c : ChangedSet} {k : RecordKey} {now : Nat} {why : Option Reason}

theorem take_present (h : ∃ x ∈ c.entries, x.key = k) : c.take now k why =
    { c with entries := c.entries.map (fun x => if x.key = k then { x with reason := why.or x.reason } else x) } := by
  obtain ⟨x, hx, hk⟩ := h
  refine (if_pos (List.any_eq_true.mpr ⟨x, hx, by simp [hk]⟩)).trans ?_
  simp only [beq_iff_eq]

theorem take_new (h : ∀ x ∈ c.entries, x.key ≠ k) : c.take now k why =
    if c.entries.length < 64 then
      { c with entries := c.entries ++ [⟨k, why⟩], timer := if c.entries = [] then .since now else c.timer }
    else { entries := [], overfull := true, timer := .stopped } := by
  have hlimit : Config.changedSetLimit = 64 := rfl
  have hno : ¬ (c.entries.any fun x => x.key == k) = true := by simpa using h
  refine (if_neg hno).trans ?_
  by_cases hroom : c.entries.length < 64
  · rw [if_pos hroom, if_neg (by omega)]
    simp only [List.isEmpty_iff]
  · rw [if_neg hroom, if_pos (by omega)]

theorem entryBytes_eq {x : Entry} : entryBytes x =
    match x.key with
    | .unit u => [1, BitVec.ofNat 8 u.number]
    | .sump u => [2, match u with | .c => (1 : Byte) | .e => 2 | .w => 3]
    | .plant => [3]
    | .order n =>
      [4, BitVec.ofNat 8 (n / 256), BitVec.ofNat 8 n,
        match x.reason with
        | none => 0 | some .withdrawn => 1 | some .expired => 2 | some .replaced => 3 | some .stoodDown => 4] := by
  obtain ⟨k, why⟩ := x
  cases k with
  | sump u => cases u <;> rfl
  | order n =>
    cases why with
    | none => rfl
    | some why => cases why <;> rfl
  | _ => rfl

/-- The settings of SET REPORTING are in range. -/
theorem readReporting_some {t m mode : Byte} (h : 1 ≤ t.toNat ∧ t.toNat ≤ 64 ∧ 1 ≤ m.toNat ∧ m.toNat ≤ 60 ∧ (mode = 1 ∨ mode = 2)) :
    readReporting t m mode = some { threshold := t.toNat, moderation := m.toNat, clearOnRead := mode == 1 } := by
  obtain ⟨h1, h2, h3, h4, rfl | rfl⟩ := h
  · exact if_pos ⟨h1, h2, h3, h4, by decide, by decide⟩
  · exact if_pos ⟨h1, h2, h3, h4, by decide, by decide⟩

theorem readReporting_none {t m mode : Byte} (h : ¬(1 ≤ t.toNat ∧ t.toNat ≤ 64 ∧ 1 ≤ m.toNat ∧ m.toNat ≤ 60 ∧ (mode = 1 ∨ mode = 2))) :
    readReporting t m mode = none := by
  refine if_neg fun ⟨h1, h2, h3, h4, h5, h6⟩ => h ⟨h1, h2, h3, h4, ?_⟩
  obtain h | h : mode.toNat = 1 ∨ mode.toNat = 2 := by omega
  · exact .inl (BitVec.eq_of_toNat_eq h)
  · exact .inr (BitVec.eq_of_toNat_eq h)

/-- Settles O51. -/
theorem changeRequestsAct : Obligations.ChangeRequestsAct := by
  refine ⟨fun now k why c => ⟨take_present, take_new⟩, fun e k why p l => by cases l <;> rfl, fun l tag s hslot => ?_⟩
  have hlimit : Config.changedSetLimit = 64 := rfl
  refine ⟨fun body h => ?_, ?_, fun body h => ?_, fun n h => ?_, fun n h => ?_, fun body h => ?_, fun a m mode => ⟨fun hsaving => ?_,
    fun hsaving hfits => ?_, fun hsaving hfits => ?_⟩, rfl⟩
  · refine exec_answered rfl hslot ?_
    cases body with
    | nil => exact absurd rfl h
    | cons => rfl
  · refine exec_answered rfl hslot (Prod.ext ?_ ?_)
    · cases h : (s.env.cfg.reporting.get l).clearOnRead <;> simp only [ownerOf, handleReadChanges, h] <;> rfl
    · simp only [ownerOf, handleReadChanges, changesBytes, List.length_take]
      exact congrArg (fun b : List (List Byte) => Answer.done (_ ++ b.flatten)) (List.map_congr_left fun x _ => entryBytes_eq)
  · refine exec_answered rfl hslot ?_
    match body, h with
    | [], _ => rfl
    | [_], h => exact absurd rfl h
    | _ :: _ :: _, _ => rfl
  · exact exec_answered rfl hslot (if_pos h)
  · refine exec_answered rfl hslot ((if_neg (by omega)).trans ?_)
    simp only [ChangedSet.dropOldest, List.length_drop]
    rfl
  · refine exec_answered rfl hslot ?_
    match body, h with
    | [], _ => rfl
    | [_], _ => rfl
    | [_, _], _ => rfl
    | [_, _, _], h => exact absurd rfl h
    | _ :: _ :: _ :: _ :: _, _ => rfl
  · exact exec_refused rfl hslot (by unfold ownerOf handleSetReporting; rfl) (by rw [notSaving_eq_false.mpr hsaving]; rfl)
  · exact exec_refused rfl hslot (by unfold ownerOf handleSetReporting; rfl)
      (by rw [notSaving_eq_true.mpr hsaving, readReporting_none hfits]; rfl)
  · refine exec_accepted rfl hslot (by unfold ownerOf handleSetReporting; rfl)
      (by rw [notSaving_eq_true.mpr hsaving, readReporting_some hfits]; rfl) ?_
    simp only [readReporting_some hfits, takeReporting]
    cases (s.changes l).timer <;> rfl

end Changes

end Sys2Proof.Machine

/-! Orders that join and leave the table (R6, R13, R14, R18, R21, R22, R26): O15, O17, O21. -/

namespace Sys2Proof.Machine

/-! ### The resolution of one unit -/

section Resolution
variable {s : State} {u w : UnitId}

/-- The unit's record follows the table, and no other record moves (R10, R11, R33). -/
theorem resolve_unit : (resolve [u] s).plant.units.get u = unitRecOf s.env.cfg (resolve [u] s).env.table u := by
  obtain ⟨-, hn⟩ | h := foldl_syncUnit_units { s.env with table := resolveTable s.env.cfg [u] s.env.table } u [u]
    ((changedGovernance s.env.cfg [u] s.env.table).foldl
      (fun a n => report { s.env with table := resolveTable s.env.cfg [u] s.env.table } (.order n) none a) s.plant)
  · simp at hn
  · exact h

theorem resolve_other (h : w ≠ u) : (resolve [u] s).plant.units.get w = s.plant.units.get w := by
  have hreports := foldl_report_units { s.env with table := resolveTable s.env.cfg [u] s.env.table } RecordKey.order none
    (changedGovernance s.env.cfg [u] s.env.table) s.plant
  simp only [resolve, List.foldl_cons, List.foldl_nil]
  obtain hs | ⟨hs, -⟩ := syncUnit_units (e := { s.env with table := resolveTable s.env.cfg [u] s.env.table }) (u := u)
      (p := (changedGovernance s.env.cfg [u] s.env.table).foldl
        (fun a n => report { s.env with table := resolveTable s.env.cfg [u] s.env.table } (.order n) none a) s.plant)
  · rw [hs, PerUnit.get_set_ne _ _ h, hreports]
  · rw [hs, hreports]

end Resolution

/-! ### The reason of a removal (R21, R180) -/

/-- Every entry that names the order carries the reason. -/
def Told (n : Nat) (why : Reason) (p : Plant) : Prop := ∀ l : Link, ∀ x ∈ (p.attn.sets.get l).entries, x.key = .order n → x.reason = some why

section Told
variable {e : Env} {n : Nat} {why : Reason} {a p : Plant}

/-- What a report does to each entry that names the order: it is taken over, or it is the report itself. -/
theorem take_entry {c : ChangedSet} {now : Nat} {k : RecordKey} {r : Option Reason} {x : Entry} (h : x ∈ (c.take now k r).entries) :
    x ∈ c.entries ∧ x.key ≠ k ∨ (∃ y ∈ c.entries, x.key = k ∧ y.key = k ∧ x.reason = r.or y.reason) ∨ x = ⟨k, r⟩ := by
  by_cases hk : ∃ y ∈ c.entries, y.key = k
  · rw [take_present hk] at h
    obtain ⟨y, hy, rfl⟩ := List.mem_map.mp h
    by_cases hyk : y.key = k
    · rw [if_pos hyk]
      exact .inr (.inl ⟨y, hy, hyk, hyk, rfl⟩)
    · rw [if_neg hyk]
      exact .inl ⟨hy, hyk⟩
  · have hnew : ∀ y ∈ c.entries, y.key ≠ k := fun y hy he => hk ⟨y, hy, he⟩
    rw [take_new hnew] at h
    split at h
    · obtain h | h := List.mem_append.mp h
      · exact .inl ⟨h, hnew x h⟩
      · exact .inr (.inr (List.mem_singleton.mp h))
    · exact absurd h List.not_mem_nil

theorem report_set {k : RecordKey} {r : Option Reason} (l : Link) :
    (report e k r p).attn.sets.get l = (p.attn.sets.get l).take e.clock k r := by cases l <;> rfl

/-- The removal's own report tells the reason, whatever stood before. -/
theorem told_removed : Told n why (report e (.order n) (some why) p) := by
  intro l x hx hk
  rw [report_set] at hx
  obtain ⟨-, h⟩ | ⟨y, -, -, -, h⟩ | rfl := take_entry hx
  · exact absurd hk h
  · exact h
  · rfl

/-- A report of another record leaves it told. -/
theorem Told.report {k : RecordKey} {r : Option Reason} (h : Told n why p) (hk : k ≠ .order n) : Told n why (report e k r p) := by
  intro l x hx hx'
  rw [report_set] at hx
  obtain ⟨hm, -⟩ | ⟨y, -, he, -⟩ | rfl := take_entry hx
  · exact h l x hm hx'
  · exact absurd (he.symm.trans hx') hk
  · exact absurd hx' hk

theorem Told.attn (h : Told n why p) {q : Plant} (hq : q.attn.sets = p.attn.sets) : Told n why q := by
  intro l
  rw [hq]
  exact h l

/-- No write of the plant's blocks reports an order. -/
theorem Told.write {w : PlantWrite} (h : Told n why p) : Told n why (w.run e p) := by
  cases w with
  | pump i q =>
    simp only [PlantWrite.run, putPump]
    split
    · exact h.attn rfl
    · exact Told.report (h.attn rfl) (by simp)
  | portal i q =>
    simp only [PlantWrite.run, putPortal]
    split
    · exact h.attn rfl
    · exact Told.report (h.attn rfl) (by simp)
  | zone z q =>
    simp only [PlantWrite.run, putZone]
    split
    · exact h.attn rfl
    · exact Told.report (h.attn rfl) (by simp)
  | join u => exact h.attn (by simp [PlantWrite.run])
  | raise c => exact Told.attn (Told.report (p := p) (e := e) (k := .plant) (r := none) h (by simp)) rfl
  | _ => exact h.attn rfl

theorem Told.wrote {ok : Plant → PlantWrite → Prop} (h : Told n why a) (hw : Wrote e ok a p) : Told n why p :=
  hw.induct (fun _ _ _ => Told.write) h

theorem Told.settlePlant (h : Told n why p) : Told n why (settlePlant e p) := by
  have hblocks : Told n why (blocksAct e p) := h.wrote (blocksAct_wrote .refl)
  rw [settlePlant_eq]
  simp only [refreshConditions, Attention.conditions]
  split
  · exact hblocks
  · exact Told.attn (Told.report (e := e) (k := .plant) (r := none) hblocks (by simp)) rfl

theorem Told.syncUnit {u : UnitId} (h : Told n why p) : Told n why (syncUnit e u p) := by
  simp only [Machine.syncUnit]
  split
  · exact h
  · have hrecord : Told n why (Machine.report e (.unit u) none { p with units := p.units.set u (unitRecOf e.cfg e.table u) }) :=
      Told.report (h.attn rfl) (by simp)
    split
    · exact hrecord.wrote (onLock_wrote .refl)
    · split
      · exact hrecord.wrote (onUnlock_wrote .refl)
      · exact hrecord

theorem foldl_told {β : Type} {f : Plant → β → Plant} {l : List β} (hf : ∀ q, ∀ x ∈ l, Told n why q → Told n why (f q x)) (h : Told n why p) :
    Told n why (l.foldl f p) := by
  induction l generalizing p with
  | nil => exact h
  | cons x l ih => exact ih (fun q y hy => hf q y (List.mem_cons_of_mem _ hy)) (hf p x List.mem_cons_self h)

/-- A resolution reports the orders of the table alone. -/
theorem Told.resolve {s : State} {us : List UnitId} (h : Told n why s.plant) (hn : ∀ o ∈ s.env.table, o.number ≠ n) :
    Told n why (resolve us s).plant := by
  refine foldl_told (fun q u _ => Told.syncUnit) (foldl_told (fun q m hm hq => hq.report ?_) h)
  obtain ⟨o, ho, rfl⟩ := List.mem_map.mp hm
  simpa using hn o (List.mem_of_mem_filter ho)

theorem Told.putStore {s : State} {x : Store} (h : Told n why s.plant) : Told n why (putStore x s).plant := by
  simp only [Machine.putStore]
  split
  · exact h
  · exact h.report (by simp)

end Told

/-! ### An order leaves (R18, R21, R22) -/

section Leaves
variable {s : State} {o : Order} {why : Reason}

/-- The table without the order of a number, its unit resolved again. -/
def withoutOrder (o : Order) (why : Reason) (s : State) : State := resolve [o.unit] (removeOrders (fun x => x.number == o.number) why s)

theorem withoutOrder_table : (withoutOrder o why s).env =
    { s.env with table := resolveTable s.env.cfg [o.unit] (s.env.table.filter (fun x => x.number != o.number)) } := rfl

theorem withoutOrder_unit : (withoutOrder o why s).plant.units.get o.unit = unitRecOf s.env.cfg (withoutOrder o why s).env.table o.unit :=
  resolve_unit

theorem withoutOrder_other {w : UnitId} (h : w ≠ o.unit) : (withoutOrder o why s).plant.units.get w = s.plant.units.get w := by
  rw [withoutOrder, resolve_other h, removeOrders_units]

theorem withoutOrder_told (h : TableIn s.env) (ho : o ∈ s.env.table) : Told o.number why (withoutOrder o why s).plant := by
  refine Told.resolve ?_ fun x hx => by simpa using (List.mem_filter.mp hx).2
  have hone : s.env.table.filter (fun x => x.number == o.number) = [o] := by
    obtain ⟨before, after, hsplit⟩ := List.append_of_mem ho
    have hnodup := h.records.numbers
    rw [hsplit, List.map_append, List.map_cons, List.nodup_append, List.nodup_cons] at hnodup
    obtain ⟨-, ⟨hafter, -⟩, hbefore⟩ := hnodup
    have hb : before.filter (fun x => x.number == o.number) = [] := by
      refine List.filter_eq_nil_iff.mpr fun x hx => ?_
      simpa using hbefore _ (List.mem_map_of_mem hx) _ List.mem_cons_self
    have ha : after.filter (fun x => x.number == o.number) = [] := by
      refine List.filter_eq_nil_iff.mpr fun x hx hn => hafter ?_
      exact List.mem_map.mpr ⟨x, hx, by simpa using hn⟩
    rw [hsplit, List.filter_append, List.filter_cons_of_pos (by simp), hb, ha, List.nil_append]
  simp only [removeOrders, hone, List.foldl_cons, List.foldl_nil]
  exact told_removed

/-- A lockout that joins or leaves has the lockout area written, where `c` holds (R27): beside the store, at most a PLANT entry. -/
theorem askIf_frame {c : Prop} [Decidable c] :
    (if c then askLockoutWrite s else s).env = s.env ∧ (if c then askLockoutWrite s else s).links = s.links ∧
      (if c then askLockoutWrite s else s).pending = s.pending ∧
      (if c then askLockoutWrite s else s).plant.units = s.plant.units ∧
      (if c then askLockoutWrite s else s).store = (if c then s.store.ask (.locks (lockouts s.env.table)) else s.store) := by
  split
  · exact ⟨putStore_env .., putStore_links .., putStore_pending .., putStore_units .., putStore_store ..⟩
  · exact ⟨rfl, rfl, rfl, rfl, rfl⟩

/-- An answered request changes the links by its reply alone, where its owner leaves them. -/
theorem answered_links {l : Link} {x y : Slot} {t : State} (h : t.links = s.links) (hxy : x = y) :
    (putPort l { t.port l with rx := .hunting, slot := x } t).links = (putPort l { s.port l with rx := .hunting, slot := y } s).links := by
  simp only [putPort, State.port, h, hxy]

/-- The order of a number of the table. -/
theorem find_number (h : TableIn s.env) (ho : o ∈ s.env.table) {p : Order → Bool} (hp : p o = true) {n : Nat} (hn : o.number = n) :
    s.env.table.find? (fun x => x.number == n && p x) = some o := by
  have hsome : (s.env.table.find? (fun x => x.number == n && p x)).isSome = true := by
    rw [List.find?_isSome]
    exact ⟨o, ho, by simp [hn, hp]⟩
  obtain ⟨x, hx⟩ := Option.isSome_iff_exists.mp hsome
  have hmatch := List.find?_some hx
  simp only [Bool.and_eq_true, beq_iff_eq] at hmatch
  rw [hx, h.records.unique (List.mem_of_find?_eq_some hx) ho (hmatch.1.trans hn.symm)]

theorem find_number' (h : TableIn s.env) (ho : o ∈ s.env.table) {n : Nat} (hn : o.number = n) :
    s.env.table.find? (fun x => x.number == n) = some o := by
  simpa using find_number h ho (p := fun _ => true) rfl hn

/-- Settles O17. -/
theorem ordersLeaveTheTable : Obligations.OrdersLeaveTheTable := by
  intro s hok
  have htable := (tableOk_iff.mp hok).1
  refine ⟨fun l tag nh nl h hslot => ⟨fun hnone => ?_, fun o ho hn => ⟨fun hown => ?_, fun hissuer hholder => ?_⟩⟩,
    fun o ho hlate => ?_, fun o ho instant hexp hdue => ?_⟩
  · have hfind : s.env.table.find? (fun o => o.number == word nh nl) = none := List.find?_eq_none.mpr fun o ho => by simpa using hnone o ho
    exact exec_answered rfl hslot (by simp only [ownerOf, handleWithdraw, hfind]; rfl)
  · refine exec_answered rfl hslot ?_
    simp only [ownerOf, handleWithdraw, find_number' htable ho hn]
    exact if_pos (.inr (by by_contra hno; exact hown (by simpa [not_or] using hno)))
  · have hkey : ¬(o.issuer = .key ∨ o.issuer ≠ issuerOfLink l ∨ o.holder ≠ h.toNat) := by
      rintro (hk | hk | hk)
      · exact issuerOfLink_ne_key l (hissuer ▸ hk)
      · exact hk hissuer
      · exact hk hholder
    obtain ⟨henv, hlinks, hpending, hunits, hstore⟩ := askIf_frame (s := withoutOrder o .withdrawn s) (c := (o.rank == .lockout) = true)
    have hanswer : exec (.withdraw l tag [nh, nl, h]) s = .next
        (putPort l { (acceptWithdraw o s).1.port l with rx := .hunting, slot := slotFor 0x03 tag (acceptWithdraw o s).2 }
          (acceptWithdraw o s).1) := by
      rw [exec_request rfl, takeRequest_empty hslot]
      simp only [ownerOf, handleWithdraw, find_number' htable ho hn, if_neg hkey]
    refine ⟨_, hanswer, henv.trans withoutOrder_table, ?_, fun w hw => ?_, hpending, ?_, ?_, ?_⟩
    · rw [putPort_plant]
      exact (congrArg (PerUnit.get · o.unit) ((settle_units _).trans hunits)).trans
        (withoutOrder_unit.trans (congrArg (unitRecOf _ ·.table o.unit) henv.symm))
    · rw [putPort_plant]
      exact (congrArg (PerUnit.get · w) ((settle_units _).trans hunits)).trans (withoutOrder_other hw)
    · have htold : Told o.number .withdrawn (acceptWithdraw o s).1.plant := by
        refine Told.settlePlant ?_
        split
        · exact (withoutOrder_told htable ho).putStore
        · exact withoutOrder_told htable ho
      exact htold
    · refine answered_links hlinks ?_
      by_cases hlock : o.rank = .lockout <;> simp [slotFor, acceptWithdraw, hlock]
    · refine hstore.trans ?_
      simp only [beq_iff_eq]
      rw [putPort_env, show (acceptWithdraw o s).1.env = _ from henv]
      rfl
  · refine orderExpiry_nothing fun x hx hn => ?_
    cases htable.records.unique hx ho hn
    rw [Bool.eq_false_iff]
    intro hd
    obtain ⟨instant, hi, hle⟩ := orderDue_iff.mp hd
    exact absurd (hlate instant hi) (by omega)
  · have hdue' : orderDue s.env o = true := orderDue_iff.mpr ⟨instant, hexp, hdue⟩
    refine ⟨settle (withoutOrder o .expired s), ?_, withoutOrder_table, ?_, fun w hw => ?_, rfl, ?_, rfl, rfl⟩
    · simp only [exec, execOrderExpiry, find_number htable ho hdue' rfl]
      rfl
    · rw [settle_units]
      exact withoutOrder_unit
    · rw [settle_units]
      exact withoutOrder_other hw
    · exact (withoutOrder_told htable ho).settlePlant

end Leaves

end Sys2Proof.Machine

/-! Orders that join the table: O15, O21. -/

namespace Sys2Proof.Machine

/-! ### The number of a new order (R6) -/

section Number
variable {s : State}

/-- The search tries the numbers one after the other and stops at the first that is free. -/
theorem freeNumber_walk (table : List Order) (m : Nat) : ∀ {n j : Nat}, j < m → nextNumber^[j] n ∉ table.map Order.number →
    ∃ k ≤ j, freeNumber table m n = nextNumber^[k] n ∧ nextNumber^[k] n ∉ table.map Order.number ∧
      ∀ i < k, nextNumber^[i] n ∈ table.map Order.number := by
  induction m with
  | zero => intro n j hj; omega
  | succ m ih =>
    intro n j hj hfree
    by_cases htaken : n ∈ table.map Order.number
    · have hany : table.any (fun o => o.number == n) = true := by simpa using htaken
      obtain _ | j := j
      · exact absurd htaken hfree
      rw [Function.iterate_succ_apply] at hfree
      obtain ⟨k, hk, heq, hkfree, hall⟩ := ih (n := nextNumber n) (by omega) hfree
      refine ⟨k + 1, by omega, ?_, ?_, fun i hi => ?_⟩
      · simp only [freeNumber, hany, if_true, heq, Function.iterate_succ_apply]
      · rwa [Function.iterate_succ_apply]
      · cases i with
        | zero => exact htaken
        | succ i =>
          rw [Function.iterate_succ_apply]
          exact hall i (by omega)
    · have hany : ¬ table.any (fun o => o.number == n) = true := by simpa using htaken
      exact ⟨0, Nat.zero_le _, by simp only [freeNumber, if_neg hany, Function.iterate_zero, id], htaken, fun i hi => absurd hi (by omega)⟩

/-- The number drawn is the first free one from the counter on, within 33 (R6). -/
theorem TableIn.drawNumber (h : TableIn s.env) : ∃ k ≤ 32, drawNumber s = nextNumber^[k] s.env.counter ∧
    (∀ x ∈ s.env.table, x.number ≠ nextNumber^[k] s.env.counter) ∧
    ∀ j < k, ∃ x ∈ s.env.table, x.number = nextNumber^[j] s.env.counter := by
  obtain ⟨j, hj, hfree⟩ := exists_free (h.keys.length h.records) h.counter
  obtain ⟨k, hk, heq, hkfree, hall⟩ := freeNumber_walk s.env.table 33 hj hfree
  exact ⟨k, by omega, heq, fun x hx he => hkfree (List.mem_map.mpr ⟨x, hx, he⟩), fun i hi => List.mem_map.mp (hall i hi)⟩

theorem nextNumber_eq {n : Nat} (h : n ≤ 65535) : nextNumber n = if n = 65535 then 1 else n + 1 := by
  simp only [nextNumber]
  by_cases hn : n = 65535
  · rw [if_pos hn, if_pos (by omega)]
  · rw [if_neg hn, if_neg (by omega)]

end Number

/-! ### PLACE (R13, R14) -/

section Place
variable {s : State} {l : Link} {w : Wish} {kind tag : Byte}

/-- The state without the order that a PLACE replaces. -/
def withoutOwned (l : Link) (w : Wish) (s : State) : State :=
  if (replacedBy s l w).isSome then removeOrders (sameOwner (issuerOfLink l) w.holder w.unit) .replaced s else s

/-- The order that a PLACE adds. -/
def placedOrder (l : Link) (w : Wish) (s : State) : Order :=
  { number := drawNumber (withoutOwned l w s), issuer := issuerOfLink l, holder := w.holder, unit := w.unit, rank := w.rank, verb := w.verb
    arg := w.arg, yieldStage := w.yieldStage, expiresAt := expiryFrom s.env.clock w.expiry, revision := 0, governance := .outranked }

theorem withoutOwned_frame : (withoutOwned l w s).env =
      { s.env with table := s.env.table.filter (fun o => !sameOwner (issuerOfLink l) w.holder w.unit o) } ∧
    (withoutOwned l w s).links = s.links ∧ (withoutOwned l w s).store = s.store ∧ (withoutOwned l w s).pending = s.pending ∧
    (withoutOwned l w s).plant.units = s.plant.units := by
  simp only [withoutOwned]
  split
  · exact ⟨rfl, rfl, rfl, rfl, removeOrders_units ..⟩
  · rename_i h
    refine ⟨?_, rfl, rfl, rfl, rfl⟩
    have hall : s.env.table.filter (fun o => !sameOwner (issuerOfLink l) w.holder w.unit o) = s.env.table := by
      refine List.filter_eq_self.mpr fun o ho => ?_
      simp only [replacedBy, Option.isSome_iff_ne_none, ne_eq, not_not, List.find?_eq_none] at h
      simpa using h o ho
    rw [hall]

/-- The table with the order joined and its unit resolved again. -/
def joined (l : Link) (w : Wish) (s : State) : State :=
  resolve [w.unit] (joinTable (issuerOfLink l) w.holder w.unit w.rank w.verb w.arg w.yieldStage w.expiry (withoutOwned l w s))

theorem joined_env : (joined l w s).env = { s.env with
    table := resolveTable s.env.cfg [w.unit]
      (s.env.table.filter (fun o => !sameOwner (issuerOfLink l) w.holder w.unit o) ++ [placedOrder l w s])
    counter := nextNumber (placedOrder l w s).number } := by
  obtain ⟨henv, -⟩ := withoutOwned_frame (l := l) (w := w) (s := s)
  simp only [joined, resolve_env, joinTable, placedOrder, henv]

theorem joined_frame : (joined l w s).links = s.links ∧ (joined l w s).store = s.store ∧ (joined l w s).pending = s.pending := by
  obtain ⟨-, hlinks, hstore, hpending, -⟩ := withoutOwned_frame (l := l) (w := w) (s := s)
  exact ⟨hlinks, hstore, hpending⟩

theorem joined_unit : (joined l w s).plant.units.get w.unit = unitRecOf s.env.cfg (joined l w s).env.table w.unit := by
  obtain ⟨henv, -⟩ := withoutOwned_frame (l := l) (w := w) (s := s)
  refine resolve_unit.trans ?_
  simp only [joined, joinTable, henv]

theorem joined_other {u : UnitId} (h : u ≠ w.unit) : (joined l w s).plant.units.get u = s.plant.units.get u := by
  obtain ⟨-, -, -, -, hunits⟩ := withoutOwned_frame (l := l) (w := w) (s := s)
  rw [joined, resolve_other h]
  exact congrArg (PerUnit.get · u) hunits

/-- The governance that the reply tells is that of the order that joined. -/
theorem governanceIn_joined {c : WorkConfig} {table : List Order} {o : Order} (h : ∀ x ∈ table, x.number ≠ o.number) :
    governanceIn (resolveTable c [o.unit] (table ++ [o])) o.number = governanceOf c (table ++ [o]) o := by
  have hnumber (x : Order) : ((if [o.unit].contains x.unit = true then { x with governance := governanceOf c (table ++ [o]) x } else x).number == o.number) =
      (x.number == o.number) := by split <;> rfl
  have hnone : table.find? (fun x => x.number == o.number) = none := List.find?_eq_none.mpr fun x hx => by simpa using h x hx
  simp only [governanceIn, resolveTable, List.find?_map, Function.comp_def, hnumber, List.find?_append, hnone, Option.none_or]
  simp

/-- What an accepted PLACE leaves is the joined table, and the write that its lockouts ask for. -/
theorem acceptPlace_frame : (acceptPlace l w s).1.env = (joined l w s).env ∧ (acceptPlace l w s).1.links = s.links ∧
    (acceptPlace l w s).1.pending = s.pending ∧ (acceptPlace l w s).1.plant.units = (joined l w s).plant.units ∧
    (acceptPlace l w s).1.store =
      if w.rank = .lockout ∨ (replacedBy s l w).any (fun o => o.rank == .lockout) = true then
        s.store.ask (.locks (lockouts (joined l w s).env.table))
      else s.store := by
  obtain ⟨hlinks, hstore, hpending⟩ := joined_frame (l := l) (w := w) (s := s)
  obtain ⟨haenv, halinks, hapending, haunits, hastore⟩ := askIf_frame (s := joined l w s)
    (c := w.rank = .lockout ∨ (replacedBy s l w).any (fun o => o.rank == .lockout) = true)
  refine ⟨haenv, halinks.trans hlinks, hapending.trans hpending, (settle_units _).trans haunits, hastore.trans ?_⟩
  rw [hstore]

/-- What the answer holds: the new number, then the replaced order's or the new governance; the numbers wait for a lockout write. -/
theorem acceptPlace_answer : slotFor kind tag (acceptPlace l w s).2 =
    (let numbers := byte2 (placedOrder l w s).number ++ ((replacedBy s l w).map fun o => byte2 o.number).getD []
     let payload := if (replacedBy s l w).isSome then numbers
       else numbers ++ byte1 (governanceIn (joined l w s).env.table (placedOrder l w s).number).code
     if w.rank = .lockout ∨ (replacedBy s l w).any (fun o => o.rank == .lockout) = true then .deferred ⟨kind, tag, .done, payload⟩ numbers
     else .waiting ⟨kind, tag, .done, payload⟩) := by
  obtain ⟨henv, -⟩ := acceptPlace_frame (l := l) (w := w) (s := s)
  have htable : (settle (placeOrder l w s)).env.table = (joined l w s).env.table := congrArg Env.table henv
  by_cases hlock : w.rank = .lockout ∨ (replacedBy s l w).any (fun o => o.rank == .lockout) = true
  · have hflag : (w.rank == .lockout || (replacedBy s l w).any fun o => o.rank == .lockout) = true := by simpa using hlock
    simp only [acceptPlace, slotFor, hflag, if_true, if_pos hlock, htable]
    rfl
  · have hflag : (w.rank == .lockout || (replacedBy s l w).any fun o => o.rank == .lockout) = false := by
      rw [Bool.eq_false_iff]
      simpa using hlock
    simp only [acceptPlace, slotFor, hflag, if_neg hlock, htable]
    rfl

theorem numbersOf {x : Option Order} : (x.map fun o => byte2 o.number).getD [] = match x with | some x => byte2 x.number | none => [] := by
  cases x <;> rfl

theorem payloadOf {x : Option Order} {a b : List Byte} : (if x.isSome = true then a else a ++ b) = a ++ match x with | some _ => [] | none => b := by
  cases x <;> simp

/-- The checks of a PLACE pass when each of its tests holds (R12). -/
theorem placeChecks_pass (hverb : verbFits w.unit w.rank w.verb = true) (hholder : holderFits l w.holder = true)
    (harg : argFits w.verb w.arg = true) (hyield : yieldFits w.rank w.yieldStage = true) (hexpiry : expiryFits w.rank w.expiry = true)
    (hmap : mapAllows s.env.cfg l w.unit w.rank = true)
    (hstage : w.rank = .standing → s.env.relevantStage w.unit < effectiveYield s.env.cfg (issuerOfLink l) w.yieldStage)
    (hservice : serviceOf s.env.cfg w.unit = .inService ∨ (s.env.cfg.authority.get l).dormantAccept = true)
    (hroom : (replacedBy s l w).isSome = true ∨ s.env.table.countP Order.fromLink < 30) :
    firstFailure (placeChecks l w s) = none := by
  have hlimit : Config.linkOrderLimit = 30 := rfl
  refine firstFailure_eq_none.mpr ?_
  simp only [placeChecks, List.forall_mem_cons, List.not_mem_nil, false_implies, implies_true, and_true, Bool.and_eq_true,
    Bool.or_eq_true, decide_eq_true_eq, beq_iff_eq, stageAllows, bne_iff_ne, hlimit]
  exact ⟨hverb, ⟨⟨⟨hholder, harg⟩, hyield⟩, hexpiry⟩, hmap, (em (w.rank = .standing)).symm.imp id hstage, hservice, hroom⟩

/-- Settles O15. -/
theorem placeAccepted : Obligations.PlaceAccepted := by
  intro l tag u r v a y xh xl h U R V s hok hslot hu hr hv hverb hholder harg hyield hexpiry hmap hstage hservice owned old kept lockChange hroom
  have htable := (tableOk_iff.mp hok).1
  let w : Wish := ⟨h.toNat, U, R, V, absentOnes a, absentZero y.toNat, absentZero (word xh xl)⟩
  have hchecks : firstFailure (placeChecks l w s) = none :=
    placeChecks_pass (w := w) hverb hholder harg hyield hexpiry hmap hstage hservice hroom
  obtain ⟨henv, -⟩ := withoutOwned_frame (l := l) (w := w) (s := s)
  have htable' : TableIn (withoutOwned l w s).env := (replaced_leaves htable rfl (by
    simp only [Bool.or_eq_true, decide_eq_true_eq]
    exact hroom)).1
  obtain ⟨k, hk, hdraw, hfree, htaken⟩ := htable'.drawNumber
  simp only [henv] at hdraw hfree htaken
  have hanswer : exec (.place l tag [u, r, v, a, y, xh, xl, h]) s = .next
      (putPort l { (acceptPlace l w s).1.port l with rx := .hunting, slot := slotFor 0x01 tag (acceptPlace l w s).2 }
        (acceptPlace l w s).1) := by
    rw [exec_request rfl, takeRequest_empty hslot]
    simp only [ownerOf, handlePlace, hu, hr, hv]
    rw [guarded_pass hchecks]
  obtain ⟨htenv, hlinks, hpending, hunits, hstore⟩ := acceptPlace_frame (l := l) (w := w) (s := s)
  refine ⟨_, k, hanswer, hk, ?_⟩
  intro n o numbers payload reply
  have hplaced : placedOrder l w s = o := by
    simp only [placedOrder, hdraw]
    rfl
  have hnumber : n ≤ 65535 := by
    have hrange := htable'.drawn.2
    rwa [hdraw] at hrange
  have hjoined : (joined l w s).env =
      { s.env with table := resolveTable s.env.cfg [U] (kept ++ [o]), counter := if n = 65535 then 1 else n + 1 } := by
    rw [joined_env, hplaced, nextNumber_eq (show o.number ≤ 65535 from hnumber)]
    rfl
  have hgov : governanceIn (joined l w s).env.table o.number = governanceOf s.env.cfg (kept ++ [o]) o := by
    rw [hjoined]
    exact governanceIn_joined hfree
  have hunit : (joined l w s).plant.units.get U = unitRecOf s.env.cfg (joined l w s).env.table U := joined_unit
  refine ⟨hfree, htaken, htenv.trans hjoined, ?_, fun u hu => ?_, hpending, answered_links hlinks ?_, ?_⟩
  · rw [putPort_plant, putPort_env, hunits, htenv, hunit]
  · rw [putPort_plant, hunits, joined_other hu]
  · rw [acceptPlace_answer, hplaced, hgov]
    simp only [numbersOf, payloadOf]
    rfl
  · rw [putPort_store, putPort_env, hstore, htenv]
    rfl

end Place

/-! ### The key switches (R26) -/

/-- Settles O21. -/
theorem keyOrderJoinsAndLeaves : Obligations.KeyOrderJoinsAndLeaves := by
  intro k s hok
  have htable := (tableOk_iff.mp hok).1
  refine ⟨fun start hstart hran hin hon => ?_, fun start hstart hran hin hon => ?_⟩
  · have hdue : keyDue s.env k = true := keyDue_iff.mpr ⟨by simp [hin, hon], start, hstart, hran⟩
    obtain ⟨j, hj, hdraw, hfree, htaken⟩ := htable.drawNumber
    have hrange := htable.drawn.2
    rw [hdraw] at hrange
    have hset : drawNumber (setKey k true s) = nextNumber^[j] s.env.counter := hdraw
    refine ⟨_, j, (exec_keyDebounceExpiry hdue).trans (congrArg _ (if_pos hin)), hj, hfree, htaken, ?_, ?_, ?_, rfl, rfl⟩
    · simp only [settle_env, resolve_env, joinTable, hset]
      cases k <;> rfl
    · simp only [settle_env, resolve_env, joinTable, hset]
      exact nextNumber_eq hrange
    · rw [settle_units]
      exact resolve_unit
  · have hdue : keyDue s.env k = true := keyDue_iff.mpr ⟨by simp [hin, hon], start, hstart, hran⟩
    refine ⟨_, (exec_keyDebounceExpiry hdue).trans (congrArg _ (if_neg (by simp [hin]))), ?_, rfl, ?_, rfl, rfl⟩
    · simp only [settle_env, resolve_env, removeOrders_env]
      cases k <;> rfl
    · rw [settle_units]
      exact resolve_unit

end Sys2Proof.Machine

/-! The checks of PLACE and what SET AUTHORITY reads (R2, R7, R8, R12): O14, O18. -/

namespace Sys2Proof.Machine

/-! ### Ordered checks -/

section Checks
variable {code c : Code} {rest : List (Bool × Code)} {r : Option Code} {p : Prop} [Decidable p] {ok : Bool}

/-- One check of a run, told by what makes it fail. -/
theorem firstFailure_step (hp : ok = true ↔ ¬p) (hr : firstFailure rest = r) :
    firstFailure ((ok, code) :: rest) = if p then some code else r := by
  rw [firstFailure_cons, hr]
  by_cases h : p
  · rw [if_pos h, if_neg (fun hok => hp.mp hok h)]
  · rw [if_neg h, if_pos (hp.mpr h)]

end Checks

/-! ### The tests of PLACE (R1, R2, R7, R12) -/

section Tests
variable {u : UnitId} {r : Rank} {v : Verb} {s : State} {l : Link} {w : Wish}

theorem kindCode_pump : kindCode u = 1 ↔ ∃ i, u = .pump i := by cases u <;> simp [kindCode]
theorem kindCode_portal : kindCode u = 2 ↔ ∃ i, u = .portal i := by cases u <;> simp [kindCode]
theorem kindCode_zone : kindCode u = 3 ↔ ∃ z, u = .zone z := by cases u <;> simp [kindCode]
theorem kindCode_outfall : kindCode u = 4 ↔ u = .outfall := by cases u <;> simp [kindCode]

/-- Each verb with its rank and its kind of unit (R2). -/
theorem verbFits_iff : verbFits u r v = true ↔
    (r = .lockout ∧ v = .lock ∧ u ≠ .outfall) ∨
    (r ≠ .lockout ∧
      (((∃ i, u = .pump i) ∧ (v = .run ∨ v = .stop)) ∨ ((∃ i, u = .portal i) ∧ (v = .open ∨ v = .close ∨ v = .hold)) ∨
        ((∃ z, u = .zone z) ∧ v = .level) ∨ (u = .outfall ∧ v = .limit))) := by
  simp only [← kindCode_pump, ← kindCode_portal, ← kindCode_zone, ← kindCode_outfall]
  cases v <;> simp [verbFits, kindCode_outfall]

theorem holderFits_iff {h : Nat} : holderFits l h = true ↔ (l = .field ∧ h = 0) ∨ (l = .panel ∧ 1 ≤ h ∧ h ≤ 15) := by
  cases l <;> simp [holderFits]

theorem argFits_iff {a : Option Nat} : argFits v a = true ↔
    (v = .level ∧ ∃ n ≤ 100, a = some n) ∨ (v = .limit ∧ ∃ n ≤ 8, a = some n) ∨ (v ≠ .level ∧ v ≠ .limit ∧ a = none) := by
  cases v <;> cases a <;> simp [argFits]

theorem yieldFits_iff {y : Option Nat} : yieldFits r y = true ↔ y = none ∨ (r = .standing ∧ ∃ n, y = some n ∧ 1 ≤ n ∧ n ≤ 4) := by
  cases y <;> simp [yieldFits, and_assoc]

theorem expiryFits_iff {x : Option Nat} : expiryFits r x = true ↔ (r = .lockout → x = none) := by
  cases r <;> cases x <;> simp [expiryFits]

theorem stageAllows_iff {i : Issuer} {y : Option Nat} : stageAllows s.env i u r y = true ↔
    ¬(r = .standing ∧ effectiveYield s.env.cfg i y ≤ s.env.relevantStage u) := by
  simp only [stageAllows, Bool.or_eq_true, bne_iff_ne, decide_eq_true_eq, not_and, Nat.not_le]
  exact ⟨fun h hr => h.resolve_left (absurd hr), fun h => (em (r = .standing)).symm.imp id h⟩

/-- The checks of a PLACE, in their order (R12). -/
theorem placeChecks_first : firstFailure (placeChecks l w s) =
    if verbFits w.unit w.rank w.verb = false then some .verbMismatch
    else if ¬(holderFits l w.holder = true ∧ argFits w.verb w.arg = true ∧ yieldFits w.rank w.yieldStage = true ∧
      expiryFits w.rank w.expiry = true) then some .badField
    else if mapAllows s.env.cfg l w.unit w.rank = false then some .noAuthority
    else if w.rank = .standing ∧ effectiveYield s.env.cfg (issuerOfLink l) w.yieldStage ≤ s.env.relevantStage w.unit then some .stageHigh
    else if serviceOf s.env.cfg w.unit ≠ .inService ∧ (s.env.cfg.authority.get l).dormantAccept = false then some .unitDormant
    else if s.env.table.any (sameOwner (issuerOfLink l) w.holder w.unit) = false ∧ 30 ≤ s.env.table.countP Order.fromLink then some .tableFull
    else none := by
  have hlimit : Config.linkOrderLimit = 30 := rfl
  have hreplaced : (replacedBy s l w).isSome = s.env.table.any (sameOwner (issuerOfLink l) w.holder w.unit) := by
    rw [replacedBy, List.isSome_find?]
  refine firstFailure_step (by simp) (firstFailure_step (by simp [and_assoc]) (firstFailure_step (by simp)
    (firstFailure_step stageAllows_iff (firstFailure_step ?_ (firstFailure_step ?_ rfl)))))
  · simp only [Bool.or_eq_true, beq_iff_eq, not_and, ne_eq, Bool.not_eq_false]
    exact ⟨fun h hn => h.resolve_left hn, fun h => (em _).imp id h⟩
  · rw [hreplaced, hlimit]
    simp only [Bool.or_eq_true, decide_eq_true_eq, not_and, Nat.not_le]
    cases s.env.table.any (sameOwner (issuerOfLink l) w.holder w.unit) <;> simp

/-- What names nothing, and what is named beside it (log 7). -/
theorem codesFit_iff {r : Option Rank} {v : Option Verb} (h : r = none ∨ v = none) : codesFit u r v = true ↔
    ¬(r = some .lockout ∨ ∃ V, v = some V ∧ verbFits u .standing V = false) := by
  cases r with
  | none => cases v <;> simp [codesFit]
  | some r =>
    cases v with
    | none => simp [codesFit]
    | some v => simp at h

/-- A PLACE with a code that names nothing (log 7). -/
theorem handlePlace_codes {b r v : Byte} {bytes : Byte × Byte × Byte × Byte × Byte} (hu : unitOf b = some u)
    (h : rankOf r = none ∨ verbOf v = none) :
    handlePlace l [b, r, v, bytes.1, bytes.2.1, bytes.2.2.1, bytes.2.2.2.1, bytes.2.2.2.2] s =
      (s, .refuse (if codesFit u (rankOf r) (verbOf v) = true then .badField else .verbMismatch)) := by
  simp only [handlePlace, hu]
  cases hr : rankOf r with
  | none => rfl
  | some R =>
    cases hv : verbOf v with
    | none => rfl
    | some V => simp [hr, hv] at h

/-- Settles O14. -/
theorem placeChecksInOrder : Obligations.PlaceChecksInOrder := by
  refine ⟨fun U R V => verbFits_iff, fun l h => holderFits_iff, fun V a => argFits_iff, fun R y => yieldFits_iff, fun R x => expiryFits_iff,
    fun c l U R => by cases R <;> rfl, fun c l y => by cases l <;> rfl, fun a => rfl, fun n => rfl, fun l tag s hslot => ⟨fun body hlen => ?_,
    fun u r v a y xh xl h => ⟨fun hu => ?_, fun U hu => ⟨fun hnone => ⟨fun hmis => ?_, fun hfit => ?_⟩, fun R V hr hv c hc => ?_⟩⟩⟩⟩
  · refine exec_answered rfl hslot ?_
    simp only [ownerOf, handlePlace]
    split
    · exact absurd rfl hlen
    · rfl
  · exact exec_answered rfl hslot (by simp only [ownerOf, handlePlace, hu]; rfl)
  · have hcode := handlePlace_codes (s := s) (l := l) (bytes := (a, y, xh, xl, h)) hu hnone
    rw [if_neg (fun hfit => (codesFit_iff hnone).mp hfit hmis)] at hcode
    exact exec_answered rfl hslot hcode
  · have hcode := handlePlace_codes (s := s) (l := l) (bytes := (a, y, xh, xl, h)) hu hnone
    rw [if_pos ((codesFit_iff hnone).mpr hfit)] at hcode
    exact exec_answered rfl hslot hcode
  · refine exec_refused rfl hslot (by simp only [ownerOf, handlePlace, hu, hr, hv]; rfl) (placeChecks_first.trans hc)

end Tests

/-! ### SET AUTHORITY (R8, R24) -/

section Authority
variable {s : State}

/-- A rank set as its byte (R173). -/
def rankSetByte (r : RankSet) : Byte := BitVec.ofNat 8 (r.lockout.toNat + 2 * r.overriding.toNat + 4 * r.standing.toNat)

theorem rankSetOf_byte (r : RankSet) : rankSetOf (rankSetByte r) = some r := by
  obtain ⟨a, b, c⟩ := r
  cases a <;> cases b <;> cases c <;> rfl

theorem readRankSets_bytes {f : UnitId → RankSet} (l : List UnitId) : readRankSets (l.map fun u => rankSetByte (f u)) = some (l.map f) := by
  induction l with
  | nil => rfl
  | cons u l ih => simp only [List.map_cons, readRankSets, rankSetOf_byte, ih]

/-- What a body of SET AUTHORITY is read from: the issuer, the seventeen sets, and the two bytes after them. -/
theorem readAuthority_parts {b d y : Byte} {bytes : List Byte} {sets : List RankSet} {ranks : PerUnit RankSet} {k : Link}
    (hlen : bytes.length = 17) (hissuer : issuerOf b = some (issuerOfLink k)) (hsets : readRankSets bytes = some sets)
    (hranks : perUnitOf sets = some ranks) :
    readAuthority (b :: (bytes ++ [d, y])) =
      if ((k == .panel || sets.all fun r => !r.lockout) && !ranks.outfall.lockout && (d == 1 || d == 2) && decide (1 ≤ y.toNat) &&
        decide (y.toNat ≤ 4)) = true then some (k, ⟨ranks, d == 1, y.toNat⟩) else none := by
  have htake : ((b :: (bytes ++ [d, y])).drop 1).take 17 = bytes := by simp [← hlen]
  have hdrop : (b :: (bytes ++ [d, y])).drop 18 = [d, y] := by simp [← hlen]
  simp only [readAuthority, htake, hdrop, List.head?_cons, Option.bind_some, hissuer, hsets, hranks]
  cases k <;> rfl

/-- The body of a map is read back as the map (R8). -/
theorem readAuthority_body {k : Link} {ranks : PerUnit RankSet} {dormant : Bool} {y : Nat} (h1 : 1 ≤ y) (h4 : y ≤ 4)
    (hout : ranks.outfall.lockout = false) (hfield : k = .field → ∀ u, (ranks.get u).lockout = false) :
    readAuthority (BitVec.ofNat 8 (issuerOfLink k).code ::
      (UnitId.every.map (fun u => rankSetByte (ranks.get u)) ++ [if dormant then 1 else 2, BitVec.ofNat 8 y])) =
      some (k, ⟨ranks, dormant, y⟩) := by
  have hsets : readRankSets (UnitId.every.map fun u => rankSetByte (ranks.get u)) = some (UnitId.every.map ranks.get) :=
    readRankSets_bytes UnitId.every
  have hy : (BitVec.ofNat 8 y).toNat = y := by rw [BitVec.toNat_ofNat, Nat.mod_eq_of_lt (by omega)]
  have hdormant : (if dormant = true then (1 : Byte) else 2) = 1 ∨ (if dormant = true then (1 : Byte) else 2) = 2 := by cases dormant <;> simp
  have hflag : ((if dormant = true then (1 : Byte) else 2) == 1) = dormant := by cases dormant <;> rfl
  have hranks : (k == .panel || (UnitId.every.map ranks.get).all fun r => !r.lockout) = true := by
    cases k with
    | panel => rfl
    | field =>
      simp only [List.all_map, Bool.or_eq_true, List.all_eq_true]
      exact .inr fun u _ => by simp [hfield rfl u]
  have hissuer : issuerOf (BitVec.ofNat 8 (issuerOfLink k).code) = some (issuerOfLink k) := by cases k <;> rfl
  have hmap : perUnitOf (UnitId.every.map ranks.get) = some ranks := rfl
  rw [readAuthority_parts rfl hissuer hsets hmap]
  refine (if_pos ?_).trans (by rw [hflag, hy])
  simp only [hranks, hout, hy, Bool.not_false, Bool.true_and, Bool.and_eq_true, Bool.or_eq_true, beq_iff_eq, decide_eq_true_eq]
  exact ⟨⟨hdormant, h1⟩, h4⟩

/-- Settles O18. -/
theorem setAuthorityAccepted : Obligations.SetAuthorityAccepted := by
  intro k ranks dormant y tag s hslot hsaving h1 h4 hout hfield body cfg outrun
  have hread : readAuthority body = some (k, ⟨ranks, dormant, y⟩) := readAuthority_body h1 h4 hout hfield
  have haccept := exec_accepted (c := .setAuthority .panel tag body) (s := s) rfl hslot (by unfold ownerOf handleAuthority; rfl)
    (by rw [notSaving_eq_true.mpr hsaving, hread]; rfl) (show _ = (acceptAuthority k ⟨ranks, dormant, y⟩ s, Answer.now .done []) by simp only [hread]; rfl)
  exact ⟨_, haccept, rfl, rfl, rfl, rfl⟩

end Authority

end Sys2Proof.Machine

/-! AMEND (R15 to R17): O16. -/

namespace Sys2Proof.Machine

/-! ### The marked fields of a body (R173) -/

section Marks

/-- The mask of the fields that are given. -/
def maskOf (ma mv mr my : Option Byte) (mx : Option (Byte × Byte)) : Byte :=
  BitVec.ofNat 8 (ma.isSome.toNat + 2 * mv.isSome.toNat + 4 * mr.isSome.toNat + 8 * my.isSome.toNat + 16 * mx.isSome.toNat)

/-- Their values, in bit order. -/
def valuesOf (ma mv mr my : Option Byte) (mx : Option (Byte × Byte)) : List Byte :=
  ma.toList ++ mv.toList ++ mr.toList ++ my.toList ++ (match mx with | none => [] | some (xh, xl) => [xh, xl])

/-- The marks of the fields given. -/
def marksOf (ma mv mr my : Option Byte) (mx : Option (Byte × Byte)) : Marks := ⟨ma, mv, mr, my, mx.map fun x => word x.1 x.2⟩

variable {ma mv mr my : Option Byte} {mx : Option (Byte × Byte)}

theorem mask_bits : ∀ a b c d e : Bool,
    let mask := BitVec.ofNat 8 (a.toNat + 2 * b.toNat + 4 * c.toNat + 8 * d.toNat + 16 * e.toNat)
    mask.getLsbD 0 = a ∧ mask.getLsbD 1 = b ∧ mask.getLsbD 2 = c ∧ mask.getLsbD 3 = d ∧ mask.getLsbD 4 = e := by
  decide

theorem maskOf_bits : (maskOf ma mv mr my mx).getLsbD 0 = ma.isSome ∧ (maskOf ma mv mr my mx).getLsbD 1 = mv.isSome ∧
    (maskOf ma mv mr my mx).getLsbD 2 = mr.isSome ∧ (maskOf ma mv mr my mx).getLsbD 3 = my.isSome ∧
    (maskOf ma mv mr my mx).getLsbD 4 = mx.isSome := mask_bits ..

theorem length_toList {x : Option Byte} : x.toList.length = x.isSome.toNat := by cases x <;> rfl

theorem maskOf_length : (valuesOf ma mv mr my mx).length = amendValueLength (maskOf ma mv mr my mx) := by
  obtain ⟨h0, h1, h2, h3, h4⟩ := maskOf_bits (ma := ma) (mv := mv) (mr := mr) (my := my) (mx := mx)
  simp only [valuesOf, amendValueLength, h0, h1, h2, h3, h4, List.length_append, length_toList]
  cases mx <;> rfl

theorem takeMarked_toList {x : Option Byte} {rest : List Byte} : takeMarked x.isSome (x.toList ++ rest) = (x, rest) := by cases x <;> rfl

theorem readMarks_maskOf : readMarks (maskOf ma mv mr my mx) (valuesOf ma mv mr my mx) = marksOf ma mv mr my mx := by
  obtain ⟨h0, h1, h2, h3, h4⟩ := maskOf_bits (ma := ma) (mv := mv) (mr := mr) (my := my) (mx := mx)
  simp only [readMarks, valuesOf, h0, h1, h2, h3, h4, List.append_assoc, takeMarked_toList]
  cases mx <;> rfl

theorem maskOf_lt : (maskOf ma mv mr my mx).toNat < 32 := by
  have hbit (b : Bool) : b.toNat ≤ 1 := b.toNat_le
  have h1 := hbit ma.isSome
  have h2 := hbit mv.isSome
  have h3 := hbit mr.isSome
  have h4 := hbit my.isSome
  have h5 := hbit mx.isSome
  rw [maskOf, BitVec.toNat_ofNat, Nat.mod_eq_of_lt] <;> omega

theorem maskOf_ne (h : ma.isSome = true ∨ mv.isSome = true ∨ mr.isSome = true ∨ my.isSome = true ∨ mx.isSome = true) :
    maskOf ma mv mr my mx ≠ 0 := by
  obtain ⟨h0, h1, h2, h3, h4⟩ := maskOf_bits (ma := ma) (mv := mv) (mr := mr) (my := my) (mx := mx)
  intro hzero
  rw [hzero] at h0 h1 h2 h3 h4
  rw [← h0, ← h1, ← h2, ← h3, ← h4] at h
  simp at h

/-- A mask whose only bits stand above EXPIRY marks nothing (log 8). -/
theorem mask_above {mask : Byte} (h : mask.toNat % 32 = 0) : amendValueLength mask = 0 ∧ readMarks mask [] = ⟨none, none, none, none, none⟩ := by
  have hbit (i : Nat) (hi : i < 5) : mask.getLsbD i = false := by
    have hmod := Nat.testBit_mod_two_pow mask.toNat 5 i
    rw [show mask.toNat % 2 ^ 5 = 0 from h, Nat.zero_testBit, decide_eq_true hi, Bool.true_and] at hmod
    exact hmod.symm
  simp only [amendValueLength, readMarks, takeMarked, hbit 0 (by omega), hbit 1 (by omega), hbit 2 (by omega), hbit 3 (by omega),
    hbit 4 (by omega)]
  exact ⟨rfl, rfl⟩

end Marks

/-! ### The requests by their cases (R15) -/

section Amend
variable {l : Link} {nh nl h rev mask : Byte} {values : List Byte} {s : State} {o : Order} {R : Rank} {V : Verb}

theorem handleAmend_other (hlen : values.length = amendValueLength mask)
    (hfind : s.env.table.find? (fun x => x.number == word nh nl) = some o) (hown : ¬(o.issuer = issuerOfLink l ∧ o.holder = h.toNat)) :
    handleAmend l (nh :: nl :: h :: rev :: mask :: values) s = (s, .refuse .notOwner) := by
  simp only [handleAmend, hlen, ne_eq, not_true_eq_false, if_false, hfind]
  exact if_pos (.inr (by by_contra hno; exact hown (by simpa [not_or] using hno)))

/-- The order is the requester's own. -/
theorem handleAmend_own (hlen : values.length = amendValueLength mask)
    (hfind : s.env.table.find? (fun x => x.number == word nh nl) = some o) (hissuer : o.issuer = issuerOfLink l) (hholder : o.holder = h.toNat) :
    handleAmend l (nh :: nl :: h :: rev :: mask :: values) s =
      if o.revision ≠ rev then (s, .now .stale [o.revision])
      else if mask = 0 then (s, .done [o.revision])
      else
        match amendedRank (readMarks mask values) o, amendedVerb (readMarks mask values) o with
        | some r, some v =>
          guarded (amendChecks l mask (readMarks mask values) o (amended s.env.clock (readMarks mask values) r v o) s)
            (acceptAmend (readMarks mask values) o (amended s.env.clock (readMarks mask values) r v o)) s
        | r, v => (s, .refuse (if rankMayBecome o.rank r && codesFit o.unit r v then .badField else .verbMismatch)) := by
  have hkey : ¬(o.issuer = .key ∨ o.issuer ≠ issuerOfLink l ∨ o.holder ≠ h.toNat) := by
    rintro (hk | hk | hk)
    · exact issuerOfLink_ne_key l (hissuer ▸ hk)
    · exact hk hissuer
    · exact hk hholder
  simp only [handleAmend, hlen, ne_eq, not_true_eq_false, if_false, hfind, if_neg hkey]
  <;> rfl

theorem rankMayBecome_iff {old : Rank} {new : Option Rank} :
    rankMayBecome old new = true ↔ ¬(new ≠ some old ∧ (new = some .lockout ∨ old = .lockout)) := by
  simp only [rankMayBecome, Bool.or_eq_true, Bool.and_eq_true, beq_iff_eq, bne_iff_ne, not_and, not_or]
  exact ⟨fun h hn => (h.resolve_left hn).symm, fun h => (em _).imp id fun hn => (h hn).symm⟩

theorem expiryFits_from {now : Nat} {x : Option Nat} : expiryFits R (expiryFrom now x) = expiryFits R x := by cases x <;> rfl

/-- Steps 6 to 9 on an amended result whose mask marks no bit above EXPIRY. -/
theorem amendChecks_first {m : Marks} {a : Order} (hmask : mask.toNat < 32) : firstFailure (amendChecks l mask m o a s) =
    if (a.rank ≠ o.rank ∧ (a.rank = .lockout ∨ o.rank = .lockout)) ∨ verbFits a.unit a.rank a.verb = false then some .verbMismatch
    else if (m.arg ≠ none ∧ a.verb.carriesArg = false) ∨
      ¬(argFits a.verb a.arg = true ∧ yieldFits a.rank a.yieldStage = true ∧ expiryFits a.rank a.expiresAt = true) then some .badField
    else if mapAllows s.env.cfg l a.unit a.rank = false then some .noAuthority
    else if a.rank = .standing ∧ effectiveYield s.env.cfg (issuerOfLink l) a.yieldStage ≤ s.env.relevantStage a.unit then some .stageHigh
    else none := by
  refine firstFailure_step ?_ (firstFailure_step ?_ (firstFailure_step (by simp) (firstFailure_step stageAllows_iff rfl)))
  · rw [Bool.and_eq_true, rankMayBecome_iff, not_or, Bool.not_eq_false]
    simp
  · rw [decide_eq_true hmask]
    cases m.arg <;> cases a.verb.carriesArg <;> simp [and_assoc]

/-- The amendment changes the order when a field differs or an expiry is set (R17). -/
theorem amendChanges_iff {m : Marks} {a : Order} : amendChanges m o a = true ↔
    a.rank ≠ o.rank ∨ a.verb ≠ o.verb ∨ a.arg ≠ o.arg ∨ a.yieldStage ≠ o.yieldStage ∨
      ∃ n, m.expiry = some n ∧ (n ≠ 0 ∨ o.expiresAt ≠ none) := by
  have hexpiry : (match m.expiry with
      | none => false
      | some 0 => o.expiresAt.isSome
      | some _ => true) = true ↔ ∃ n, m.expiry = some n ∧ (n ≠ 0 ∨ o.expiresAt ≠ none) := by
    split
    · rename_i h
      simp [h]
    · rename_i h
      simp [h, Option.isSome_iff_ne_none]
    · rename_i n hn h
      simp [h, show n ≠ 0 from hn]
  simp only [amendChanges, Bool.or_eq_true, bne_iff_ne, or_assoc, ne_comm (a := o.rank), ne_comm (a := o.verb), ne_comm (a := o.arg),
    ne_comm (a := o.yieldStage)]
  exact or_congr_right (or_congr_right (or_congr_right (or_congr_right hexpiry)))

end Amend

/-! ### The amended result -/

section Result
variable {l : Link} {tag nh nl h rev : Byte} {s : State} {o : Order} {R : Rank} {V : Verb} {ma mv mr my : Option Byte} {mx : Option (Byte × Byte)}

/-- The order with the fields given (R16). -/
def amendedBy (now : Nat) (ma my : Option Byte) (mx : Option (Byte × Byte)) (R : Rank) (V : Verb) (o : Order) : Order :=
  { o with
    rank := R, verb := V
    arg := match ma with | none => o.arg | some x => absentOnes x
    yieldStage := match my with
      | none => if R = .overriding then none else o.yieldStage
      | some x => absentZero x.toNat
    expiresAt := match mx with
      | none => o.expiresAt
      | some (xh, xl) => (absentZero (word xh xl)).map (fun n => now + 1000 * n) }

theorem amended_marksOf {now : Nat} : amended now (marksOf ma mv mr my mx) R V o = amendedBy now ma my mx R V o := by
  cases mx <;> rfl

/-- The table with the order replaced by its next revision. -/
def writeOrder (b : Order) (s : State) : State :=
  { s with
    env := { s.env with table := s.env.table.map (fun x => if x.number == b.number then b else x) }
    plant := report s.env (.order b.number) none s.plant }

theorem acceptAmend_eq {m : Marks} {a : Order} (hn : a.number = o.number) : acceptAmend m o a s =
    if amendChanges m o a = true then
      (settle (if a.rank = o.rank then writeOrder { a with revision := o.revision + 1 } s
        else resolve [o.unit] (writeOrder { a with revision := o.revision + 1 } s)), .done [o.revision + 1])
    else (s, .done [o.revision]) := by
  simp only [acceptAmend, writeOrder, replaceRecord, hn, eq_comm (a := a.rank)]

/-- The request with the fields given. -/
def amendBody (nh nl h rev : Byte) (ma mv mr my : Option Byte) (mx : Option (Byte × Byte)) : List Byte :=
  nh :: nl :: h :: rev :: maskOf ma mv mr my mx :: valuesOf ma mv mr my mx

section Own
variable (hslot : (s.port l).slot = .empty) (hfind : s.env.table.find? (fun x => x.number == word nh nl) = some o)
  (hissuer : o.issuer = issuerOfLink l) (hholder : o.holder = h.toNat) (hrev : o.revision = rev) (hmask : maskOf ma mv mr my mx ≠ 0)
include hslot hfind hissuer hholder hrev hmask

/-- A code that names nothing (log 7). -/
theorem exec_amend_codes {rank : Option Rank} {verb : Option Verb} (hr : amendedRank (marksOf ma mv mr my mx) o = rank)
    (hv : amendedVerb (marksOf ma mv mr my mx) o = verb) (hnone : rank = none ∨ verb = none) :
    exec (.amend l tag (amendBody nh nl h rev ma mv mr my mx)) s = .next (replied l 0x02 tag
      (if rankMayBecome o.rank rank = true ∧ codesFit o.unit rank verb = true then .badField else .verbMismatch) [] s) := by
  refine exec_answered rfl hslot ((handleAmend_own maskOf_length hfind hissuer hholder).trans ?_)
  rw [if_neg (by simp [hrev]), if_neg hmask, readMarks_maskOf]
  simp only [hr, hv, ← Bool.and_eq_true]
  cases rank with
  | none => rfl
  | some R =>
    cases verb with
    | none => rfl
    | some V => simp at hnone

omit hslot in
theorem ownerOf_amend (hr : amendedRank (marksOf ma mv mr my mx) o = some R) (hv : amendedVerb (marksOf ma mv mr my mx) o = some V) :
    ownerOf (.amend l tag (amendBody nh nl h rev ma mv mr my mx)) s =
      guarded (amendChecks l (maskOf ma mv mr my mx) (marksOf ma mv mr my mx) o (amendedBy s.env.clock ma my mx R V o) s)
        (acceptAmend (marksOf ma mv mr my mx) o (amendedBy s.env.clock ma my mx R V o)) s := by
  refine (handleAmend_own maskOf_length hfind hissuer hholder).trans ?_
  rw [if_neg (by simp [hrev]), if_neg hmask, readMarks_maskOf]
  simp only [hr, hv, amended_marksOf]

/-- The first check of steps 6 to 9 that fails decides (R15). -/
theorem exec_amend_refused {c : Code} (hr : amendedRank (marksOf ma mv mr my mx) o = some R)
    (hv : amendedVerb (marksOf ma mv mr my mx) o = some V)
    (hc : firstFailure (amendChecks l (maskOf ma mv mr my mx) (marksOf ma mv mr my mx) o (amendedBy s.env.clock ma my mx R V o) s) = some c) :
    exec (.amend l tag (amendBody nh nl h rev ma mv mr my mx)) s = .next (replied l 0x02 tag c [] s) :=
  exec_refused rfl hslot (ownerOf_amend hfind hissuer hholder hrev hmask hr hv) hc

/-- An accepted AMEND takes the fields given, and changes the order only where one of them differs (R16, R17). -/
theorem exec_amend_accepted (hr : amendedRank (marksOf ma mv mr my mx) o = some R) (hv : amendedVerb (marksOf ma mv mr my mx) o = some V)
    (hrank : R = o.rank ∨ (R ≠ .lockout ∧ o.rank ≠ .lockout)) (hverb : verbFits o.unit R V = true) (hcarries : ma = none ∨ V.carriesArg = true)
    (harg : argFits V (amendedBy s.env.clock ma my mx R V o).arg = true)
    (hyield : yieldFits R (amendedBy s.env.clock ma my mx R V o).yieldStage = true)
    (hexpiry : expiryFits R (amendedBy s.env.clock ma my mx R V o).expiresAt = true) (hmap : mapAllows s.env.cfg l o.unit R = true)
    (hstage : R = .standing → s.env.relevantStage o.unit < effectiveYield s.env.cfg o.issuer (amendedBy s.env.clock ma my mx R V o).yieldStage) :
    exec (.amend l tag (amendBody nh nl h rev ma mv mr my mx)) s = .next (
      if amendChanges (marksOf ma mv mr my mx) o (amendedBy s.env.clock ma my mx R V o) = true then
        replied l 0x02 tag .done [rev + 1]
          (settle (if R = o.rank then writeOrder { amendedBy s.env.clock ma my mx R V o with revision := rev + 1 } s
            else resolve [o.unit] (writeOrder { amendedBy s.env.clock ma my mx R V o with revision := rev + 1 } s)))
      else replied l 0x02 tag .done [rev] s) := by
  have hchecks : firstFailure (amendChecks l (maskOf ma mv mr my mx) (marksOf ma mv mr my mx) o (amendedBy s.env.clock ma my mx R V o) s) = none := by
    rw [amendChecks_first maskOf_lt, if_neg, if_neg, if_neg, if_neg]
    · rintro ⟨hst, hle⟩
      rw [← hissuer] at hle
      exact absurd (hstage hst) (Nat.not_lt.mpr hle)
    · rw [Bool.not_eq_false]
      exact hmap
    · rintro (⟨hma, hno⟩ | hfit)
      · exact Bool.noConfusion ((hcarries.resolve_left hma).symm.trans hno)
      · exact hfit ⟨harg, hyield, hexpiry⟩
    · rintro (⟨hne, hlock⟩ | hfit)
      · exact (hrank.resolve_left hne).elim fun h1 h2 => hlock.elim h1 h2
      · exact Bool.noConfusion (hverb.symm.trans hfit)
  have howner := (ownerOf_amend (tag := tag) hfind hissuer hholder hrev hmask hr hv).trans (guarded_pass hchecks)
  rw [acceptAmend_eq (by rfl), hrev] at howner
  split at howner
  · rw [if_pos ‹_›]
    exact exec_answered rfl hslot howner
  · rw [if_neg ‹_›]
    exact exec_answered rfl hslot howner

end Own

/-- The yield stage that an order of its rank may have is kept by a result of that rank. -/
theorem yieldStage_kept {r : Rank} {y : Option Nat} (h : yieldFits r y = true) : (if r = .overriding then none else y) = y := by
  cases y with
  | none => simp
  | some n =>
    have hst : r ≠ .overriding := by
      rintro rfl
      cases h
    rw [if_neg hst]

theorem yieldFits_standing {y : Option Nat} (h : yieldFits R y = true) : yieldFits .standing y = true := by
  cases y with
  | none => rfl
  | some n =>
    simp only [yieldFits, Bool.and_eq_true] at h ⊢
    exact ⟨⟨rfl, h.1.2⟩, h.2⟩

/-- STANDING and OVERRIDE have the same verbs (R2). -/
theorem verbFits_rank {u : UnitId} {r : Rank} (hR : R ≠ .lockout) (hr : r ≠ .lockout) : verbFits u R V = verbFits u r V := by
  simp only [verbFits, beq_eq_false_iff_ne.mpr hR, beq_eq_false_iff_ne.mpr hr, bne]

section Field
variable {b : Order} {P : Prop} [Decidable P] (hslot : (s.port l).slot = .empty)
  (hfind : s.env.table.find? (fun x => x.number == word nh nl) = some o) (hissuer : o.issuer = issuerOfLink l) (hholder : o.holder = h.toNat)
  (hrev : o.revision = rev) (hmask : maskOf ma mv mr my mx ≠ 0) (hr : amendedRank (marksOf ma mv mr my mx) o = some R)
  (hv : amendedVerb (marksOf ma mv mr my mx) o = some V) (hb : amendedBy s.env.clock ma my mx R V o = b)
  (hsame : amendChanges (marksOf ma mv mr my mx) o b = true ↔ ¬P)
  (hrank : R = o.rank ∨ (R ≠ .lockout ∧ o.rank ≠ .lockout)) (hverb : verbFits o.unit R V = true) (hcarries : ma = none ∨ V.carriesArg = true)
  (harg : argFits V b.arg = true) (hyield : yieldFits R b.yieldStage = true) (hexpiry : expiryFits R b.expiresAt = true)
  (hmap : mapAllows s.env.cfg l o.unit R = true)
  (hstage : R = .standing → s.env.relevantStage o.unit < effectiveYield s.env.cfg o.issuer b.yieldStage)
include hslot hfind hissuer hholder hrev hmask hr hv hb hsame hrank hverb hcarries harg hyield hexpiry hmap hstage

/-- An accepted AMEND with its result named, and what it leaves unchanged named too. -/
theorem exec_amend_unless : exec (.amend l tag (amendBody nh nl h rev ma mv mr my mx)) s = .next (
    if P then replied l 0x02 tag .done [rev] s
    else replied l 0x02 tag .done [rev + 1] (settle (if R = o.rank then writeOrder { b with revision := rev + 1 } s
      else resolve [o.unit] (writeOrder { b with revision := rev + 1 } s)))) := by
  subst hb
  rw [exec_amend_accepted hslot hfind hissuer hholder hrev hmask hr hv hrank hverb hcarries harg hyield hexpiry hmap hstage]
  by_cases hP : P
  · rw [if_pos hP, if_neg (fun hch => hsame.mp hch hP)]
  · rw [if_neg hP, if_pos (hsame.mpr hP)]

end Field

/-- Settles O16: by its cases; an accepted one by the result that its marked fields give. -/
theorem amendFieldByField : Obligations.AmendFieldByField := by
  intro l tag nh nl h rev s hslot
  refine ⟨fun body hlen => ?_, fun mask values hlen => ?_, fun mask values hlen hnone => ?_, fun o hfind => ⟨fun mask values hlen hown => ?_,
    fun hissuer hholder => ⟨fun mask values hlen hstale => ?_, fun hrev => ⟨?_, fun mask hmask habove hverb => ?_, ?_, ?_, ?_⟩⟩⟩⟩
  · refine exec_answered rfl hslot ?_
    simp only [ownerOf, handleAmend]
    split
    · simp at hlen
      omega
    · rfl
  · exact exec_answered rfl hslot (if_pos hlen)
  · have hfind : s.env.table.find? (fun o => o.number == word nh nl) = none := List.find?_eq_none.mpr fun o ho => by simpa using hnone o ho
    exact exec_answered rfl hslot (by simp only [ownerOf, handleAmend, hlen, ne_eq, not_true_eq_false, if_false, hfind]; rfl)
  · exact exec_answered rfl hslot (handleAmend_other hlen hfind hown)
  · exact exec_answered rfl hslot ((handleAmend_own hlen hfind hissuer hholder).trans (if_pos hstale))
  · refine exec_answered rfl hslot ((handleAmend_own (values := []) (mask := 0) rfl hfind hissuer hholder).trans ?_)
    rw [if_neg (by simp [hrev]), if_pos rfl, hrev]
    rfl
  · obtain ⟨hlen, hmarks⟩ := mask_above habove
    have howner := (handleAmend_own (l := l) (nh := nh) (nl := nl) (h := h) (rev := rev) (values := []) (mask := mask) (by simpa using hlen.symm) hfind hissuer hholder)
    rw [if_neg (by simp [hrev]), if_neg hmask, hmarks] at howner
    refine exec_refused rfl hslot howner ?_
    have hrank : rankMayBecome o.rank (some o.rank) = true := by simp [rankMayBecome]
    have hhigh : ¬ mask.toNat < 32 := by
      intro hlt
      refine hmask (BitVec.eq_of_toNat_eq ?_)
      rw [Nat.mod_eq_of_lt hlt] at habove
      exact habove
    simp only [amendChecks, firstFailure_cons, amended, hrank, hverb, Bool.and_self, if_true, decide_eq_false hhigh, Bool.false_and,
      Bool.false_eq_true, if_false]
  · intro ma mv mr my mx mask body rank verb hmask
    refine ⟨?_, ?_⟩
    · intro hnone misfit
      have hcode := exec_amend_codes (tag := tag) (ma := ma) (mv := mv) (mr := mr) (my := my) (mx := mx) hslot hfind hissuer hholder hrev hmask
        (rank := rank) (verb := verb) rfl rfl hnone
      refine ⟨fun hmis => hcode.trans ?_, fun hfit => hcode.trans ?_⟩
      · rw [if_neg fun ⟨hmay, hcodes⟩ => hmis.elim (rankMayBecome_iff.mp hmay) ((codesFit_iff hnone).mp hcodes)]
      · rw [if_pos ⟨rankMayBecome_iff.mpr fun hmis => hfit (.inl hmis), (codesFit_iff hnone).mpr fun hmis => hfit (.inr hmis)⟩]
    · intro R V c hr hv arg y expiry hc
      have hexpiry : expiryFits (amendedBy s.env.clock ma my mx R V o).rank (amendedBy s.env.clock ma my mx R V o).expiresAt =
          expiryFits R expiry := by
        cases mx with
        | none => rfl
        | some x => exact expiryFits_from
      refine exec_amend_refused hslot hfind hissuer hholder hrev hmask hr hv ((amendChecks_first maskOf_lt).trans (Eq.trans ?_ hc))
      rw [hexpiry]
      rfl
  · intro ma mv mr my mx R V mask body given b next written changes hmask hr hv hrank hverb hcarries harg hyield hexpiry hmap hstage
    have hexec := exec_amend_accepted (tag := tag) (ma := ma) (mv := mv) (mr := mr) (my := my) (mx := mx) hslot hfind hissuer hholder hrev hmask hr hv hrank hverb hcarries harg hyield hexpiry
      hmap hstage
    have hchanges : amendChanges (marksOf ma mv mr my mx) o (amendedBy s.env.clock ma my mx R V o) = true ↔ changes := by
      rw [amendChanges_iff]
      refine or_congr Iff.rfl (or_congr Iff.rfl (or_congr Iff.rfl (or_congr Iff.rfl ?_)))
      cases mx with
      | none => simp [marksOf]
      | some x =>
        have hgiven : given x.1 x.2 ≠ none ↔ word x.1 x.2 ≠ 0 := by
          simp only [given, absentZero]
          split <;> simp [*]
        simp only [marksOf, Option.map_some, Option.some.injEq, exists_eq_left', ← hgiven]
        exact ⟨fun h => ⟨x.1, x.2, rfl, h⟩, fun ⟨_, _, hx, h⟩ => by cases hx; exact h⟩
    refine ⟨fun hno => hexec.trans ?_, fun hyes => hexec.trans ?_⟩
    · rw [if_neg (hchanges.not.mpr hno)]
    · rw [if_pos (hchanges.mpr hyes)]
      rfl
  · intro written unchanged changed hverb harg hyield hexpiry hmap hstage
    refine ⟨fun x hcarries harg' => ?_, fun x V hV hverb' harg' => ?_, fun x R hR hlock hlock' hmap' hstage' => ?_, fun x hyield' hstage' => ?_,
      fun xh xl hlock => ?_⟩
    · have hb : amendedBy s.env.clock (some x) none none o.rank o.verb o = { o with arg := absentOnes x } := by
        simp only [amendedBy, yieldStage_kept hyield]
      refine (exec_amend_unless (P := o.arg = absentOnes x) (ma := some x) (mv := none) (mr := none) (my := none) (mx := none) hslot hfind hissuer
        hholder hrev (maskOf_ne (.inl rfl)) rfl rfl hb ?_ (.inl rfl) hverb (.inr hcarries) harg' hyield hexpiry hmap hstage).trans ?_
      · simp [amendChanges_iff, marksOf, eq_comm (a := o.arg)]
      · rw [if_pos rfl]
        rfl
    · have hb : amendedBy s.env.clock none none none o.rank V o = { o with verb := V } := by
        simp only [amendedBy, yieldStage_kept hyield]
      refine (exec_amend_unless (P := o.verb = V) (ma := none) (mv := some x) (mr := none) (my := none) (mx := none) hslot hfind hissuer
        hholder hrev (maskOf_ne (.inr (.inl rfl))) rfl hV hb ?_ (.inl rfl) hverb' (.inl rfl) harg' hyield hexpiry hmap hstage).trans ?_
      · simp [amendChanges_iff, marksOf, eq_comm (a := o.verb)]
      · rw [if_pos rfl]
        rfl
    · have hmay : yieldFits R (if R = .overriding then none else o.yieldStage) = true := by
        split
        · rfl
        · next hne =>
          cases R with
          | standing => exact yieldFits_standing hyield
          | lockout => exact absurd rfl hlock'
          | overriding => exact absurd rfl hne
      have hnotlock : expiryFits R o.expiresAt = true := by simp [expiryFits, hlock']
      refine (exec_amend_unless (P := o.rank = R) (ma := none) (mv := none) (mr := some x) (my := none) (mx := none) hslot
        hfind hissuer hholder hrev (maskOf_ne (.inr (.inr (.inl rfl)))) hR rfl rfl ?_ (.inr ⟨hlock', hlock⟩) ((verbFits_rank hlock' hlock).trans hverb) (.inl rfl) harg hmay hnotlock
        hmap' fun hst => by subst hst; exact hstage' rfl).trans ?_
      · have hyields : o.rank = R → (if R = .overriding then none else o.yieldStage) = o.yieldStage := fun heq => heq ▸ yieldStage_kept hyield
        simp only [amendChanges_iff, marksOf, amendedBy]
        have hne : (if R = .overriding then none else o.yieldStage) ≠ o.yieldStage → ¬ R = o.rank := fun hne heq => hne (hyields heq.symm)
        simpa [eq_comm (a := o.rank)] using hne
      · by_cases hsame : o.rank = R
        · rw [if_pos hsame, if_pos hsame]
        · rw [if_neg hsame, if_neg hsame, if_neg (fun hno => hsame hno.symm)]
          rfl
    · refine (exec_amend_unless (P := o.yieldStage = absentZero x.toNat) (ma := none) (mv := none) (mr := none) (my := some x) (mx := none) hslot
        hfind hissuer hholder hrev (maskOf_ne (.inr (.inr (.inr (.inl rfl))))) rfl rfl rfl ?_ (.inl rfl) hverb (.inl rfl) harg hyield' hexpiry hmap hstage').trans ?_
      · simp [amendChanges_iff, marksOf, amendedBy, eq_comm (a := o.yieldStage)]
      · rw [if_pos rfl]
        rfl
    · have hnotlock : expiryFits o.rank ((absentZero (word xh xl)).map (fun n => s.env.clock + 1000 * n)) = true := by simp [expiryFits, hlock]
      have hb : amendedBy s.env.clock none none (some (xh, xl)) o.rank o.verb o =
          { o with expiresAt := (absentZero (word xh xl)).map (fun n => s.env.clock + 1000 * n) } := by
        simp only [amendedBy, yieldStage_kept hyield]
      refine (exec_amend_unless (P := word xh xl = 0 ∧ o.expiresAt = none) (ma := none) (mv := none) (mr := none) (my := none) (mx := some (xh, xl))
        hslot hfind hissuer hholder hrev (maskOf_ne (.inr (.inr (.inr (.inr rfl))))) rfl rfl hb ?_ (.inl rfl) hverb (.inl rfl) harg hyield hnotlock
        hmap hstage).trans ?_
      · simp [amendChanges_iff, marksOf, or_iff_not_imp_left]
      · by_cases hzero : word xh xl = 0
        · by_cases hnone : o.expiresAt = none
          · rw [if_pos ⟨hzero, hnone⟩, if_pos hzero, if_pos hnone]
          · rw [if_neg fun hboth => hnone hboth.2, if_pos rfl, if_pos hzero, if_neg hnone, hzero]
            rfl
        · rw [if_neg fun hboth => hzero hboth.1, if_pos rfl, if_neg hzero, absentZero, if_neg hzero]
          rfl

end Result

end Sys2Proof.Machine

/-! What an allocation leaves of each zone, and the targets of the zones: O44, O45, O47. -/

namespace Sys2Proof.Machine

/-! ### The allocation (R113, R114) -/

section Allocation
variable {e : Env} {p q : Plant} {z : ZoneId} {r : Zone} {room : Bool} {n : Nat}

@[simp] theorem retarget_output : (retarget e p z r).output = r.output := rfl

@[simp] theorem retarget_hand : (retarget e p z r).hand = r.hand := rfl

theorem budgeted_ne (hz : z ∈ budgetZones) : z ≠ .z6 := by
  rintro rfl
  revert hz
  decide

theorem modifierOne_eq : modifierOne p =
    [p.portals.pe, p.portals.pw].any (fun q => q.seq == .warning || q.seq == .barring || q.seq == .clearing) := by
  have hone (x : Seq) : (match x with | .warning | .barring | .clearing => true | _ => false) =
      (x == .warning || x == .barring || x == .clearing) := by
    cases x <;> rfl
  simp only [modifierOne, PortalId.every, List.any_cons, List.any_nil, PerPortal.get]
  exact congrArg₂ _ (hone _) (congrArg₂ _ (hone _) rfl)

/-- The portal warns, or its barrier closes (R147, modifier 1). -/
def Seq.moving (x : Seq) : Prop := x = .warning ∨ x = .barring ∨ x = .clearing

theorem modifierOne_iff : modifierOne p = true ↔ (p.portals.get .pe).seq.moving ∨ (p.portals.get .pw).seq.moving := by
  rw [modifierOne_eq]
  simp [Seq.moving, or_assoc, PerPortal.get]

theorem modifierTwo_iff : modifierTwo p = true ↔ (p.portals.get .pe).seq = .sealed ∧ (p.portals.get .pw).seq = .sealed := by
  simp [modifierTwo, PortalId.every]

/-- A zone's output in service, unlocked. -/
theorem zoneOutput_ramps (h : ramps e p z = true) : zoneOutput e p z room n r = rampingOutput e p z room n r := by
  obtain ⟨hz, hs, hl⟩ := ramps_iff.mp h
  simp [zoneOutput, hz, hs, hl]

theorem zoneOutput_hand (hz : z ∈ budgetZones) (hs : e.cfg.zoneService.get z = .inHand) (hl : p.locked (.zone z) = false) :
    zoneOutput e p z room n r = min r.hand n := by
  simp [zoneOutput, budgeted_ne hz, hs, hl]

theorem zoneOutput_off (h : p.locked (.zone z) = true ∨ e.cfg.zoneService.get z = .outOfService) : zoneOutput e p z room n r = 0 := if_pos h

theorem ramps_off (h : p.locked (.zone z) = true ∨ e.cfg.zoneService.get z = .outOfService) : ramps e p z = false := by
  rw [← Bool.not_eq_true, ramps_iff]
  rintro ⟨-, hs, hl⟩
  obtain h | h := h
  · rw [hl] at h
    cases h
  · rw [hs] at h
    cases h

/-- The protected level in GRID and STANDBY (R114). -/
def protectedLevel (e : Env) (p : Plant) (z : ZoneId) (r : Zone) : Nat :=
  if p.arb.supply.powered then min (e.cfg.zones.get z).shed r.comp else 0

theorem rampingOutput_follows (h : followsAtOnce p z = true) : rampingOutput e p z room n r = min 100 n := if_pos h

theorem rampingOutput_else (h : followsAtOnce p z = false) : rampingOutput e p z room n r =
    max (if (room && mayRampDown e p z n r) = true then r.output else min n r.output) (protectedLevel e p z r) := by
  simp only [rampingOutput, h, protectedLevel]
  cases p.arb.supply.powered <;> simp

/-- A zone in service, unlocked, is never below its protected level (R114). -/
theorem protectedLevel_le (hramps : ramps e p z = true) (hshed : (e.cfg.zones.get z).shed ≤ 100) (hp : p.arb.supply.powered = true)
    (hn : min (e.cfg.zones.get z).shed r.comp ≤ n) : min (e.cfg.zones.get z).shed r.comp ≤ zoneOutput e p z room n r := by
  rw [zoneOutput_ramps hramps]
  cases hf : followsAtOnce p z with
  | true =>
    rw [rampingOutput_follows hf]
    omega
  | false =>
    rw [rampingOutput_else hf, protectedLevel, if_pos hp]
    exact Nat.le_max_right ..

theorem mayRampDown_iff (hramps : ramps e p z = true) (hf : followsAtOnce p z = false) : mayRampDown e p z n r = true ↔ n = r.comp := by
  simp [mayRampDown, hramps, hf]

/-- What remains of an allocation's zones, field by field. -/
theorem lampPass_comp : ((lampPass e p).zones.get z).comp = (retarget e p z (p.zones.get z)).comp := by
  rw [lampPass_zone, takeAllowance_comp]

theorem lampPass_allowance : ((lampPass e p).zones.get z).allowance = (allowances e p).get z := by
  rw [lampPass_zone, takeAllowance_allowance]

theorem lampPass_output : ((lampPass e p).zones.get z).output =
    zoneOutput e p z (lampRoom e p) ((allowances e p).get z) (retarget e p z (p.zones.get z)) := by
  rw [lampPass_zone, takeAllowance_output]

theorem lampPass_hand : ((lampPass e p).zones.get z).hand = (p.zones.get z).hand := by
  rw [lampPass_zone, takeAllowance_hand, retarget_hand]

theorem lampPass_ramp : ((lampPass e p).zones.get z).ramp =
    if ramps e p z then rampToward (min ((lampPass e p).zones.get z).comp ((lampPass e p).zones.get z).allowance)
      ((lampPass e p).zones.get z).output else .none := by
  rw [lampPass_zone, takeAllowance_ramp, takeAllowance_comp, takeAllowance_allowance, takeAllowance_output]

/-- The loads of an allocation, at its outputs and at its allowances, are within the budget (R102). -/
theorem lampPass_within (hfit : nonLampLoad e p + shedReservation e.cfg ≤ budget e p) :
    nonLampLoad e p + lampLoad e (lampPass e p) ≤ budget e p ∧
      nonLampLoad e p + (budgetZones.map fun z => zoneLoad e z ((lampPass e p).zones.get z).allowance).sum ≤ budget e p := by
  have hfits := lampPass_fits (e := e) (p := p) ⟨by omega, fun _ => hfit⟩
  rw [LampsFit, lampPass_nonLamp, lampPass_budget] at hfits
  have hout := List.sum_le_sum (l := budgetZones) fun z _ => zoneLoad_mono (e := e) (z := z)
    (Nat.le_max_left ((lampPass e p).zones.get z).output ((lampPass e p).zones.get z).allowance)
  have hallow := List.sum_le_sum (l := budgetZones) fun z _ => zoneLoad_mono (e := e) (z := z)
    (Nat.le_max_right ((lampPass e p).zones.get z).output ((lampPass e p).zones.get z).allowance)
  simp only [lampLoad]
  omega

/-- The walk gives each zone what the zones before it leave of the extra, as far as it needs it (R113). -/
theorem lampPass_walk {before after : List ZoneId} (hp : p.arb.supply.powered = true) (hw : lampWalk = before ++ z :: after)
    (hs : e.cfg.zoneService.get z ≠ .outOfService) :
    let a := ((lampPass e p).zones.get z).allowance
    let most := shedLoad e.cfg z + min (lampNeed e (compensations e p) z) (lampExtra e p - lampNeeds e (compensations e p) before)
    a ≤ ((lampPass e p).zones.get z).comp ∧ zoneLoad e z a ≤ most ∧
      ∀ n, a < n → n ≤ ((lampPass e p).zones.get z).comp → most < zoneLoad e z n := by
  intro a most
  have ha : a = largestPercent (e.cfg.zones.get z).installed most ((lampPass e p).zones.get z).comp := by
    rw [lampPass_comp, ← compensations_get]
    exact lampPass_allowance.trans ((allowances_walk hp hw).trans (if_neg hs))
  rw [ha]
  exact ⟨largestPercent_le, largestPercent_fits, fun n hlt hle => largestPercent_max hlt hle⟩

theorem lampNeed_eq : lampNeed e (compensations e p) z =
    zoneLoad e z ((lampPass e p).zones.get z).comp - shedLoad e.cfg z := by
  rw [lampPass_comp, ← compensations_get, lampNeed]

/-- The output that a zone would keep until the next allocation (log 44). -/
theorem reach_eq (hz : z ∈ budgetZones) : reach e p z ((allowances e p).get z) (retarget e p z (p.zones.get z)) =
    if ((e.cfg.zoneService.get z == .inService && !p.locked (.zone z)) &&
      ((lampPass e p).zones.get z).allowance == ((lampPass e p).zones.get z).comp && !followsAtOnce p z) = true
    then max (p.zones.get z).output ((lampPass e p).zones.get z).allowance else ((lampPass e p).zones.get z).allowance := by
  have hramps : ramps e p z = (e.cfg.zoneService.get z == .inService && !p.locked (.zone z)) := by
    rw [ramps, bne_iff_ne.mpr (budgeted_ne hz), Bool.true_and]
  rw [reach, mayRampDown, hramps, lampPass_allowance, lampPass_comp, retarget_output]

theorem lampRoom_iff : lampRoom e p = true ↔
    nonLampLoad e p + (budgetZones.map fun z => zoneLoad e z
      (reach e p z ((allowances e p).get z) (retarget e p z (p.zones.get z)))).sum ≤ budget e p := by
  simp only [lampRoom, roomToRamp, decide_eq_true_iff, targeted_get]

/-- What a zone in service, unlocked, takes (R114, R153). -/
theorem lampPass_active (hramps : ramps e p z = true) :
    let q := (lampPass e p).zones.get z
    let least := if p.arb.supply.powered then min (e.cfg.zones.get z).shed q.comp else 0
    (followsAtOnce p z = true → q.output = min 100 q.allowance) ∧
    (followsAtOnce p z = false → lampRoom e p = true → q.allowance = q.comp → q.output = max (p.zones.get z).output least) ∧
    (followsAtOnce p z = false → lampRoom e p = false ∨ q.allowance ≠ q.comp →
      q.output = max (min q.allowance (p.zones.get z).output) least) ∧
    q.ramp = if q.output < min q.comp q.allowance then .up else if min q.comp q.allowance < q.output then .down else .none := by
  intro q least
  have hout : q.output = _ := lampPass_output.trans (zoneOutput_ramps hramps)
  have hleast : least = protectedLevel e p z (retarget e p z (p.zones.get z)) := by
    rw [protectedLevel, ← lampPass_comp]
  have hall : q.allowance = _ := lampPass_allowance
  have hcomp : q.comp = _ := lampPass_comp
  refine ⟨fun hf => ?_, fun hf hroom hwhole => ?_, fun hf hno => ?_, lampPass_ramp.trans (if_pos hramps)⟩
  · rw [hout, rampingOutput_follows hf, hall]
  · have hmay := (mayRampDown_iff (n := (allowances e p).get z) (r := retarget e p z (p.zones.get z)) hramps hf).mpr
      (hall.symm.trans (hwhole.trans hcomp))
    rw [hout, rampingOutput_else hf, hroom, hmay, Bool.and_self, if_pos rfl, hleast, retarget_output]
  · have hmay : (lampRoom e p && mayRampDown e p z ((allowances e p).get z) (retarget e p z (p.zones.get z))) ≠ true := by
      rw [Ne, Bool.and_eq_true, mayRampDown_iff hramps hf]
      rintro ⟨hroom, hwhole⟩
      obtain hno | hno := hno
      · rw [hroom] at hno
        cases hno
      · exact hno (hall.trans (hwhole.trans hcomp.symm))
    rw [hout, rampingOutput_else hf, if_neg hmay, hleast, hall, retarget_output]

end Allocation

/-- Settles O44: each clause is what the walk gives a zone (`allowances_walk`) or what the zone takes of it (`lampPass_active`). -/
theorem allocationKeepsTheBudget : Obligations.AllocationKeepsTheBudget := by
  intro e p hshed p'
  refine ⟨lampPass_nonLamp, fun hp hfit => ⟨?_, ?_, ?_⟩, fun hp z hz => ?_, ?_, ?_⟩
  · rw [lampPass_nonLamp, lampPass_budget]
    exact (lampPass_within hfit).1
  · rw [lampPass_nonLamp, lampPass_budget]
    exact (lampPass_within hfit).2
  · intro z hz q
    refine ⟨?_, fun hs => ?_, fun hs hl => ?_, fun hs hl => ?_⟩
    · exact (lampPass_allowance.trans_le (allowances_le hz)).trans_eq lampPass_comp.symm
    · exact (congrArg _ lampPass_comp).trans_le ((allowances_shed hp hz hs).trans_eq lampPass_allowance.symm)
    · exact (congrArg _ lampPass_comp).trans_le ((protectedLevel_le (ramps_iff.mpr ⟨budgeted_ne hz, hs, hl⟩) (hshed z) hp
        (allowances_shed hp hz (by rw [hs]; decide))).trans_eq lampPass_output.symm)
    · exact lampPass_output.trans ((zoneOutput_hand hz hs hl).trans (congrArg₂ _ lampPass_hand.symm lampPass_allowance.symm))
  · exact lampPass_allowance.trans (allowances_unpowered hp hz)
  · intro hp ceil kw shed need extra before z after hw q left most
    refine ⟨fun hs => lampPass_allowance.trans ((allowances_walk hp hw).trans (if_pos hs)), fun hs => ?_⟩
    have hneeds : need = lampNeed e (compensations e p) := funext fun z => lampNeed_eq.symm
    have hmost : most = shedLoad e.cfg z +
        min (lampNeed e (compensations e p) z) (lampExtra e p - lampNeeds e (compensations e p) before) := by
      simp only [most, left, hneeds]
      rfl
    rw [hmost]
    exact lampPass_walk hp hw hs
  · intro active moving follows whole kept room z hz q before least
    have hfollows (y : ZoneId) : follows y = followsAtOnce p y := by simp only [follows, moving, ← modifierOne_eq, followsAtOnce]
    have hroom : lampRoom e p = true ↔ room := by
      rw [lampRoom_iff, List.map_congr_left fun y hy => congrArg (zoneLoad e y) (reach_eq hy)]
      simp only [← hfollows]
      rfl
    refine ⟨fun hoff => ⟨lampPass_output.trans (zoneOutput_off hoff), lampPass_ramp.trans (if_neg ?_)⟩, fun hactive => ?_⟩
    · rw [ramps_off hoff]
      decide
    · have hramps : ramps e p z = true := by
        simp only [active, Bool.and_eq_true, beq_iff_eq, Bool.not_eq_true'] at hactive
        exact ramps_iff.mpr ⟨budgeted_ne hz, hactive⟩
      obtain ⟨hat, hkeep, hdrop, hramp⟩ := lampPass_active hramps
      rw [hfollows]
      refine ⟨hat, fun hf hr hw => hkeep hf (hroom.mpr hr) (beq_iff_eq.mp hw), fun hf hno => hdrop hf ?_, hramp⟩
      exact hno.imp (fun hr => Bool.eq_false_iff.mpr (hroom.not.mpr hr)) fun hw => beq_eq_false_iff_ne.mp hw

/-! ### The targets after an event (R145 to R148, R151) -/

section Targets
variable {e : Env} {p : Plant} {z : ZoneId} {s : State}

/-- Every event's last act on the zones is an allocation. -/
theorem blocksAct_lampPass : ∃ q, blocksAct e p = lampPass e q :=
  grantPass_induct (P := fun a => ∃ q, a = lampPass e q) (fun _ _ _ _ _ => ⟨_, rfl⟩) 40 ⟨_, rfl⟩

theorem lampPass_source {u : UnitId} : (lampPass e p).source u = p.source u := by simp only [Plant.source, lampPass_units]

theorem modifierOne_congr {q : Plant} (h : q.portals = p.portals) : modifierOne q = modifierOne p := by simp only [modifierOne, h]

theorem modifierTwo_congr {q : Plant} (h : q.portals = p.portals) : modifierTwo q = modifierTwo p := by simp only [modifierTwo, h]

theorem governingOrder_congr {q : Plant} {u : UnitId} (h : q.units = p.units) : governingOrder e q u = governingOrder e p u := by
  simp only [governingOrder, h]

/-- An allocation leaves each zone's targets as the plant that it leaves gives them. -/
theorem lampPass_targets : let q := (lampPass e p).zones.get z
    q.graded = gradedTarget e z ∧ q.target = zoneTarget e (lampPass e p) z ∧
      q.comp = compensated z ((lampPass e p).source (.zone z)) q.target q.deficit := by
  have htarget : zoneTarget e (lampPass e p) z = zoneTarget e p z := by
    simp only [zoneTarget, automaticTarget, lampPass_source, modifierOne_congr lampPass_portals, modifierTwo_congr lampPass_portals,
      governingOrder_congr lampPass_units, lampPass_hand]
  rw [htarget, lampPass_source, lampPass_zone]
  simp only [takeAllowance_graded, takeAllowance_target, takeAllowance_comp, takeAllowance_deficit]
  exact ⟨rfl, rfl, rfl⟩

theorem settle_targets : let q := (settle s).plant.zones.get z
    q.graded = gradedTarget s.env z ∧ q.target = zoneTarget s.env (settle s).plant z ∧
      q.comp = compensated z ((settle s).plant.source (.zone z)) q.target q.deficit ∧
      (z = .z6 → q.output =
        if (settle s).plant.locked (.zone z) = true ∨ s.env.cfg.zoneService.get z = .outOfService then 0 else if q.comp = 100 then 100 else 0) := by
  obtain ⟨a, ha⟩ := blocksAct_lampPass (e := s.env) (p := s.plant)
  have hzones : (settle s).plant.zones = (lampPass s.env a).zones := by rw [settle_plant, settlePlant_eq, refreshConditions_zones, ha]
  have hunits : (settle s).plant.units = (lampPass s.env a).units := by rw [settle_plant, settlePlant_eq, refreshConditions_units, ha]
  have hportals : (settle s).plant.portals = (lampPass s.env a).portals := by rw [settle_plant, settlePlant_eq, refreshConditions_portals, ha]
  obtain ⟨hgraded, htarget, hcomp⟩ := lampPass_targets (e := s.env) (p := a) (z := z)
  have hsame : zoneTarget s.env (settle s).plant z = zoneTarget s.env (lampPass s.env a) z := by
    simp only [zoneTarget, automaticTarget, Plant.source, modifierOne_congr hportals, modifierTwo_congr hportals, governingOrder_congr hunits,
      hunits, hzones]
  rw [hsame]
  simp only [Plant.source, Plant.locked, hunits, hzones]
  refine ⟨hgraded, htarget, hcomp, ?_⟩
  rintro rfl
  rw [lampPass_output, lampPass_comp, lampPass_units]
  rfl

/-- A side without samples is graded at 100 (R143). -/
theorem gradedTarget_empty (h : (e.windows.get (e.cfg.zones.get z).side).mean = none)
    (hrole : (e.cfg.zones.get z).role = .threshold ∨ (e.cfg.zones.get z).role = .transition) : gradedTarget e z = 100 := by
  obtain hrole | hrole := hrole <;> simp only [gradedTarget, gradeThreshold, hrole, h]

end Targets

/-- Settles O45: an event's last act on the zones is an allocation, which sets the targets anew (`settle_targets`). -/
theorem targetsFollowTheirSources : Obligations.TargetsFollowTheirSources := by
  intro s z t c q mean ceil graded threshold moving
  obtain ⟨hgraded, htarget, hcomp, hegress⟩ := settle_targets (s := s) (z := z)
  have hone : modifierOne (settle s).plant = true ↔ moving .pe ∨ moving .pw := modifierOne_iff
  have htwo : modifierTwo (settle s).plant = true ↔ (t.plant.portals.get .pe).seq = .sealed ∧ (t.plant.portals.get .pw).seq = .sealed :=
    modifierTwo_iff
  refine ⟨?_, fun hsrc => ?_, fun hsrc => ?_, fun hsrc => ?_, fun o a hsrc ho ha => ?_, ?_, fun hz => ?_⟩
  · rw [show q.graded = gradedTarget s.env z from hgraded]
    simp only [gradedTarget, c, mean]
    cases hrole : (s.env.cfg.zones.get z).role <;> cases hmean : (s.env.windows.get (s.env.cfg.zones.get z).side).mean <;>
      simp only [thresholdTarget, gradeThreshold, hmean] <;> rfl
  · rw [show q.target = _ from htarget, zoneTarget, hsrc]
    simp only [automaticTarget, hone, htwo, show q.graded = gradedTarget s.env z from hgraded] <;> rfl
  · rw [show q.target = _ from htarget, zoneTarget, hsrc]
  · rw [show q.target = _ from htarget, zoneTarget]
    obtain hsrc | hsrc := hsrc <;> rw [hsrc]
  · rw [show q.target = _ from htarget, zoneTarget, hsrc]
    simp only [show governingOrder s.env (settle s).plant (.zone z) = some o from ho, Option.bind_some, ha, Option.getD_some]
  · refine Eq.trans hcomp ?_
    simp only [compensated]
    by_cases hz : z = .z6
    · rw [if_pos hz, if_neg fun h => h.1 hz]
    · rw [if_neg hz]
      by_cases hsrc : (settle s).plant.source (.zone z) = .automatic ∨ (settle s).plant.source (.zone z) = .order
      · by_cases hd : ((settle s).plant.zones.get z).deficit ≤ 50
        · rw [if_pos hsrc, if_pos hd]
          exact (if_pos ⟨hz, hsrc, hd⟩).symm
        · rw [if_pos hsrc, if_neg hd]
          exact (if_neg fun h => hd h.2.2).symm
      · rw [if_neg hsrc]
        exact (if_neg fun h => hsrc h.2.1).symm
  · subst hz
    have hsame : q.comp = q.target := hcomp.trans (if_pos rfl)
    refine (hegress rfl).trans ?_
    simp only [show ((settle s).plant.zones.get .z6).comp = ((settle s).plant.zones.get .z6).target from hsame]
    by_cases hoff : (settle s).plant.locked (.zone .z6) = true ∨ s.env.cfg.zoneService.get .z6 = .outOfService
    · rw [if_pos hoff]
      refine (if_neg ?_).symm
      rintro ⟨-, hl, hs⟩
      obtain hoff | hoff := hoff
      · exact Bool.noConfusion (hl.symm.trans hoff)
      · exact hs hoff
    · rw [if_neg hoff]
      obtain ⟨hl, hs⟩ := not_or.mp hoff
      by_cases htarget : ((settle s).plant.zones.get .z6).target = 100
      · exact (if_pos htarget).trans (if_pos ⟨htarget, Bool.eq_false_iff.mpr hl, hs⟩).symm
      · exact (if_neg htarget).trans (if_neg fun h => htarget h.1).symm

/-! ### SET LUMINANCE CONFIG (R144) -/

theorem scalesFit_iff {v : PerSide Nat} : scalesFit v = true ↔ 1000 ≤ v.east ∧ v.east ≤ 20000 ∧ 1000 ≤ v.west ∧ v.west ≤ 20000 := by
  simp [scalesFit, within, and_assoc]

theorem Window.mean_empty {w : Window} (h : w.samples = []) : w.mean = none := by rw [Window.mean, h]; rfl

@[simp] theorem replied_plant {l : Link} {kind tag : Byte} {c : Code} {payload : List Byte} {s : State} :
    (replied l kind tag c payload s).plant = s.plant := rfl

@[simp] theorem replied_env {l : Link} {kind tag : Byte} {c : Code} {payload : List Byte} {s : State} :
    (replied l kind tag c payload s).env = s.env := rfl

theorem settle_graded {s : State} {z : ZoneId} (h : (s.env.windows.get (s.env.cfg.zones.get z).side).mean = none)
    (hrole : (s.env.cfg.zones.get z).role = .threshold ∨ (s.env.cfg.zones.get z).role = .transition) :
    ((settle s).plant.zones.get z).graded = 100 := settle_targets.1.trans (gradedTarget_empty h hrole)

/-- Settles O47: each refusal is the first check that fails, and an accepted request settles with the new scales. -/
theorem setLuminanceConfigChecksAndActs : Obligations.SetLuminanceConfigChecksAndActs := by
  intro l tag s hslot
  refine ⟨fun body hlen => ?_, fun eh el wh wl => ?_, rfl⟩
  · refine exec_refused rfl hslot (by unfold ownerOf handleSetLuminanceConfig; rfl) ?_
    rw [beq_false_of_ne hlen]
    rfl
  · intro east west inRange
    refine ⟨?_, ?_, ?_, ?_⟩
    · rintro rfl
      exact exec_refused rfl hslot (by unfold ownerOf handleSetLuminanceConfig; rfl) rfl
    · rintro rfl hsaving
      exact exec_refused rfl hslot (by unfold ownerOf handleSetLuminanceConfig; rfl) (by rw [notSaving_eq_false.mpr hsaving]; rfl)
    · rintro rfl hsaving hout
      refine exec_refused rfl hslot (by unfold ownerOf handleSetLuminanceConfig; rfl) ?_
      rw [notSaving_eq_true.mpr hsaving]
      have hfit : scalesFit ⟨word eh el, word wh wl⟩ = false := Bool.eq_false_iff.mpr (scalesFit_iff.not.mpr hout)
      simp [firstFailure_cons, readScales, hfit]
    · rintro rfl hsaving hin old w
      have hfit : scalesFit ⟨word eh el, word wh wl⟩ = true := scalesFit_iff.mpr hin
      refine ⟨_, exec_accepted rfl hslot (by unfold ownerOf handleSetLuminanceConfig; rfl) ?_ rfl, ?_, ?_, ?_, ?_, fun d hd => ?_⟩
      · rw [notSaving_eq_true.mpr hsaving]
        simp [readScales, hfit, firstFailure]
      · rfl
      · rfl
      · rfl
      · rfl
      · refine ⟨Window.mean_empty hd, ?_⟩
        rintro z rfl hrole
        rw [replied_plant, takeScales]
        exact settle_graded (Window.mean_empty hd) hrole

end Sys2Proof.Machine

/-! SET SERVICE, SET RING ORDER and the stops of a pump: O23, O35, O36. -/

namespace Sys2Proof.Machine

/-! ### SET SERVICE (R34) -/

section Service
variable {s : State} {u w : UnitId} {v : Service}

theorem serviceOf_set {c : WorkConfig} (h : u ≠ .outfall) : serviceOf (c.setService u v) u = v := by
  cases u with
  | pump i => exact PerPump.get_set ..
  | portal i => exact PerPortal.get_set ..
  | zone z => exact PerZone.get_set ..
  | outfall => exact absurd rfl h

theorem recordService_env : (recordService u v s).env =
    { s.env with cfg := s.env.cfg.setService u v, table := resolveTable (s.env.cfg.setService u v) [u] s.env.table } := rfl

theorem enterService_units {e : Env} {p : Plant} : (enterService e u v p).units = p.units := (enterService_kept .refl).units

theorem recordService_unit :
    (recordService u v s).plant.units.get u = unitRecOf (s.env.cfg.setService u v) (recordService u v s).env.table u :=
  (congrArg (PerUnit.get · u) report_units).trans resolve_unit

theorem recordService_other (h : w ≠ u) : (recordService u v s).plant.units.get w = s.plant.units.get w :=
  (congrArg (PerUnit.get · w) report_units).trans ((resolve_other h).trans (congrArg (PerUnit.get · w) enterService_units))

theorem changeService_units : (changeService u v s).plant.units = (recordService u v s).plant.units := by
  simp only [changeService]
  split
  · exact (settle_units _).trans (makeRoom_kept 10 .refl).units
  · exact settle_units _

theorem changeService_env : (changeService u v s).env = (recordService u v s).env := by
  simp only [changeService]
  split <;> rfl

/-- The checks of SET SERVICE pass (R34). -/
theorem handleSetService_passes {ub vb : Byte} (hsaving : s.store.state ≠ .saving) (hu : unitOf ub = some u) (hout : u ≠ .outfall)
    (hv : serviceCode vb = some v) : handleSetService .panel [ub, vb] s = acceptService u v s := by
  unfold handleSetService
  refine (guarded_pass ?_).trans ?_
  · rw [notSaving_eq_true.mpr hsaving, hu, hv]
    simp [firstFailure, hout]
  · rw [hu, hv]

end Service

/-- Settles O23: the service state is recorded first, and the blocks then leave it and the unit records as they are. -/
theorem setServiceAccepted : Obligations.SetServiceAccepted := by
  intro tag ub vb u v s hslot hsaving hu hout hv
  have hpass := handleSetService_passes hsaving hu hout hv
  refine ⟨fun hsame => exec_answered rfl hslot (hpass.trans (if_pos hsame)), fun hother =>
    ⟨_, s.env.cfg.setService u v, exec_answered rfl hslot (hpass.trans (if_neg hother)), serviceOf_set hout, fun w hw => serviceOf_setService hw,
      ?_, changeService_env.trans recordService_env, ?_, fun w hw => ?_, ?_, ?_, ?_⟩⟩
  · cases u <;> rfl
  · rw [replied_plant, replied_env, changeService_units, changeService_env]
    exact recordService_unit
  · rw [replied_plant, changeService_units, recordService_other hw]
  · exact answered_links changeService_inside.links rfl
  · exact changeService_inside.store
  · exact changeService_inside.pending

/-! ### SET RING ORDER (R76) -/

theorem sumpOf_sumpCode (u : SumpId) : sumpOf (BitVec.ofNat 8 (sumpCode u)) = some u := by cases u <;> rfl

theorem pumpOf_number (i : PumpId) : pumpOf (BitVec.ofNat 8 (UnitId.pump i).number) = some i := by cases i <;> rfl

theorem readPumps_numbers (l : List PumpId) : readPumps (l.map fun i => BitVec.ofNat 8 (UnitId.pump i).number) = some l := by
  induction l with
  | nil => rfl
  | cons i l ih => simp only [List.map_cons, readPumps, pumpOf_number, ih]

/-- Settles O35: the request is decoded to the ring that it was made of. -/
theorem setRingOrderActs : Obligations.SetRingOrderActs := by
  intro tag u ring s hslot hsaving hone hfour body
  have hlen : (within 1 4 (BitVec.ofNat 8 ring.length).toNat &&
      (ring.map fun i => BitVec.ofNat 8 (UnitId.pump i).number).length == (BitVec.ofNat 8 ring.length).toNat) = true := by
    have hnat : (BitVec.ofNat 8 ring.length).toNat = ring.length := by
      rw [BitVec.toNat_ofNat]
      omega
    exact ringLength (hone.trans_eq hnat.symm) (hnat.trans_le hfour) ((List.length_map _).trans hnat.symm)
  have hfits : ringFits s.env (some u) (some ring) = true ↔ ring.Perm (s.env.ring u) := List.isPerm_iff
  refine ⟨fun hperm => exec_accepted rfl hslot (by unfold ownerOf handleSetRingOrder; rfl) ?_ ?_, fun hperm =>
    exec_refused rfl hslot (by unfold ownerOf handleSetRingOrder; rfl) ?_⟩
  · rw [hlen, notSaving_eq_true.mpr hsaving, sumpOf_sumpCode, readPumps_numbers, hfits.mpr hperm]
    rfl
  · rw [sumpOf_sumpCode, readPumps_numbers]
    rfl
  · rw [hlen, notSaving_eq_true.mpr hsaving, sumpOf_sumpCode, readPumps_numbers, Bool.eq_false_iff.mpr (hfits.not.mpr hperm)]
    rfl

/-! ### Stops (R75, R90 to R93) -/

section Stops
variable {e : Env} {i j : PumpId} {k : Stop} {p : Plant} {q : Pump} {now minRest : Nat} {inHand : Bool}

/-- What every stop leaves of a pump's record. -/
structure Pump.Halted (q q' : Pump) : Prop where
  dead : q'.live = false
  starts : q'.starts = q.starts
  confirm : q'.confirm = .stopped
  surge : q'.surge = .stopped
  minRun : q'.minRun = .stopped
  dryTimer : q'.dryTimer = .stopped
  lostTimer : q'.lostTimer = .stopped

/-- A pump that goes to its rest (R92, R97). -/
def Pump.Rested (now minRest : Nat) (q : Pump) : Prop :=
  q.run = (if minRest = 0 then .stopped else .resting) ∧ q.minRest = (if minRest = 0 then .stopped else .since now) ∧ q.restLength = minRest

theorem toRest_rested : (q.toRest now minRest).Rested now minRest ∧ (q.toRest now minRest).hand = q.hand ∧
    (q.toRest now minRest).dry = q.dry ∧ (q.toRest now minRest).fault = q.fault := by
  simp only [Pump.toRest, Pump.Rested]
  split <;> simp [*]

theorem afterStop_halted : Pump.Halted q (q.afterStop now minRest inHand k) := by
  cases k <;> simp only [Pump.afterStop, Pump.toRest] <;> (try split) <;> exact ⟨rfl, rfl, rfl, rfl, rfl, rfl, rfl⟩

theorem haltPump_pump : (haltPump e i k p).pumps.get i =
    (p.pumps.get i).afterStop e.clock (e.cfg.pumps.get i).minRest (e.cfg.pumpService.get i == .inHand) k := by
  rw [haltPump_fields.1, PerPump.get_set]

theorem haltPump_other (h : j ≠ i) : (haltPump e i k p).pumps.get j = p.pumps.get j := by
  rw [haltPump_fields.1, PerPump.get_set_ne _ _ h]

theorem ringLive_congr {p' : Plant} {u : SumpId} (h : p'.pumps = p.pumps) : ringLive e p' u = ringLive e p u := by simp only [ringLive, h]

theorem advanceLead_lead {u : SumpId} : ((advanceLead e u p).duty.get u).lead =
    if (e.ring u).length ≤ (p.duty.get u).lead then 1 else (p.duty.get u).lead + 1 := by
  rw [advanceLead, PerSump.get_set]

theorem advanceLead_latches {u : SumpId} : ((advanceLead e u p).duty.get u).latches = (p.duty.get u).latches := by
  rw [advanceLead, PerSump.get_set]

theorem advanceLead_other {u x : SumpId} (h : x ≠ u) : (advanceLead e u p).duty.get x = p.duty.get x := by
  rw [advanceLead, PerSump.get_set_ne _ _ h]

/-- The ring's duty after a stop: its lead advances when its last live pump stops (R75, log 21). -/
theorem haltPump_duty : (haltPump e i k p).zones = p.zones ∧ (haltPump e i k p).duty =
    if 0 < ringLive e p (e.sumpOf i) ∧ ringLive e (haltPump e i k p) (e.sumpOf i) = 0 then (advanceLead e (e.sumpOf i) p).duty
    else p.duty := by
  have hlive : ringLive e (haltPump e i k p) (e.sumpOf i) = ringLive e (putPump e i ((p.pumps.get i).afterStop e.clock
      (e.cfg.pumps.get i).minRest (e.cfg.pumpService.get i == .inHand) k) p) (e.sumpOf i) :=
    ringLive_congr (haltPump_fields.1.trans putPump_pumps.symm)
  rw [hlive]
  have hlead : ∀ (c : Prop) [Decidable c] {u : SumpId} {q : Pump},
      (if c then advanceLead e u (putPump e i q p) else putPump e i q p).zones = p.zones ∧
        (if c then advanceLead e u (putPump e i q p) else putPump e i q p).duty = if c then (advanceLead e u p).duty else p.duty := by
    intro c _ u q
    split
    · exact ⟨putPump_zones .., by simp only [advanceLead, putPump_duty]⟩
    · exact ⟨putPump_zones .., putPump_duty ..⟩
  cases k with
  | fault f =>
    simp only [haltPump, raiseCause_zones, raiseCause_duty]
    exact hlead _
  | _ => exact hlead _

theorem haltPump_faults {f : FaultKind} : Cause.pumpFault.isIn (haltPump e i (.fault f) p).attn.present = true := by
  simp [haltPump, raiseCause]

end Stops

/-- Settles O36: the pump by its record after the stop, the ring's lead by what is still live. -/
theorem stopsFollowTheTable : Obligations.StopsFollowTheTable := by
  intro e i k p q p' q' rest rests own
  have hq : q' = q.afterStop e.clock rest (e.cfg.pumpService.get i == .inHand) k := haltPump_pump
  obtain ⟨hdead, hstarts, hconfirm, hsurge, hminRun, hdry, hlost⟩ : Pump.Halted q q' := hq ▸ afterStop_halted
  obtain ⟨hrested, hhand, hdried, hfault⟩ := toRest_rested (now := e.clock) (minRest := rest) (q := q.endTimers)
  obtain ⟨-, hportals, hunits, harb⟩ := haltPump_fields (e := e) (i := i) (k := k) (p := p)
  obtain ⟨hzones, hduty⟩ := haltPump_duty (e := e) (i := i) (k := k) (p := p)
  refine ⟨hdead, ?_, hstarts, hconfirm, hsurge, hminRun, hdry, hlost, ?_, ?_, ?_, ?_, fun j hj => haltPump_other hj, fun u hu => ?_, ?_, ?_,
    hportals, hzones, harb, hunits⟩
  · simp only [pumpLoad]
    rw [show (p'.pumps.get i).live = false from hdead]
    rfl
  · rintro rfl
    have hrests : q'.Rested e.clock rest := hq ▸ hrested
    refine ⟨hrests, ?_⟩
    rw [hq]
    exact ⟨hhand, hdried, hfault⟩
  · rintro rfl
    have hrests : q'.Rested e.clock rest := hq ▸ hrested
    refine ⟨hrests, ?_⟩
    rw [hq]
    exact ⟨rfl, rfl, hfault⟩
  · rintro rfl
    rw [hq]
    exact ⟨rfl, rfl, rfl, rfl⟩
  · rintro f rfl
    rw [hq]
    exact ⟨rfl, rfl, rfl, haltPump_faults⟩
  · rw [show p'.duty = _ from hduty]
    split
    · exact advanceLead_other hu
    · rfl
  · rw [show p'.duty = _ from hduty]
    split
    · exact advanceLead_latches
    · rfl
  · intro u lead
    rw [show p'.duty = _ from hduty]
    by_cases h : 0 < ringLive e p u ∧ ringLive e p' u = 0
    · rw [if_pos h, if_pos h]
      exact advanceLead_lead
    · rw [if_neg h, if_neg h]

end Sys2Proof.Machine

/-! What the blocks leave of a pump that rests or is faulted, and the events of a pump: O37, O38. -/

namespace Sys2Proof.Machine

/-! ### Pumps that rest (R85, R88, R92) -/

/-- The pump has the record `q0` and waits for no grant. -/
structure PumpStays (i : PumpId) (q0 : Pump) (p : Plant) : Prop where
  record : p.pumps.get i = q0
  waits : p.queued (.pump i) = false

/-- RESTING or FAULTED: neither a stop nor a start concerns the pump. -/
def Pump.rests (q : Pump) : Prop := q.run = .resting ∨ q.run = .faulted

section Stays
variable {e : Env} {i j : PumpId} {q0 : Pump} {p b : Plant}

theorem Pump.rests.dead {q : Pump} (h : q.rests) : q.live = false := by
  obtain h | h := h <;> simp [Pump.live, h]

theorem PumpStays.same (h : PumpStays i q0 p) (hp : b.pumps.get i = p.pumps.get i) (hq : b.queued (.pump i) = true → p.queued (.pump i) = true) :
    PumpStays i q0 b :=
  ⟨hp.trans h.record, Bool.eq_false_iff.mpr fun hb => Bool.eq_false_iff.mp h.waits (hq hb)⟩

theorem PumpStays.put (h : PumpStays i q0 p) (hj : j ≠ i) {q : Pump} : PumpStays i q0 (putPump e j q p) :=
  h.same (by rw [putPump_pumps, PerPump.get_set_ne _ _ (Ne.symm hj)]) fun hq => by simpa only [Plant.queued, putPump_arb] using hq

theorem PumpStays.join (h : PumpStays i q0 p) {u : UnitId} (hu : u ≠ .pump i) : PumpStays i q0 (joinQueue e u p) :=
  h.same (by rw [joinQueue_pumps]) fun hq => (joinQueue_queued.mp hq).resolve_left (Ne.symm hu)

theorem PumpStays.drop (h : PumpStays i q0 p) {u : UnitId} : PumpStays i q0 (dropRequest u p) :=
  h.same rfl fun hq => (dropRequest_queued.mp hq).2

theorem PumpStays.halt (h : PumpStays i q0 p) (hj : j ≠ i) {k : Stop} : PumpStays i q0 (haltPump e j k p) :=
  h.same (haltPump_other (Ne.symm hj)) fun hq => by simpa only [Plant.queued, haltPump_fields.2.2.2] using hq

theorem PumpStays.unqueue (h : PumpStays i q0 p) (hj : j ≠ i) : PumpStays i q0 (unqueuePump e j p) := h.drop.put hj

theorem PumpStays.portals (h : PumpStays i q0 p) {k : PortalId} (hw : Wrote e (PortalWrite k) p b) : PumpStays i q0 b := by
  refine hw.induct (P := PumpStays i q0) (fun q w hok hq => ?_) h
  cases w with
  | portal j r => exact hq.same (congrArg (PerPump.get · i) putPortal_pumps) fun hq' => by simpa only [PlantWrite.run, Plant.queued, putPortal_arb] using hq'
  | join u =>
    cases hok
    exact hq.join nofun
  | drop u => exact hq.drop
  | raise c => exact hq.same rfl id
  | _ => exact hok.elim

theorem PumpStays.zones (h : PumpStays i q0 p) (hw : Wrote e ZoneWrite p b) : PumpStays i q0 b := by
  refine hw.induct (P := PumpStays i q0) (fun q w hok hq => ?_) h
  cases w with
  | zone z r => exact hq.same (congrArg (PerPump.get · i) putZone_pumps) fun hq' => by simpa only [PlantWrite.run, Plant.queued, putZone_arb] using hq'
  | _ => exact hok.elim

variable (hrest : q0.rests)
include hrest

theorem PumpStays.other (h : PumpStays i q0 p) (hr : ¬(p.pumps.get j).rests) : j ≠ i := by
  rintro rfl
  exact hr (h.record ▸ hrest)

theorem PumpStays.immediate (h : PumpStays i q0 p) : PumpStays i q0 (immediateStop e j p) := by
  simp only [immediateStop]
  split
  · split
    · exact h.halt (h.other hrest (by rename_i hr; simp [Pump.rests, hr]))
    · exact h.halt (h.other hrest (by rename_i hr; simp [Pump.rests, hr]))
    · exact h.unqueue (h.other hrest (by rename_i hr; simp [Pump.rests, hr]))
    · exact h
    · exact h
    · exact h
  · exact h

theorem PumpStays.outfall (n : Nat) : ∀ {p : Plant}, PumpStays i q0 p → PumpStays i q0 (outfallStops e n p) := by
  induction n with
  | zero => exact fun h => h
  | succ n ih =>
    intro p h
    simp only [outfallStops]
    split
    · split
      · refine ih (h.halt (h.other hrest fun hr => ?_))
        have hlive := latestLivePump_live ‹_›
        rw [hr.dead] at hlive
        cases hlive
      · exact h
    · exact h

omit hrest in
theorem PumpStays.halts (l : List PumpId) : ∀ {p : Plant}, PumpStays i q0 p → i ∉ l →
    PumpStays i q0 (l.foldl (fun a j => haltPump e j .rest a) p) := by
  induction l with
  | nil => exact fun h _ => h
  | cons j l ih =>
    intro p h hi
    rw [List.mem_cons, not_or] at hi
    exact ih (h.halt (Ne.symm hi.1)) hi.2

theorem PumpStays.standing {u : SumpId} (n : Nat) : ∀ {p : Plant}, PumpStays i q0 p → PumpStays i q0 (standingStops e u n p) := by
  induction n with
  | zero => exact fun h => h
  | succ n ih =>
    intro p h
    simp only [standingStops]
    split
    · exact h
    · refine ih (h.halts _ fun hi => ?_)
      have hdue := (List.mem_filter.mp hi).2
      simp only [standingStopDue, Bool.and_eq_true, beq_iff_eq, h.record] at hdue
      obtain hr | hr := hrest <;> rw [hr] at hdue <;> exact absurd hdue.1.1 nofun

theorem PumpStays.duty {u : SumpId} (h : PumpStays i q0 p) : PumpStays i q0 (dutySump e u p) := by
  simp only [dutySump]
  refine foldl_keeps (P := PumpStays i q0) (fun q j hq => ?_) _ (h.standing hrest 5)
  simp only [queueOrLeave]
  split
  · have hj := hq.other (j := j) hrest (by rename_i hr _; simp [Pump.rests, hr])
    exact (hq.put hj).join fun he => hj (UnitId.pump.inj he)
  · exact hq.unqueue (hq.other hrest (by rename_i hr _; simp [Pump.rests, hr]))
  · exact hq

theorem PumpStays.owners (h : PumpStays i q0 p) : PumpStays i q0 (ownersAct e p) := by
  have hduty : PumpStays i q0 (dutyAll e p) := foldl_keeps (P := PumpStays i q0) (fun q u hq => hq.duty hrest) _ h
  exact ((hduty.portals (portalDemands_wrote .refl)).portals (portalDemands_wrote .refl)).zones (lampPass_wrote .refl)

omit hrest in
theorem PumpStays.granted (h : PumpStays i q0 p) {r : Request} (hr : r ∈ p.arb.queue) (hf : fits e p r = true) :
    PumpStays i q0 (grantRequest e r p) := by
  obtain ⟨j, he, hq, -⟩ | ⟨k, he, -⟩ := fits_cases hr hf
  · have hj : j ≠ i := by
      rintro rfl
      rw [h.waits] at hq
      cases hq
    have hnoted : PumpStays i q0 (noteGrant (.pump j) (dropRequest (.pump j) p)) := PumpStays.same (h.drop (u := .pump j)) rfl id
    have hstarted : PumpStays i q0 (started e j p) := hnoted.put hj
    have hlamps : PumpStays i q0 (lampPass e (started e j p)) := hstarted.zones (lampPass_wrote .refl)
    rw [he, grantPump_eq]
    refine PumpStays.same (p := ite _ _ _) ?_ rfl id
    split
    · exact (hlamps.put hj).same rfl id
    · split
      · exact hlamps.put hj
      · exact hlamps
  · rw [he]
    have hqueue : PumpStays i q0 (unqueuePortal e k p) := h.portals (unqueuePortal_wrote .refl)
    have hpermit : PumpStays i q0 (permitted e k p) :=
      PumpStays.same (p := noteGrant (.portal k) (unqueuePortal e k p)) (hqueue.same rfl id) (by simp [permitted])
        fun hq => by simpa only [permitted, Plant.queued, putPortal_arb] using hq
    exact (hpermit.zones (lampPass_wrote .refl)).portals (onPermit_wrote .refl)

/-- A pump that rests or is faulted and does not wait keeps its record while the blocks act. -/
theorem PumpStays.blocks (h : PumpStays i q0 p) : PumpStays i q0 (blocksAct e p) := by
  have himm : PumpStays i q0 (immediateStops e p) := foldl_keeps (P := PumpStays i q0) (fun q j hq => hq.immediate hrest) _ h
  exact grantPass_induct (P := PumpStays i q0) (fun q r hq hr hf => (hq.granted hr hf).owners hrest) 40 ((himm.outfall hrest 8).owners hrest)

theorem PumpStays.settled (h : PumpStays i q0 p) : (settlePlant e p).pumps.get i = q0 := (h.blocks hrest).record

end Stays

/-! ### Faults (R87, R88) -/

section Halted
variable {i : PumpId} {k : Stop} {s t : State}

/-- A live pump that is stopped into its rest or a fault keeps the record of its stop while the blocks act. -/
theorem halted_record (hok : PumpsOk s) (hlive : (s.plant.pumps.get i).live = true) {e : Env}
    (hrests : ((haltPump e i k s.plant).pumps.get i).rests) :
    (settlePlant e (haltPump e i k s.plant)).pumps.get i =
      (s.plant.pumps.get i).afterStop e.clock (e.cfg.pumps.get i).minRest (e.cfg.pumpService.get i == .inHand) k := by
  refine (PumpStays.settled hrests ⟨rfl, ?_⟩).trans haltPump_pump
  have hwaits : s.plant.queued (.pump i) = false := Bool.eq_false_iff.mpr fun hq => by
    have hrun := (hok i).2.2.1.mpr hq
    simp [Pump.live, hrun] at hlive
  simpa only [Plant.queued, haltPump_fields.2.2.2] using hwaits

/-- What a fault leaves (R87, R88). -/
structure Faulted (i : PumpId) (k : FaultKind) (s t : State) : Prop where
  run : (t.plant.pumps.get i).run = .faulted
  fault : (t.plant.pumps.get i).fault = some k
  dead : (t.plant.pumps.get i).live = false
  starts : (t.plant.pumps.get i).starts = (s.plant.pumps.get i).starts
  surge : (t.plant.pumps.get i).surge = .stopped
  minRun : (t.plant.pumps.get i).minRun = .stopped
  confirm : (t.plant.pumps.get i).confirm = .stopped
  hand : s.env.cfg.pumpService.get i = .inHand → (t.plant.pumps.get i).hand = false
  cause : Cause.pumpFault.isIn t.plant.attn.present = true
  links : t.links = s.links
  store : t.store = s.store
  units : t.plant.units = s.plant.units

theorem faulted_halt {f : FaultKind} {e : Env} (hok : PumpsOk s) (hlive : (s.plant.pumps.get i).live = true) (hcfg : e.cfg = s.env.cfg) :
    Faulted i f s (settle { s with env := e, plant := haltPump e i (.fault f) s.plant }) := by
  have hrecord := halted_record (k := .fault f) (e := e) hok hlive (.inr (by rw [haltPump_pump]; rfl))
  obtain ⟨hdead, hstarts, hconfirm, hsurge, hminRun, -, -⟩ : Pump.Halted (s.plant.pumps.get i)
      ((settlePlant e (haltPump e i (.fault f) s.plant)).pumps.get i) := hrecord ▸ afterStop_halted
  refine ⟨congrArg Pump.run hrecord, congrArg Pump.fault hrecord, hdead, hstarts, hsurge, hminRun, hconfirm, fun hin => ?_, ?_, rfl, rfl, ?_⟩
  · refine (congrArg Pump.hand hrecord).trans ?_
    rw [hcfg, hin]
    exact Bool.and_false _
  · refine settlePlant_causes.trans ?_
    exact blocksAct_causes.keeps _ haltPump_faults
  · exact (settle_units _).trans haltPump_fields.2.2.1

end Halted

/-- Settles O37: a fault is a stop whose record the blocks leave alone (`halted_record`). -/
theorem faultsStopThePump : Obligations.FaultsStopThePump := by
  intro i s hok q faulted
  have hfaulted {k : FaultKind} {t : State} (h : Faulted i k s t) : faulted k t :=
    ⟨h.run, h.fault, h.dead, h.starts, h.surge, h.minRun, h.confirm, h.hand, h.cause, h.links, h.store, h.units⟩
  refine ⟨fun start hrun hstart hran => ?_, fun start hrun hstart hran => ?_, fun hlive hcool => ?_, fun active hnew hnone => ?_⟩
  · exact ⟨_, if_pos (confirmDue_iff.mpr ⟨hrun, start, hstart, hran⟩),
      hfaulted (faulted_halt hok (live_iff.mpr (.inl hrun)) rfl), rfl⟩
  · exact ⟨_, if_pos (lostRunDue_iff.mpr ⟨hrun, start, hstart, hran⟩),
      hfaulted (faulted_halt hok (live_iff.mpr (.inr hrun)) rfl), rfl⟩
  · refine ⟨_, (if_neg (by rw [hcool]; decide)).trans (if_pos ?_),
      hfaulted (faulted_halt (e := (putThermal i true s).env) hok hlive rfl), rfl⟩
    rwa [Bool.true_and]
  · refine (if_neg hnew).trans (if_neg ?_)
    rw [Bool.and_eq_true]
    rintro ⟨hactive, hlive⟩
    obtain hdead | hpassive := hnone
    · exact Bool.noConfusion (hdead.symm.trans hlive)
    · exact Bool.noConfusion (hpassive.symm.trans hactive)

/-! ### The other events of a pump (R81, R86 to R94) -/

theorem PerPump.set_get {α : Type} (t : PerPump α) (i : PumpId) : t.set i (t.get i) = t := by cases i <;> rfl

theorem putPump_self {e : Env} {i : PumpId} {p : Plant} : putPump e i (p.pumps.get i) p = p := by
  simp only [putPump, PerPump.set_get, if_pos]

section Events
variable {e : Env} {i : PumpId} {p : Plant} {active : Bool}

theorem timeDryRun_put {now : Nat} : putPump e i (timeDryRun now active (p.pumps.get i)) p =
    if (p.pumps.get i).run = .running then
      putPump e i { p.pumps.get i with dryTimer := if active then .since now else .stopped } p
    else p := by
  simp only [timeDryRun]
  split
  · rfl
  · exact putPump_self

/-- What a change of feedback does in each run state (R87). -/
theorem onFeedback_eq : onFeedback e i active p =
    if (p.pumps.get i).run = .starting ∧ active = true then becomeRunning e i p
    else if (p.pumps.get i).run = .running then
      putPump e i { p.pumps.get i with lostTimer := if active then .stopped else .since e.clock } p
    else p := by
  simp only [onFeedback]
  cases hrun : (p.pumps.get i).run <;> cases active <;> rfl

end Events

/-- Settles O38: each event is due and writes the pump's record; a dry-run stop is a stop into the rest. -/
theorem pumpEventsAct : Obligations.PumpEventsAct := by
  intro i s q written
  refine ⟨fun active hnew => ?_, fun start hrun hstart hran => ?_, fun active hnew => ?_, fun start hstart hran => ?_,
    fun start hstart hran => ?_, fun start hrun hstart hran => ?_, fun oldest others hstarts hold => ?_⟩
  · intro e
    exact (if_neg hnew).trans (congrArg (fun p => Host.Outcome.next (settle { s with env := e, plant := p })) timeDryRun_put)
  · refine ⟨_, if_pos (dryRunDue_iff.mpr ⟨hrun, start, hstart, hran⟩), rfl, rfl, rfl, fun hok hmin => ?_⟩
    obtain ⟨⟨hrest, hsince, -⟩, -, -, -⟩ := toRest_rested (now := s.env.clock) (minRest := (s.env.cfg.pumps.get i).minRest) (q := q.endTimers)
    rw [if_neg (by omega)] at hrest hsince
    have hrecord := halted_record (k := .dry) (e := s.env) hok (live_iff.mpr (.inr hrun)) (.inl (by rw [haltPump_pump]; exact hrest))
    refine ⟨(congrArg Pump.run hrecord).trans hrest, congrArg Pump.dry hrecord, (congrArg Pump.minRest hrecord).trans hsince,
      (congrArg Pump.starts hrecord).trans (afterStop_starts ..), fun hin => (congrArg Pump.hand hrecord).trans ?_⟩
    rw [hin]
    exact Bool.and_false _
  · intro e
    exact (if_neg hnew).trans (congrArg (fun p => Host.Outcome.next (settle { s with env := e, plant := p })) onFeedback_eq)
  · exact if_pos (surgeDue_iff.mpr ⟨start, hstart, hran⟩)
  · exact if_pos (minRunDue_iff.mpr ⟨start, hstart, hran⟩)
  · exact if_pos (restDue_iff.mpr ⟨hrun, start, hstart, hran⟩)
  · refine (if_pos (startEntryDue_iff.mpr ⟨oldest, others, hstarts, hold⟩)).trans ?_
    rw [show (s.plant.pumps.get i).starts.drop 1 = others by rw [hstarts]; rfl]

end Sys2Proof.Machine

/-! The lighting events: O46. -/

namespace Sys2Proof.Machine

/-! ### A record's entry in the changed sets (R179) -/

/-- Both changed sets have an entry of the record, or have overflowed. -/
def Listed (k : RecordKey) (p : Plant) : Prop :=
  ∀ l : Link, (p.attn.sets.get l).overfull = true ∨ ∃ x ∈ (p.attn.sets.get l).entries, x.key = k

section Listed
variable {e : Env} {k k' : RecordKey} {why : Option Reason} {a p : Plant}

/-- A report lists its own record, and keeps every other listed. -/
theorem listed_take {c : ChangedSet} {now : Nat} (h : k = k' ∨ c.overfull = true ∨ ∃ x ∈ c.entries, x.key = k) :
    (c.take now k' why).overfull = true ∨ ∃ x ∈ (c.take now k' why).entries, x.key = k := by
  by_cases hk : ∃ y ∈ c.entries, y.key = k'
  · rw [take_present hk]
    obtain rfl | h | ⟨x, hx, rfl⟩ := h
    · obtain ⟨y, hy, rfl⟩ := hk
      exact .inr ⟨_, List.mem_map.mpr ⟨y, hy, rfl⟩, by rw [if_pos rfl]⟩
    · exact .inl h
    · refine .inr ⟨_, List.mem_map.mpr ⟨x, hx, rfl⟩, ?_⟩
      split <;> rfl
  · have hnew : ∀ y ∈ c.entries, y.key ≠ k' := fun y hy he => hk ⟨y, hy, he⟩
    rw [take_new hnew]
    split
    · obtain rfl | h | ⟨x, hx, rfl⟩ := h
      · exact .inr ⟨_, List.mem_append_right _ (List.mem_singleton_self _), rfl⟩
      · exact .inl h
      · exact .inr ⟨x, List.mem_append_left _ hx, rfl⟩
    · exact .inl rfl

theorem listed_report : Listed k (report e k why p) := fun l => by
  rw [report_set]
  exact listed_take (.inl rfl)

theorem Listed.report (h : Listed k p) : Listed k (report e k' why p) := fun l => by
  rw [report_set]
  exact listed_take (.inr (h l))

theorem Listed.attn (h : Listed k p) {q : Plant} (hq : q.attn.sets = p.attn.sets) : Listed k q := by
  intro l
  rw [hq]
  exact h l

theorem Listed.write {w : PlantWrite} (h : Listed k p) : Listed k (w.run e p) := by
  cases w with
  | pump i q =>
    simp only [PlantWrite.run, putPump]
    split
    · exact h.attn rfl
    · exact Listed.report (h.attn rfl)
  | portal i q =>
    simp only [PlantWrite.run, putPortal]
    split
    · exact h.attn rfl
    · exact Listed.report (h.attn rfl)
  | zone z q =>
    simp only [PlantWrite.run, putZone]
    split
    · exact h.attn rfl
    · exact Listed.report (h.attn rfl)
  | join u => exact h.attn (by simp [PlantWrite.run])
  | raise c => exact Listed.attn (Listed.report (p := p) (e := e) (k' := .plant) (why := none) h) rfl
  | _ => exact h.attn rfl

theorem Listed.wrote {ok : Plant → PlantWrite → Prop} (h : Listed k a) (hw : Wrote e ok a p) : Listed k p :=
  hw.induct (fun _ _ _ => Listed.write) h

theorem Listed.settlePlant (h : Listed k p) : Listed k (settlePlant e p) := by
  have hblocks : Listed k (blocksAct e p) := h.wrote (blocksAct_wrote .refl)
  rw [settlePlant_eq]
  simp only [refreshConditions, Attention.conditions]
  split
  · exact hblocks
  · exact Listed.attn (Listed.report (e := e) (k' := .plant) (why := none) hblocks) rfl

/-- A zone's record whose output or flag changes visibly is reported. -/
theorem listed_putZone {z : ZoneId} {q : Zone} (h : (p.zones.get z).reported ≠ q.reported) : Listed (.unit (.zone z)) (putZone e z q p) := by
  simp only [putZone, if_neg h]
  exact listed_report

end Listed

/-! ### Deficits (R149, R150) -/

section Deficit
variable {e : Env} {z : ZoneId} {p : Plant} {count : Nat}

@[simp] theorem takeAllowance_flag {room : Bool} {n : Nat} {r : Zone} : (takeAllowance e p z room n r).flag = r.flag := by
  simp only [takeAllowance]
  split <;> rfl

theorem lampPass_deficit : ((lampPass e p).zones.get z).deficit = (p.zones.get z).deficit ∧
    ((lampPass e p).zones.get z).flag = (p.zones.get z).flag := by
  rw [lampPass_zone, takeAllowance_deficit, takeAllowance_flag]
  exact ⟨rfl, rfl⟩

/-- An allocation raises no cause. -/
theorem lampPass_attn : (lampPass e p).attn.present = p.attn.present ∧ ∀ c, (lampPass e p).attn.count c = p.attn.count c := by
  refine (lampPass_wrote (e := e) .refl).induct (P := fun q => q.attn.present = p.attn.present ∧ ∀ c, q.attn.count c = p.attn.count c)
    (fun q w hw h => ?_) ⟨rfl, fun _ => rfl⟩
  cases w with
  | zone z r =>
    obtain hattn | ⟨k, hattn⟩ := putZone_attn (e := e) (z := z) (q := r) (p := q)
    · exact ⟨(congrArg Attention.present hattn).trans h.1, fun c => (congrArg (·.count c) hattn).trans (h.2 c)⟩
    · exact ⟨(congrArg Attention.present hattn).trans h.1, fun c => (congrArg (·.count c) hattn).trans (count_report.trans (h.2 c))⟩
  | _ => exact hw.elim

theorem deficitDue_iff {now : Nat} {q : Zone} : deficitDue now q = true ↔ 20 ≤ q.output ∧ 5000 ≤ now - q.steadySince := by
  have htime : Config.deficitSteadyTime = 5000 := rfl
  rw [deficitDue, Bool.and_eq_true, decide_eq_true_iff, decide_eq_true_iff, htime]

/-- The plant in which a measurement has been taken up, and LAMP_DEFICIT raised where its flag is new (R150). -/
def measured (e : Env) (z : ZoneId) (d : Nat) (flag : Bool) (p : Plant) : Plant :=
  if flag && !(p.zones.get z).flag then raiseCause e .lampDeficit (putZone e z { p.zones.get z with deficit := d, flag := flag } p)
  else putZone e z { p.zones.get z with deficit := d, flag := flag } p

theorem measureDeficit_due (h : deficitDue e.clock (p.zones.get z) = true) : measureDeficit e z count p =
    lampPass e (measured e z (deficitOf (p.zones.get z).output (e.cfg.zones.get z).fullScale count)
      (decide ((e.cfg.zones.get z).tolerance < deficitOf (p.zones.get z).output (e.cfg.zones.get z).fullScale count)) p) := if_pos h

theorem measured_frame {d : Nat} {flag : Bool} : (measured e z d flag p).zones = p.zones.set z { p.zones.get z with deficit := d, flag := flag } ∧
    (measured e z d flag p).units = p.units ∧ (measured e z d flag p).pumps = p.pumps ∧ (measured e z d flag p).portals = p.portals := by
  simp only [measured]
  split
  · exact ⟨putZone_zones .., putZone_units .., putZone_pumps .., putZone_portals ..⟩
  · exact ⟨putZone_zones .., putZone_units .., putZone_pumps .., putZone_portals ..⟩

theorem putZone_causes {q : Zone} : (putZone e z q p).attn.present = p.attn.present ∧ ∀ c, (putZone e z q p).attn.count c = p.attn.count c := by
  obtain hattn | ⟨k, hattn⟩ := putZone_attn (e := e) (z := z) (q := q) (p := p)
  · exact ⟨congrArg Attention.present hattn, fun c => congrArg (·.count c) hattn⟩
  · exact ⟨(congrArg Attention.present hattn).trans rfl, fun c => (congrArg (·.count c) hattn).trans count_report⟩

/-- LAMP_DEFICIT is raised each time the flag is set (R150). -/
theorem measured_count {d : Nat} {flag : Bool} : (measured e z d flag p).attn.count .lampDeficit =
    if flag = true ∧ (p.zones.get z).flag = false then min 255 (p.attn.count .lampDeficit + 1) else p.attn.count .lampDeficit := by
  have hput := (putZone_causes (e := e) (z := z) (p := p) (q := { p.zones.get z with deficit := d, flag := flag })).2 .lampDeficit
  by_cases hnew : flag = true ∧ (p.zones.get z).flag = false
  · rw [measured, if_pos (by rw [hnew.1, hnew.2]; rfl), if_pos hnew, ← hput]
    exact count_raise.trans (if_pos rfl)
  · rw [measured, if_neg (by simpa using hnew), if_neg hnew, hput]

theorem measured_raises {d : Nat} {flag : Bool} (h : flag = true) (h' : (p.zones.get z).flag = false) :
    Cause.lampDeficit.isIn (measured e z d flag p).attn.present = true := by
  rw [measured, if_pos (by rw [h, h']; rfl)]
  simp [raiseCause]

theorem measured_listed {d : Nat} {flag : Bool} (h : flag ≠ (p.zones.get z).flag) : Listed (.unit (.zone z)) (measured e z d flag p) := by
  have hput : Listed (.unit (.zone z)) (putZone e z { p.zones.get z with deficit := d, flag := flag } p) :=
    listed_putZone fun he => h (congrArg Prod.snd he).symm
  simp only [measured]
  split
  · exact Listed.write (w := .raise .lampDeficit) hput
  · exact hput

end Deficit

/-! ### The ramp's step (R152) -/

section Ramp
variable {e : Env} {z : ZoneId} {p : Plant} {o goal : Nat}

/-- A zone's record after a step of its ramp. -/
def Zone.stepped (now goal o : Nat) (r : Ramp) (q : Zone) : Zone :=
  { q with
    output := o, steadySince := now, ramp := if o = goal then .none else r
    step := if o = goal then .stopped else q.step, steps := if o = goal then 0 else q.steps + 1 }

theorem rerun_stepped {now : Nat} {r : Ramp} {q : Zone} (hr : q.ramp = r) (hne : r ≠ .none) (hout : o ≠ q.output)
    (hdir : rampToward goal o = if o = goal then .none else r) :
    { q.setOutput now o with steps := q.steps + 1 }.rerun now goal = q.stepped now goal o r := by
  simp only [Zone.rerun, Zone.setOutput, Zone.stepped, hdir, if_neg hout, hr]
  split <;> simp [hne]

theorem stepRamp_up (hr : (p.zones.get z).ramp = .up) (hlt : (p.zones.get z).output < min (p.zones.get z).comp (p.zones.get z).allowance) :
    stepRamp e z p = putZone e z ((p.zones.get z).stepped e.clock (min (p.zones.get z).comp (p.zones.get z).allowance)
      ((p.zones.get z).output + 1) .up) p := by
  simp only [stepRamp, hr, if_pos hlt]
  rw [rerun_stepped hr nofun (by omega)]
  simp only [rampToward]
  split <;> split <;> (try split) <;> first | rfl | omega

theorem stepRamp_down (hr : (p.zones.get z).ramp = .down) (hlt : min (p.zones.get z).comp (p.zones.get z).allowance < (p.zones.get z).output) :
    stepRamp e z p = putZone e z ((p.zones.get z).stepped e.clock (min (p.zones.get z).comp (p.zones.get z).allowance)
      ((p.zones.get z).output - 1) .down) p := by
  simp only [stepRamp, hr, if_pos hlt]
  rw [rerun_stepped hr nofun (by omega)]
  simp only [rampToward]
  split <;> split <;> (try split) <;> first | rfl | omega

end Ramp

/-- Settles O46: each event by the record that it writes, and what the allocation after it leaves of that record. -/
theorem lightingEventsAct : Obligations.LightingEventsAct := by
  refine ⟨fun d count s => ?_, fun z m s => ?_, fun z s => ?_⟩
  · intro w
    refine ⟨fun hlow hhigh => ?_, fun hout => ?_, fun start hlost hstart hran => ?_⟩
    · exact if_pos (by simp [luminanceValid, hlow, hhigh])
    · exact if_neg (by simp [luminanceValid]; omega)
    · exact if_pos (lossDue_iff.mpr ⟨hlost, start, hstart, hran⟩)
  · intro q fs deficit flag
    refine ⟨fun hnot => ?_, fun hlow hsteady => ?_⟩
    · have hdue : ¬deficitDue s.env.clock (s.plant.zones.get z) = true := by
        rw [deficitDue_iff]
        rintro ⟨h1, h2⟩
        exact hnot.elim (Nat.not_lt.mpr h1) (Nat.not_lt.mpr h2)
      exact congrArg (fun p => Host.Outcome.next { s with plant := p }) (if_neg hdue)
    · have hdue := measureDeficit_due (e := s.env) (count := m) (deficitDue_iff.mpr ⟨hlow, hsteady⟩)
      obtain ⟨hzones, hunits, hpumps, hportals⟩ := measured_frame (e := s.env) (z := z) (d := deficit) (flag := flag) (p := s.plant)
      obtain ⟨hpresent, hcount⟩ := lampPass_attn (e := s.env) (p := measured s.env z deficit flag s.plant)
      obtain ⟨hdeficit, hflag⟩ := lampPass_deficit (e := s.env) (z := z) (p := measured s.env z deficit flag s.plant)
      rw [hzones, PerZone.get_set] at hdeficit hflag
      have hexec : exec (.deficitMeasurement z m) s = .next (s.withPlant (measureDeficit s.env z m s.plant)) := rfl
      refine ⟨s.withPlant (lampPass s.env (measured s.env z deficit flag s.plant)), hexec.trans (congrArg _ (congrArg _ hdue)), rfl, rfl, rfl, lampPass_units.trans hunits,
        lampPass_pumps.trans hpumps, lampPass_portals.trans hportals, hdeficit, hflag, (hcount _).trans measured_count,
        fun hset hclear => ?_, fun hne => ?_⟩
      · refine (congrArg _ hpresent).trans ?_
        exact measured_raises hset hclear
      · exact Listed.wrote (measured_listed hne) (lampPass_wrote .refl)
  · intro q goal stepped ran
    refine ⟨fun hup hlt hran => ?_, fun hdown hlt hran => ?_⟩
    · obtain ⟨start, hstep, hle⟩ := hran
      refine congrArg Host.Outcome.next ((if_pos (rampDue_iff.mpr ⟨by rw [hup]; nofun, start, hstep, ?_⟩)).trans ?_)
      · rwa [rampRate, if_pos hup]
      · rw [stepRamp_up hup hlt]
        rfl
    · obtain ⟨start, hstep, hle⟩ := hran
      refine congrArg Host.Outcome.next ((if_pos (rampDue_iff.mpr ⟨by rw [hdown]; nofun, start, hstep, ?_⟩)).trans ?_)
      · rwa [rampRate, if_neg (by rw [hdown]; nofun)]
      · rw [stepRamp_down hdown hlt]
        rfl

end Sys2Proof.Machine

/-! The supply state and the Start Arbiter's timers: O40, O42. -/

namespace Sys2Proof.Machine

/-! ### The supply state (R98) -/

section Supply
variable {e : Env} {a p : Plant} {v : Supply}

/-- No write of the plant's blocks concerns the supply state or its timer. -/
theorem Wrote.supply {ok : Plant → PlantWrite → Prop} (h : Wrote e ok a p) :
    p.arb.supply = a.arb.supply ∧ p.arb.transfer = a.arb.transfer := by
  refine h.induct (P := fun q => q.arb.supply = a.arb.supply ∧ q.arb.transfer = a.arb.transfer) (fun q w _ hq => ?_) ⟨rfl, rfl⟩
  cases w <;> simpa [PlantWrite.run] using hq

theorem dropLoads_wrote : Wrote e AnyWrite p (dropZones e (dropPermits e (dropPumps e p))) :=
  dropZones_wrote (withdrawPermits_wrote (dropPumps_wrote .refl).any)

theorem settlePlant_supply : (settlePlant e p).arb.supply = p.arb.supply ∧ (settlePlant e p).arb.transfer = p.arb.transfer := blocksAct_arb

/-- The new state stands, with its timer. -/
theorem changeSupply_arb : (changeSupply e v p).arb.supply = v ∧
    (changeSupply e v p).arb.transfer = if v = .transfer then .since e.clock else .stopped := by
  obtain ⟨hsupply, htransfer⟩ := settlePlant_supply (e := e) (p := dropZones e (dropPermits e (dropPumps e (setSupply e v p))))
  obtain ⟨hs, ht⟩ := (dropLoads_wrote (e := e) (p := setSupply e v p)).supply
  exact ⟨hsupply.trans hs, htransfer.trans ht⟩

theorem nextSupply_eq {g b : Bool} {now : Supply} :
    nextSupply g b now = if g then .grid else if b then .standby else if now = .dark then .dark else .transfer := by
  cases g <;> cases b <;> cases now <;> rfl

theorem mem_dueEvents_transfer {s : State} : Instr.transferTimeout ∈ dueEvents s ↔ transferDue s.env s.plant = true := by
  simp [dueEvents, dueOrders, dueKey, dueSump, duePump, dueArbiter, duePortal, dueSide, dueZone, dueLink, mem_dueOf]

end Supply

/-- Settles O40: the state by its table, and nothing but a change of it writes it (`Wrote.supply`). -/
theorem supplyStateFollowsTheInputs : Obligations.SupplyStateFollowsTheInputs := by
  refine ⟨fun g b s => ⟨fun hsame => if_pos hsame, fun hnew => ?_⟩, fun s => ⟨fun start hin hstart hran => ?_, fun hnot => ?_, ?_⟩,
    fun pins cut b s t ht => ?_⟩
  · refine ⟨_, if_neg hnew, rfl, ?_⟩
    rw [← nextSupply_eq]
    by_cases hstay : nextSupply g b s.plant.arb.supply = s.plant.arb.supply
    · simp only [if_pos hstay]
      exact ⟨hstay.symm, fun _ => trivial, fun h => absurd rfl h⟩
    · simp only [if_neg hstay]
      obtain ⟨hsupply, htransfer⟩ := changeSupply_arb (e := { s.env with pins := { s.env.pins with gridOk := g, standbyOk := b } })
        (v := nextSupply g b s.plant.arb.supply) (p := s.plant)
      refine ⟨hsupply, fun h => absurd (hsupply.symm.trans h) hstay, fun _ => ?_⟩
      rw [hsupply]
      exact htransfer
  · exact ⟨_, if_pos (transferDue_iff.mpr ⟨hin, start, hstart, hran⟩), rfl, changeSupply_arb⟩
  · exact if_neg (transferDue_iff.not.mpr hnot)
  · exact mem_dueEvents_transfer.trans transferDue_iff
  · cases ht
    obtain ⟨-, -, harb, -⟩ := bootPlant_frame (bootEnv pins (s.store.cut cut))
    have hsupply : (bootState pins b (s.store.cut cut) s.pending s.links.lines).plant.arb = bootArbiter pins := harb
    rw [hsupply]
    have hnext : (bootArbiter pins).supply = nextSupply pins.gridOk pins.standbyOk .transfer := rfl
    exact ⟨hnext.trans nextSupply_eq, rfl⟩

/-! ### SET SUPPLY CONFIG and the arbiter's timers (R105, R109, R111) -/

section Waits
variable {e : Env} {p : Plant} {u w : UnitId} {v : SupplyCfg} {s : State}

theorem supplyCfgFits_iff : supplyCfgFits v = true ↔
    v.grid ≤ 2000 ∧ v.standby ≤ 2000 ∧ (10 ≤ v.transferLimit ∧ v.transferLimit ≤ 300) ∧ v.spacing ≤ 60 ∧ 30 ≤ v.waitLimit ∧ v.waitLimit ≤ 600 := by
  simp [supplyCfgFits, within, and_assoc]

theorem budgetHolds_iff : budgetHolds e p v = true ↔
    (p.arb.supply = .grid → nonLampLoad e p + shedReservation e.cfg ≤ v.grid) ∧
      (p.arb.supply = .standby → nonLampLoad e p + shedReservation e.cfg ≤ v.standby) := by
  cases h : p.arb.supply <;> simp [budgetHolds, h, Supply.powered, budgetOf]

/-- A unit that can wait is a pump or a portal. -/
def canWait : UnitId → Bool
  | .pump _ | .portal _ => true
  | _ => false

theorem starve_queue : (starve e u p).arb = p.arb ∧ (starve e u p).units = p.units := by
  cases u with
  | pump i => exact ⟨putPump_arb .., putPump_units ..⟩
  | portal i => exact ⟨putPortal_arb .., putPortal_units ..⟩
  | _ => exact ⟨rfl, rfl⟩

/-- A unit is starved, and no starved one recovers by it (R111). -/
theorem starve_flag (h : starvedFlag p w = true ∨ w = u ∧ canWait w = true) : starvedFlag (starve e u p) w = true := by
  cases u with
  | pump i =>
    cases w with
    | pump j =>
      by_cases hj : j = i
      · subst hj
        simp [starvedFlag, starve]
      · simpa [starvedFlag, starve, PerPump.get_set_ne _ _ hj, hj] using h
    | portal j => simpa [starvedFlag, starve] using h
    | _ => simp [starvedFlag, canWait] at h
  | portal i =>
    cases w with
    | portal j =>
      by_cases hj : j = i
      · subst hj
        simp [starvedFlag, starve]
      · simpa [starvedFlag, starve, PerPortal.get_set_ne _ _ hj, hj] using h
    | pump j => simpa [starvedFlag, starve] using h
    | _ => simp [starvedFlag, canWait] at h
  | _ =>
    refine h.resolve_right ?_
    rintro ⟨rfl, hw⟩
    cases hw

theorem starves_flag (l : List Request) : ∀ {p : Plant}, (starvedFlag p w = true ∨ canWait w = true ∧ ∃ r ∈ l, r.unit = w) →
    starvedFlag (l.foldl (fun a r => starve e r.unit a) p) w = true := by
  induction l with
  | nil => exact fun h => h.elim id fun ⟨_, _, hr, _⟩ => absurd hr List.not_mem_nil
  | cons r l ih =>
    intro p h
    refine ih ?_
    obtain h | ⟨hw, x, hx, rfl⟩ := h
    · exact .inl (starve_flag (.inl h))
    · obtain rfl | hx := List.mem_cons.mp hx
      · exact .inl (starve_flag (.inr ⟨rfl, hw⟩))
      · exact .inr ⟨hw, x, hx, rfl⟩

theorem checkWaits_frame : (checkWaits e p).arb = p.arb ∧ (checkWaits e p).units = p.units :=
  foldl_keeps (P := fun q => q.arb = p.arb ∧ q.units = p.units) (f := fun a r => starve e (Request.unit r) a)
    (fun _ _ h => ⟨starve_queue.1.trans h.1, starve_queue.2.trans h.2⟩) _ ⟨rfl, rfl⟩

/-- When the waits have been checked every request that has reached the limit is STARVED (R105). -/
theorem checkWaits_starved {r : Request} (hr : r ∈ p.arb.queue) (hw : 1000 * e.cfg.supply.waitLimit ≤ r.wait.elapsed e.clock)
    (hu : canWait r.unit = true) : starvedFlag (checkWaits e p) r.unit = true := by
  refine starves_flag _ ?_
  cases hf : starvedFlag p r.unit with
  | true => exact .inl rfl
  | false => exact .inr ⟨hu, r, List.mem_filter.mpr ⟨hr, by simp [hw, hf]⟩, rfl⟩

theorem checkSpacing_frame : (checkSpacing e p).arb.supply = p.arb.supply ∧ (checkSpacing e p).units = p.units := by
  simp only [checkSpacing]
  split
  · exact ⟨settlePlant_supply.1, (settlePlant_kept (e := e) .refl).units⟩
  · exact ⟨rfl, rfl⟩

theorem checkTransfer_supply : (checkTransfer e p).arb.supply = if transferDue e p = true then .dark else p.arb.supply := by
  simp only [checkTransfer]
  split
  · exact changeSupply_arb.1
  · rfl

theorem checkTransfer_units : (checkTransfer e p).units = p.units := by
  simp only [checkTransfer]
  split
  · exact (changeSupply_kept (e := e) .refl).units
  · rfl

theorem transferDue_congr {q : Plant} (hs : q.arb.supply = p.arb.supply) (ht : q.arb.transfer = p.arb.transfer) :
    transferDue e q = transferDue e p := by
  simp only [transferDue, hs, ht]

/-- The blocks act under the new group, and the timers are checked against it (R105). -/
def regrouped (e : Env) (p : Plant) : Plant := checkWaits e (checkSpacing e (checkTransfer e (settlePlant e p)))

theorem takeSupplyCfg_eq : takeSupplyCfg v s = { s with
    env := { s.env with cfg := { s.env.cfg with supply := v } }
    plant := regrouped { s.env with cfg := { s.env.cfg with supply := v } } s.plant } := rfl

theorem regrouped_supply : (regrouped e p).arb.supply = if transferDue e p = true then .dark else p.arb.supply := by
  obtain ⟨hsupply, htransfer⟩ := settlePlant_supply (e := e) (p := p)
  refine (congrArg Arbiter.supply checkWaits_frame.1).trans (checkSpacing_frame.1.trans (checkTransfer_supply.trans ?_))
  rw [transferDue_congr hsupply htransfer, hsupply]

theorem regrouped_units : (regrouped e p).units = p.units :=
  checkWaits_frame.2.trans (checkSpacing_frame.2.trans (checkTransfer_units.trans (settlePlant_kept (e := e) .refl).units))

/-- Every request that has waited for the wait limit is STARVED (R105). -/
theorem regrouped_starved {r : Request} (hr : r ∈ (regrouped e p).arb.queue) (hw : 1000 * e.cfg.supply.waitLimit ≤ r.wait.elapsed e.clock)
    (hu : canWait r.unit = true) : starvedFlag (regrouped e p) r.unit = true :=
  checkWaits_starved (checkWaits_frame.1 ▸ hr) hw hu

/-- The checks of SET SUPPLY CONFIG pass (R105). -/
theorem handleSetSupplyConfig_passes {body : List Byte} (hlen : body.length = 9) (hread : readSupplyCfg body = some v)
    (hsaving : s.store.state ≠ .saving) (hfit : supplyCfgFits v = true) (hsheds : shedsFit s.env.cfg v = true)
    (hholds : budgetHolds s.env s.plant v = true) : handleSetSupplyConfig .panel body s = (takeSupplyCfg v s, .done []) := by
  unfold handleSetSupplyConfig
  refine (guarded_pass ?_).trans (by rw [hread])
  rw [hlen, hread, notSaving_eq_true.mpr hsaving]
  simp [firstFailure, hfit, hsheds, hholds]

end Waits

/-- Settles O42: the group is taken up and the timers are checked against it (`regrouped`). -/
theorem arbiterTimersAct : Obligations.ArbiterTimersAct := by
  refine ⟨fun tag gh gl sh sl th tl sp wh wl s hslot hsaving => ?_, fun s => ⟨fun start hstart hran => ?_, fun i joined start hr hran hout hflag => ?_,
    fun i joined start hr hran hout hflag => ?_⟩⟩
  · intro v hgrid hstandby hlow hhigh hspacing hwlow hwhigh hsheds hg hs
    have hfit : supplyCfgFits v = true := supplyCfgFits_iff.mpr ⟨hgrid, hstandby, ⟨hlow, hhigh⟩, hspacing, hwlow, hwhigh⟩
    refine ⟨_, exec_answered rfl hslot (handleSetSupplyConfig_passes (v := v) rfl rfl hsaving hfit (decide_eq_true hsheds)
      (budgetHolds_iff.mpr ⟨hg, hs⟩)), rfl, rfl, rfl, ?_, ?_, fun r hr hw => ?_⟩
    · exact regrouped_units
    · refine regrouped_supply.trans ?_
      by_cases hdue : transferDue { s.env with cfg := { s.env.cfg with supply := v } } s.plant = true
      · obtain ⟨hs, start, ht, hran⟩ := transferDue_iff.mp hdue
        rw [if_pos hdue, hs, ht]
        exact (if_pos hran).symm
      · rw [if_neg hdue]
        split
        · next start hs ht =>
          exact hs.trans (if_neg fun hran => hdue (transferDue_iff.mpr ⟨hs, start, ht, hran⟩)).symm
        · rfl
    · have hstarved := regrouped_starved hr hw
      refine ⟨fun i hi => ?_, fun i hi => ?_⟩
      · rw [hi] at hstarved
        exact hstarved rfl
      · rw [hi] at hstarved
        exact hstarved rfl
  · exact if_pos (spacingDue_iff.mpr ⟨start, hstart, hran⟩)
  · have hdue : waitDue s.env s.plant (.pump i) = true := waitDue_iff.mpr ⟨hout, hflag, _, hr, rfl, start, rfl, hran⟩
    exact if_pos hdue
  · have hdue : waitDue s.env s.plant (.portal i) = true := waitDue_iff.mpr ⟨hout, hflag, _, hr, rfl, start, rfl, hran⟩
    exact if_pos hdue

end Sys2Proof.Machine

/-! The vote, the rate and the stage of a sample event: O29, O31, O32. -/

namespace Sys2Proof.Machine

/-! ### Latched causes (R175) -/

/-- The cause is present. -/
def Shows (c : Cause) (p : Plant) : Prop := c.isIn p.attn.present = true

section Shows
variable {e : Env} {c : Cause} {a p : Plant} {s : State}

/-- No act of a block takes a latched cause away. -/
theorem Shows.kept (h : Shows c a) (hc : c.latched = true) (hk : Kept e a p) : Shows c p := by
  refine hk.attn.induct (P := fun t => c.isIn t.present = true) (fun k t _ => id) (fun d t ht => ?_) (fun w t ht => ?_) h
  · rw [raise_isIn, ht, Bool.true_or]
  · rw [conditions_isIn, if_pos hc]
    exact ht

theorem Shows.report (h : Shows c p) {k : RecordKey} {r : Option Reason} : Shows c (report e k r p) := h

theorem Shows.syncUnit (h : Shows c p) (hc : c.latched = true) {u : UnitId} : Shows c (syncUnit e u p) := by
  simp only [Machine.syncUnit]
  split
  · exact h
  · have hrecord : Shows c (Machine.report e (.unit u) none { p with units := p.units.set u (unitRecOf e.cfg e.table u) }) := h
    split
    · exact hrecord.kept hc (onLock_kept (e := e) .refl)
    · split
      · exact hrecord.kept hc (onUnlock_kept (e := e) .refl)
      · exact hrecord

theorem Shows.resolve (h : Shows c s.plant) (hc : c.latched = true) {us : List UnitId} : Shows c (resolve us s).plant := by
  simp only [Machine.resolve]
  refine foldl_keeps (P := Shows c) (fun q u hq => Shows.syncUnit hq hc) _ ?_
  exact foldl_keeps (P := Shows c) (fun q n hq => Shows.report hq) _ h

theorem Shows.removeOrders (h : Shows c s.plant) {gone : Order → Bool} {why : Reason} : Shows c (removeOrders gone why s).plant := by
  simp only [Machine.removeOrders]
  exact foldl_keeps (P := Shows c) (fun q n hq => Shows.report hq) _ h

theorem Shows.standDown (h : Shows c s.plant) (hc : c.latched = true) : Shows c (standDown s).plant := by
  simp only [Machine.standDown]
  exact Shows.resolve h.removeOrders hc

theorem Shows.latchSump (h : Shows c s.plant) {u : SumpId} : Shows c (latchSump u s).plant := by
  simp only [Machine.latchSump]
  split <;> exact h

theorem Shows.settle (h : Shows c s.plant) (hc : c.latched = true) : Shows c (settle s).plant := h.kept hc (settlePlant_kept .refl)

theorem shows_raised : Shows c (raiseCause e c p) := by
  simp [Shows, raiseCause]

theorem Shows.raise (h : Shows c p) {d : Cause} : Shows c (raiseCause e d p) := by
  simp only [Shows, raiseCause, raise_isIn] at h ⊢
  rw [h, Bool.true_or]

theorem reportSection_barred {u : SumpId} {old new : Section} {b : Bool} (hnew : new.mode = .barred) (hold : old.mode ≠ .barred) :
    Shows .sensorBarred (reportSection e u old new b p) := by
  have hraise {q : Plant} : Shows .sensorBarred (if new.mode = .barred ∧ old.mode ≠ .barred then raiseCause e .sensorBarred q else q) := by
    rw [if_pos ⟨hnew, hold⟩]
    exact shows_raised
  simp only [reportSection]
  split
  · exact hraise.raise
  · exact hraise

theorem reportSection_conflict {u : SumpId} {old new : Section} {b : Bool} (hnew : new.conflict = true) (hold : old.conflict = false) :
    Shows .sensorConflict (reportSection e u old new b p) := by
  have hraise {q : Plant} : Shows .sensorConflict (if new.conflict = true ∧ old.conflict = false then raiseCause e .sensorConflict q else q) := by
    rw [if_pos ⟨hnew, hold⟩]
    exact shows_raised
  exact hraise

theorem takeSection_shows {u : SumpId} {m : Section} (hc : c.latched = true)
    (h : ∀ b : Bool, ∀ e : Env, Shows c (reportSection e u (s.env.sumps.get u) m b s.plant)) : Shows c (takeSection u m s).plant := by
  simp only [takeSection]
  split
  · exact Shows.standDown (h _ _) hc
  · exact h _ _

end Shows

/-! ### What the vote leaves (R53 to R56) -/

section Vote
variable {d a b L : Nat} {x : Sample} {m : Section} {y : Option Sample}

/-- The record of the last sample is no matter of the vote. -/
theorem vote_last : (vote d x { m with last := y }).1 = { (vote d x m).1 with last := y } := by
  simp only [vote, votePair, voteNeither]
  repeat' split
  all_goals rfl

/-- A vote that makes a level keeps the rate. -/
theorem vote_rate (h : (vote d x m).2 = some L) : (vote d x m).1.rate = m.rate := by
  revert h
  simp only [vote, votePair, voteNeither]
  repeat' split
  all_goals first | exact fun _ => rfl | exact nofun

theorem followLevel_vote {w f : Nat} {ends : Bool} : (followLevel w L f ends m).mode = m.mode ∧
    (followLevel w L f ends m).invalidCount = m.invalidCount ∧ (followLevel w L f ends m).allowance = m.allowance := by
  simp only [followLevel]
  repeat' split
  all_goals exact ⟨rfl, rfl, rfl⟩

/-- What the vote writes, a level leaves. -/
theorem takeLevel_vote {st : Staging} {ends : Bool} : (takeLevel st L ends m).mode = m.mode ∧
    (takeLevel st L ends m).invalidCount = m.invalidCount ∧ (takeLevel st L ends m).allowance = m.allowance := by
  simp only [takeLevel]
  split
  · exact ⟨rfl, rfl, rfl⟩
  · exact followLevel_vote

/-- The first level seeds F, and every later one is filtered (R57). -/
def seededBy (st : Staging) (m : Section) (L : Nat) : Nat :=
  match m.level with
  | none => L
  | some f => filterLevel st.w L f

theorem takeLevel_level {st : Staging} {ends : Bool} : (takeLevel st L ends m).level = some (seededBy st m L) := by
  cases h : m.level with
  | none => rw [takeLevel_seed _ _ _ _ h, seededBy, h]
  | some f => rw [takeLevel_filters _ _ _ _ h, seededBy, h]

end Vote

/-! ### The section after a sample event -/

section Sampled
variable {now : Nat} {c : SumpCfg} {a b L : Nat} {m : Section}

theorem evaluate_rest {st : Staging} : (evaluate now st m).rate = m.rate ∧ (evaluate now st m).forecast = m.forecast ∧
    (evaluate now st m).invalidCount = m.invalidCount ∧ (evaluate now st m).allowance = m.allowance ∧
    (evaluate now st m).high = m.high ∧ (evaluate now st m).extreme = m.extreme := by
  have h := evaluate_keeps now st m
  exact ⟨(congrArg Section.rate h :), (congrArg Section.forecast h :), (congrArg Section.invalidCount h :), (congrArg Section.allowance h :),
    (congrArg Section.high h :), (congrArg Section.extreme h :)⟩

/-- The section before the evaluation of its stage. -/
def measuredSection (c : SumpCfg) (a b : Nat) (m : Section) : Section :=
  match (vote c.calibration.d (sampleOf c.calibration a b) m).2 with
  | some L => takeLevel c.staging L (m.mode == .float)
      { (vote c.calibration.d (sampleOf c.calibration a b) m).1 with last := some (sampleOf c.calibration a b) }
  | none => { (vote c.calibration.d (sampleOf c.calibration a b) m).1 with last := some (sampleOf c.calibration a b) }

theorem sampleSection_eq : (sampleSection now c a b m).1 = evaluate now c.staging (measuredSection c a b m) := by
  simp only [sampleSection, measuredSection, vote_withLast, vote_last]
  <;> rfl

/-- A sample that makes no level leaves what the vote leaves. -/
theorem measuredSection_none (h : (vote c.calibration.d (sampleOf c.calibration a b) m).2 = none) : measuredSection c a b m =
    { (vote c.calibration.d (sampleOf c.calibration a b) m).1 with last := some (sampleOf c.calibration a b) } := by
  simp only [measuredSection, h]

theorem measuredSection_some (h : (vote c.calibration.d (sampleOf c.calibration a b) m).2 = some L) : measuredSection c a b m =
    takeLevel c.staging L (m.mode == .float)
      { (vote c.calibration.d (sampleOf c.calibration a b) m).1 with last := some (sampleOf c.calibration a b) } := by
  simp only [measuredSection, h]

/-- What the evaluation leaves of a section. -/
structure SameMeasure (m m' : Section) : Prop where
  level : m'.level = m.level
  level10 : m'.level10 = m.level10
  rateCount : m'.rateCount = m.rateCount
  rate : m'.rate = m.rate
  forecast : m'.forecast = m.forecast
  mode : m'.mode = m.mode
  invalidCount : m'.invalidCount = m.invalidCount
  allowance : m'.allowance = m.allowance
  high : m'.high = m.high
  extreme : m'.extreme = m.extreme

theorem evaluate_measure {st : Staging} : SameMeasure m (evaluate now st m) := by
  obtain ⟨h1, h2, h3, h4, h5, h6⟩ := evaluate_rest (now := now) (st := st) (m := m)
  exact ⟨evaluate_level .., evaluate_level10 .., evaluate_rateCount .., h1, h2, evaluate_mode .., h3, h4, h5, h6⟩

theorem sampleSection_measure : SameMeasure (measuredSection c a b m) (sampleSection now c a b m).1 := by
  rw [sampleSection_eq]
  exact evaluate_measure

/-- A sample that makes a level: the vote's mode, invalid count and allowance, and the level taken in (R53 to R57). -/
theorem voted_level {v : Section} (h : vote c.calibration.d (sampleOf c.calibration a b) m = (v, some L)) :
    let m' := (sampleSection now c a b m).1
    m'.mode = v.mode ∧ m'.invalidCount = v.invalidCount ∧ m'.allowance = v.allowance ∧ m'.level = some (seededBy c.staging m L) := by
  intro m'
  have hv := vote_voted m c.calibration.d (sampleOf c.calibration a b)
  have hmeasure : SameMeasure (measuredSection c a b m) m' := sampleSection_measure
  rw [measuredSection_some (congrArg Prod.snd h), h] at hmeasure
  rw [h] at hv
  obtain ⟨hmode, hinvalid, hallow⟩ := takeLevel_vote (m := { v with last := some (sampleOf c.calibration a b) }) (L := L) (st := c.staging)
    (ends := m.mode == .float)
  refine ⟨hmeasure.mode.trans hmode, hmeasure.invalidCount.trans hinvalid, hmeasure.allowance.trans hallow,
    hmeasure.level.trans (takeLevel_level.trans ?_)⟩
  have hlevel : v.level = m.level := hv.level
  simp only [seededBy, hlevel]

/-- A sample that makes none: what the vote leaves, and F frozen (R54, R56). -/
theorem voted_none {v : Section} (h : vote c.calibration.d (sampleOf c.calibration a b) m = (v, none)) :
    let m' := (sampleSection now c a b m).1
    m'.mode = v.mode ∧ m'.invalidCount = v.invalidCount ∧ m'.allowance = v.allowance ∧ m'.rate = v.rate ∧ m'.forecast = v.forecast ∧
      m'.level = m.level ∧ m'.level10 = m.level10 ∧ m'.rateCount = m.rateCount := by
  intro m'
  have hv := vote_voted m c.calibration.d (sampleOf c.calibration a b)
  have hmeasure : SameMeasure (measuredSection c a b m) m' := sampleSection_measure
  rw [measuredSection_none (congrArg Prod.snd h), h] at hmeasure
  rw [h] at hv
  exact ⟨hmeasure.mode, hmeasure.invalidCount, hmeasure.allowance, hmeasure.rate, hmeasure.forecast, hmeasure.level.trans hv.level,
    hmeasure.level10.trans hv.level10, hmeasure.rateCount.trans hv.rateCount⟩

end Sampled

/-- A section that a sample event bars raises SENSOR_BARRED, and one whose conflict begins SENSOR_CONFLICT (R55, R67). -/
theorem sumpSample_shows {u : SumpId} {a b : Nat} {s t : State} (ht : exec (.sumpSample u a b) s = .next t) :
    ((t.env.sumps.get u).mode = .barred → (s.env.sumps.get u).mode ≠ .barred → Shows .sensorBarred t.plant) ∧
      ((t.env.sumps.get u).conflict = true → (s.env.sumps.get u).conflict = false → Shows .sensorConflict t.plant) := by
  have hsump := sump_of_sumpSample ht
  rw [hsump]
  have hkeeps {c : Cause} (hc : c.latched = true)
      (h : ∀ (b' : Bool) (e : Env), Shows c (reportSection e u (s.env.sumps.get u)
        (sampleSection s.env.clock (s.env.cfg.sumps.get u) a b (s.env.sumps.get u)).1 b' s.plant)) : Shows c t.plant := by
    cases ht
    refine Shows.settle ?_ hc
    split
    · exact (takeSection_shows hc h).latchSump
    · exact takeSection_shows hc h
  exact ⟨fun hnew hold => hkeeps rfl fun _ _ => reportSection_barred hnew hold,
    fun hnew hold => hkeeps rfl fun _ _ => reportSection_conflict hnew hold⟩

/-- Settles O29: the vote of the sample's two levels, and what a level or none leaves after it. -/
theorem voteOfEverySample : Obligations.VoteOfEverySample := by
  intro u a b s t ht c x m m' seeded frozen
  have hm' : m' = (sampleSection s.env.clock c a b m).1 := sump_of_sumpSample ht
  have hlevel {v : Section} {L : Nat} (h : vote c.calibration.d x m = (v, some L)) :
      m'.mode = v.mode ∧ m'.invalidCount = v.invalidCount ∧ m'.allowance = v.allowance ∧ m'.level = seeded L := hm' ▸ voted_level h
  have hnone {v : Section} (h : vote c.calibration.d x m = (v, none)) :
      m'.mode = v.mode ∧ m'.invalidCount = v.invalidCount ∧ m'.allowance = v.allowance ∧ m'.rate = v.rate ∧ m'.forecast = v.forecast ∧
        frozen := by
    obtain ⟨h1, h2, h3, h4, h5, h6⟩ := voted_none (now := s.env.clock) h
    rw [← hm'] at h1 h2 h3 h4 h5 h6
    exact ⟨h1, h2, h3, h4, h5, h6⟩
  refine ⟨fun hbarred => ?_, fun hbarred A B hA hB => ?_, fun hbarred L hone => ?_, fun hbarred hA hB => ?_⟩
  · obtain ⟨h1, h2, h3, h4, h5, h6⟩ := hnone (v := m) (if_pos hbarred)
    exact ⟨h1.trans hbarred, h6, h4, h5, h2, h3⟩
  · have hpair : vote c.calibration.d x m = votePair c.calibration.d A B m := by
      simp only [vote, if_neg hbarred, hA, hB]
    have hagree : max A B - min A B ≤ c.calibration.d →
        m'.invalidCount = 0 ∧ m'.mode = .dual ∧ m'.allowance = m.allowance ∧ m'.level = seeded ((A + B) / 2) := fun h => by
      obtain ⟨h1, h2, h3, h4⟩ := hlevel (hpair.trans (if_pos h))
      exact ⟨h2, h1, h3, h4⟩
    have hcorrect : c.calibration.d < max A B - min A B → 1 < m.allowance → m'.invalidCount = 0 ∧ m'.mode = .corrected ∧
        m'.allowance = m.allowance - 1 ∧ m'.level = seeded (nearer m.level A B) := fun h hallow => by
      obtain ⟨h1, h2, h3, h4⟩ := hlevel (hpair.trans ((if_neg (Nat.not_le.mpr h)).trans (if_neg (Nat.not_le.mpr hallow))))
      exact ⟨h2, h1, h3, h4⟩
    have hbar : c.calibration.d < max A B - min A B → m.allowance ≤ 1 → m'.invalidCount = 0 ∧ m'.mode = .barred ∧ m'.allowance = 0 ∧
        m'.rate = none ∧ m'.forecast = none ∧ frozen := fun h hallow => by
      obtain ⟨h1, h2, h3, h4⟩ := hnone (hpair.trans ((if_neg (Nat.not_le.mpr h)).trans (if_pos hallow)))
      exact ⟨h2, h1, h3, h4⟩
    refine ⟨?_, fun h => (hagree h).2, fun h hallow => (hcorrect h hallow).2, fun h hallow => ?_⟩
    · by_cases h : max A B - min A B ≤ c.calibration.d
      · exact (hagree h).1
      · by_cases hallow : m.allowance ≤ 1
        · exact (hbar (Nat.not_le.mp h) hallow).1
        · exact (hcorrect (Nat.not_le.mp h) (Nat.not_le.mp hallow)).1
    · obtain ⟨-, h1, h2, h3, h4, h5⟩ := hbar h hallow
      exact ⟨h1, h2, h5, h3, h4, (sumpSample_shows ht).1 h1 hbarred⟩
  · have hvote : vote c.calibration.d x m = ({ m with mode := .single, invalidCount := 0 }, some L) := by
      obtain ⟨hA, hB⟩ | ⟨hA, hB⟩ := hone <;> simp only [vote, if_neg hbarred, hA, hB]
    exact hlevel hvote
  · have hvote : vote c.calibration.d x m = (voteNeither m, none) := by
      simp only [vote, if_neg hbarred, hA, hB]
    have height : Config.floatAfterInvalid = 8 := rfl
    obtain ⟨h1, h2, h3, h4, h5, h6⟩ := hnone hvote
    refine ⟨h6, h3.trans ?_, fun hfew => ?_, fun hmany => ?_⟩
    · simp only [voteNeither]
      split <;> rfl
    · have hneither : voteNeither m = { m with invalidCount := m.invalidCount + 1 } := if_neg (by omega)
      rw [hneither] at h1 h2 h4 h5
      exact ⟨h2, h1, h4, h5⟩
    · have hneither : voteNeither m = { m with mode := .float, invalidCount := 8, rate := none, forecast := none } := if_pos (by omega)
      rw [hneither] at h1 h2 h4 h5
      exact ⟨h2, h1, h4, h5⟩

/-! ### Rate and forecast (R58, R59) -/

section Rate
variable {st : Staging} {L f : Nat} {ends : Bool} {m : Section}

/-- The three kinds of level after the seed (R58). -/
theorem takeLevel_rate (h : m.level = some f) : let m' := takeLevel st L ends m
    (m.level10 = none ∨ ends = true → m'.level10 = some (filterLevel st.w L f) ∧ m'.rateCount = 0 ∧ m'.rate = m.rate) ∧
    (∀ f10, m.level10 = some f10 → ends = false → 39 ≤ m.rateCount →
      m'.level10 = some (filterLevel st.w L f) ∧ m'.rateCount = 0 ∧ m'.rate = some (rateBetween (filterLevel st.w L f) f10)) ∧
    (∀ f10, m.level10 = some f10 → ends = false → m.rateCount < 39 →
      m'.level10 = some f10 ∧ m'.rateCount = m.rateCount + 1 ∧ m'.rate = m.rate) := by
  have hlast : Config.rateCountLast = 39 := rfl
  simp only [takeLevel, h, followLevel]
  refine ⟨fun hfirst => ?_, fun f10 h10 hends hmany => ?_, fun f10 h10 hends hfew => ?_⟩
  · cases h10 : m.level10 with
    | none => exact ⟨rfl, rfl, rfl⟩
    | some f10 =>
      have hends : ends = true := hfirst.resolve_left (by simp [h10])
      rw [hends]
      exact ⟨rfl, rfl, rfl⟩
  · simp only [h10, hends, Bool.false_eq_true, if_false]
    rw [if_pos (by omega)]
    exact ⟨rfl, rfl, rfl⟩
  · simp only [h10, hends, Bool.false_eq_true, if_false]
    rw [if_neg (by omega)]
    exact ⟨rfl, rfl, rfl⟩

theorem takeLevel_forecast : (takeLevel st L ends m).forecast = forecastTo st.t3 (takeLevel st L ends m).rate (seededBy st m L) := by
  have hlevel := takeLevel_level (st := st) (L := L) (ends := ends) (m := m)
  simp only [takeLevel] at hlevel ⊢
  rw [hlevel]
  rfl

end Rate

/-- Settles O31: the level is taken into the section that the vote leaves, whose rate fields are those of before. -/
theorem rateAndForecastFollow : Obligations.RateAndForecastFollow := by
  intro u a b s t L f ht c m m' f' hvote hlevel
  have hv := vote_voted m c.calibration.d (sampleOf c.calibration a b)
  have hmeasure : SameMeasure (measuredSection c a b m) m' := by
    rw [show m' = _ from sump_of_sumpSample ht]
    exact sampleSection_measure
  rw [measuredSection_some hvote] at hmeasure
  generalize hw : ({ (vote c.calibration.d (sampleOf c.calibration a b) m).1 with last := some (sampleOf c.calibration a b) } : Section) = w
    at hmeasure
  have hwlevel : w.level = some f := hw ▸ hv.level.trans hlevel
  have hw10 : w.level10 = m.level10 := hw ▸ hv.level10
  have hwcount : w.rateCount = m.rateCount := hw ▸ hv.rateCount
  have hwrate : w.rate = m.rate := hw ▸ vote_rate hvote
  obtain ⟨hfirst, hlast, hother⟩ := takeLevel_rate (st := c.staging) (L := L) (ends := m.mode == .float) hwlevel
  rw [hw10, hwrate] at hfirst
  rw [hw10, hwcount] at hlast
  rw [hw10, hwcount, hwrate] at hother
  refine ⟨fun h => ?_, fun f10 h10 hmode hmany => ?_, fun f10 h10 hmode hfew => ?_, ?_⟩
  · obtain ⟨h1, h2, h3⟩ := hfirst (h.imp id beq_iff_eq.mpr)
    exact ⟨hmeasure.level10.trans h1, hmeasure.rateCount.trans h2, hmeasure.rate.trans h3⟩
  · obtain ⟨h1, h2, h3⟩ := hlast f10 h10 (beq_false_of_ne hmode) hmany
    exact ⟨hmeasure.level10.trans h1, hmeasure.rateCount.trans h2, hmeasure.rate.trans h3⟩
  · obtain ⟨h1, h2, h3⟩ := hother f10 h10 (beq_false_of_ne hmode) hfew
    exact ⟨hmeasure.level10.trans h1, hmeasure.rateCount.trans h2, hmeasure.rate.trans h3⟩
  · refine hmeasure.forecast.trans (takeLevel_forecast.trans ?_)
    have hseed : seededBy c.staging w L = f' := by
      simp only [seededBy, hwlevel]
      rfl
    rw [hseed, ← hmeasure.rate]
    generalize m'.rate = r
    cases r <;> simp only [forecastTo, clampTo, ceilDiv, min_comm (a := 9999)]

/-! ### The stage (R61 to R64, R67) -/

section Stage
variable {st : Staging} {m : Section} {f : Nat}

/-- A table whose first row that holds decides. -/
theorem rows {c4 c3 c2 c1 : Bool} : let n := if c4 then 4 else if c3 then 3 else if c2 then 2 else if c1 then 1 else 0
    (n = 4 ↔ c4 = true) ∧ (3 ≤ n ↔ c4 = true ∨ c3 = true) ∧ (2 ≤ n ↔ c4 = true ∨ c3 = true ∨ c2 = true) ∧
      (1 ≤ n ↔ 2 ≤ n ∨ c1 = true) ∧ n ≤ 4 := by
  revert c4 c3 c2 c1
  decide

/-- R61's table, row by row. -/
theorem stageBy_rows {high extreme : Bool} {r : Option Int} {n : Option Nat} :
    (stageBy st high extreme f r n = 4 ↔ st.t4 ≤ f ∨ extreme = true) ∧
    (3 ≤ stageBy st high extreme f r n ↔ st.t4 ≤ f ∨ extreme = true ∨ st.t3 ≤ f ∨ high = true) ∧
    (2 ≤ stageBy st high extreme f r n ↔ st.t4 ≤ f ∨ extreme = true ∨ st.t3 ≤ f ∨ high = true ∨ st.t2 ≤ f ∨
      (st.t1 ≤ f ∧ st.rateThreshold ≠ 0 ∧ ∃ x, r = some x ∧ (st.rateThreshold : Int) ≤ x) ∨ ∃ k, n = some k ∧ k ≤ st.lead) ∧
    (1 ≤ stageBy st high extreme f r n ↔ 2 ≤ stageBy st high extreme f r n ∨ st.t1 ≤ f) ∧ stageBy st high extreme f r n ≤ 4 := by
  obtain ⟨h4, h3, h2, h1, hle⟩ := rows (c4 := st.t4 ≤ f || extreme) (c3 := st.t3 ≤ f || high)
    (c2 := st.t2 ≤ f || (st.t1 ≤ f && st.rateThreshold != 0 && r.any (fun r => (st.rateThreshold : Int) ≤ r)) || n.any (fun m => m ≤ st.lead))
    (c1 := st.t1 ≤ f)
  simp only [decide_eq_true_eq (p := st.t1 ≤ f)] at h4 h3 h2 h1 hle
  refine ⟨h4.trans ?_, h3.trans ?_, h2.trans ?_, h1.trans ?_, hle⟩
  · simp
  · simp [or_assoc]
  · simp [or_assoc, and_assoc, Option.any_eq_true]
  · rfl

/-- A section that a level may raise is in one of three modes. -/
def Measures (m : Section) : Prop := m.mode = .dual ∨ m.mode = .corrected ∨ m.mode = .single

theorem stageRaw_level (hm : Measures m) (hf : m.level = some f) :
    stageRaw st m = stageBy st m.high.active m.extreme.active f m.rate m.forecast := by
  obtain h | h | h := hm <;> simp only [stageRaw, h, hf]

theorem stageDown_level (hm : Measures m) (hf : m.level = some f) : stageDown st m =
    some (stageBy st m.high.active m.extreme.active (f + st.h) m.rate (forecastTo st.t3 m.rate (f + st.h))) := by
  obtain h | h | h := hm <;> simp only [stageDown, h, hf]

theorem forecastTo_le {t3 n : Nat} {r : Option Int} : (∃ k, forecastTo t3 r f = some k ∧ k ≤ n) ↔
    ∃ x, r = some x ∧ 0 < x ∧ f < t3 ∧ max 1 (min 9999 ((t3 - f + (x.toNat - 1)) / x.toNat)) ≤ n := by
  cases r with
  | none => simp [forecastTo]
  | some x =>
    by_cases h : 0 < x ∧ f < t3
    · simp [forecastTo, h, clampTo, ceilDiv, or_comm]
    · simp only [forecastTo, if_neg h]
      simp only [reduceCtorEq, false_and, exists_false, Option.some.injEq, exists_eq_left', false_iff]
      rintro ⟨h1, h2, -⟩
      exact h ⟨h1, h2⟩

theorem conflictHolds_iff : conflictHolds st m = true ↔
    m.high.active = true ∧ (m.mode = .dual ∨ m.mode = .single) ∧ ∃ f, m.level = some f ∧ f < st.t2 := by
  simp [conflictHolds, Option.any_eq_true, and_assoc]

theorem stageRaw_measure {m' : Section} (h : SameMeasure m m') : stageRaw st m' = stageRaw st m ∧ stageDown st m' = stageDown st m ∧
    conflictHolds st m' = conflictHolds st m := by
  simp only [stageRaw, stageDown, conflictHolds, stageByFloats, h.mode, h.level, h.high, h.extreme, h.rate, h.forecast, and_self]

/-- What the vote and the level leave of the section's stage. -/
theorem measuredSection_stage {c : SumpCfg} {a b : Nat} : (measuredSection c a b m).stage = m.stage ∧
    (measuredSection c a b m).hold = m.hold := by
  have hvote {y : Option Sample} : ({ (vote c.calibration.d (sampleOf c.calibration a b) m).1 with last := y } : Section).stage = m.stage ∧
      ({ (vote c.calibration.d (sampleOf c.calibration a b) m).1 with last := y } : Section).hold = m.hold := by
    simp only [vote, votePair, voteNeither]
    repeat' split
    all_goals exact ⟨rfl, rfl⟩
  have hlevel {L : Nat} {ends : Bool} {v : Section} : (takeLevel c.staging L ends v).stage = v.stage ∧
      (takeLevel c.staging L ends v).hold = v.hold := by
    simp only [takeLevel, followLevel]
    repeat' split
    all_goals exact ⟨rfl, rfl⟩
  simp only [measuredSection]
  split
  · exact ⟨hlevel.1.trans hvote.1, hlevel.2.trans hvote.2⟩
  · exact hvote

end Stage

theorem evaluate_conflict {now : Nat} {st : Staging} {m : Section} : (evaluate now st m).conflict = conflictHolds st m := by
  obtain ⟨-, h⟩ | ⟨-, _, -, -, h⟩ | ⟨-, -, h⟩ := evaluate_cases now st m <;> rw [h]

/-- The underpass stage follows the sections, of which a sample writes its own alone (R66). -/
theorem sumpSample_underpass {u : SumpId} {a b : Nat} {s t : State} (ht : exec (.sumpSample u a b) s = .next t) :
    t.env.underpass = underpassOf t.env.sumps ∧ ∀ x, x ≠ u → t.env.sumps.get x = s.env.sumps.get x := by
  obtain ⟨-, -, -, -, hsumps, hunderpass⟩ :=
    takeSection_frame u (sampleSection s.env.clock (s.env.cfg.sumps.get u) a b (s.env.sumps.get u)).1 s
  cases ht
  rw [settle_env]
  split
  · rw [latchSump_env, hsumps, hunderpass]
    exact ⟨rfl, fun x hx => PerSump.get_set_ne _ _ hx⟩
  · rw [hsumps, hunderpass]
    exact ⟨rfl, fun x hx => PerSump.get_set_ne _ _ hx⟩

/-- Settles O32: the tables row by row, and the three things that an evaluation can do (`evaluate_cases`). -/
theorem stageFollowsTheTable : Obligations.StageFollowsTheTable := by
  refine ⟨fun st m f hm hf => ?_, fun st m hm => ?_, fun st m hm => ?_, fun u a b s t ht => ?_⟩
  · obtain ⟨h4, h3, h2, h1, hle⟩ := stageBy_rows (st := st) (high := m.high.active) (extreme := m.extreme.active) (f := f) (r := m.rate)
      (n := m.forecast)
    rw [stageRaw_level hm hf]
    refine ⟨h4, h3, h2, h1, hle, ?_⟩
    intro g
    obtain ⟨h4, h3, h2, h1, hle⟩ := stageBy_rows (st := st) (high := m.high.active) (extreme := m.extreme.active) (f := g) (r := m.rate)
      (n := forecastTo st.t3 m.rate g)
    rw [forecastTo_le] at h2
    exact ⟨_, stageDown_level hm hf, hle, h4, h3, h2, h1⟩
  · obtain h | h := hm <;> simp [stageRaw, stageDown, h, stageByFloats]
  · simp [stageRaw, stageDown, hm, stageByFloats]
  · intro st m m'
    have hm' : m' = evaluate s.env.clock st (measuredSection (s.env.cfg.sumps.get u) a b m) :=
      (sump_of_sumpSample ht).trans sampleSection_eq
    obtain ⟨hstage, hhold⟩ := measuredSection_stage (m := m) (c := s.env.cfg.sumps.get u) (a := a) (b := b)
    have hmeasure : SameMeasure (measuredSection (s.env.cfg.sumps.get u) a b m) m' := hm' ▸ evaluate_measure
    obtain ⟨hraw, hdown, hconflict⟩ := stageRaw_measure (st := st) hmeasure
    generalize measuredSection (s.env.cfg.sumps.get u) a b m = w at *
    rw [hraw, hdown]
    have hconflicts : m'.conflict = conflictHolds st w := by
      rw [hm']
      exact evaluate_conflict
    refine ⟨fun hrise => ?_, fun hstay => ?_, ?_, fun hnew hold => (sumpSample_shows ht).2 hnew hold, sumpSample_underpass ht⟩
    · obtain ⟨-, h⟩ | ⟨hno, -⟩ | ⟨hno, -⟩ := evaluate_cases s.env.clock st w
      · rw [hm', h]
        exact ⟨rfl, rfl, rfl⟩
      · exact absurd (hstage ▸ hrise) hno
      · exact absurd (hstage ▸ hrise) hno
    · obtain ⟨hyes, -⟩ | ⟨-, d, hd, hlt, h⟩ | ⟨-, hnone, h⟩ := evaluate_cases s.env.clock st w
      · exact absurd (hstage ▸ hyes) (Nat.not_lt.mpr hstay)
      · rw [hm', h]
        refine ⟨hstage, fun d' hd' _ => ?_, fun hall => absurd (hall d hd) (Nat.not_le.mpr (hstage ▸ hlt))⟩
        cases hd.symm.trans hd'
        exact ⟨rfl, by rw [hhold]⟩
      · rw [hm', h]
        exact ⟨hstage, fun d hd hlt => absurd (hstage ▸ hnone d hd) (Nat.not_le.mpr hlt), fun _ => ⟨rfl, rfl⟩⟩
    · rw [hconflicts, ← hconflict]
      exact conflictHolds_iff

end Sys2Proof.Machine

/-! The requests of a sump: O34. -/

namespace Sys2Proof.Machine

/-! ### What leaves the duty alone -/

section Duty
variable {e : Env} {i : PortalId} {a p : Plant} {s : State} {u : SumpId}

/-- A portal's sequencer leaves the duty of the rings. -/
theorem Wrote.portalDuty (h : Wrote e (PortalWrite i) a p) : p.duty = a.duty :=
  h.stands (f := Plant.duty) fun q w hw => by
    cases w with
    | portal j r => exact putPortal_duty ..
    | join u => exact joinQueue_duty ..
    | drop u => rfl
    | raise c => rfl
    | _ => exact hw.elim

theorem onLock_duty {u : UnitId} : (onLock e u p).duty = p.duty := by
  cases u with
  | pump i =>
    simp only [onLock]
    split
    · exact putPump_duty ..
    · rfl
  | portal i =>
    simp only [onLock]
    split
    · exact (putPortal_wrote (stopHand_wrote (e := e) .refl)).portalDuty
    · split <;> first | with_reducible rfl | exact (toHeld_wrote (e := e) .refl).portalDuty
    · rfl
  | zone z =>
    simp only [onLock]
    split
    · exact putZone_duty ..
    · rfl
  | outfall => rfl

theorem onUnlock_duty {u : UnitId} : (onUnlock e u p).duty = p.duty := by
  simp only [onUnlock]
  split
  · split
    · exact (settlePortal_wrote (e := e) .refl).portalDuty
    · rfl
  · rfl

theorem syncUnit_duty {u : UnitId} : (syncUnit e u p).duty = p.duty := by
  simp only [syncUnit]
  split
  · rfl
  · split
    · exact onLock_duty
    · split
      · exact onUnlock_duty
      · rfl

theorem resolve_duty {us : List UnitId} : (resolve us s).plant.duty = s.plant.duty := by
  simp only [resolve]
  refine foldl_keeps (P := fun q => q.duty = s.plant.duty) (fun q u hq => syncUnit_duty.trans hq) _ ?_
  exact foldl_keeps (P := fun q => q.duty = s.plant.duty) (fun q n hq => report_duty.trans hq) _ rfl

theorem standDown_duty : (standDown s).plant.duty = s.plant.duty := by
  simp only [standDown, removeOrders]
  refine resolve_duty.trans ?_
  exact foldl_keeps (P := fun q => q.duty = s.plant.duty) (fun q n hq => report_duty.trans hq) _ rfl

/-- A section's hand-on leaves the duty of the rings. -/
theorem takeSection_duty {m : Section} : (takeSection u m s).plant.duty = s.plant.duty := by
  simp only [takeSection]
  split
  · exact standDown_duty.trans reportSection_duty
  · exact reportSection_duty

theorem settle_latches {x : SumpId} : ((settle s).plant.duty.get x).latches = (s.plant.duty.get x).latches := blocksAct_latches x

end Duty

/-! ### A restart (R72) -/

section Restart
variable {s : State} {u : SumpId} {m : Section} {st : Staging} {now reload : Nat}

theorem restarted_eq : evaluate now st (restarted reload m) =
    { restarted reload m with stage := max m.stage (stageByFloats 0 m) } := by
  have hraw : stageRaw st (restarted reload m) = stageByFloats 0 m := rfl
  have hdown : stageDown st (restarted reload m) = none := rfl
  have hconflict : conflictHolds st (restarted reload m) = false := by simp [conflictHolds, restarted]
  obtain ⟨hlt, h⟩ | ⟨-, d, hd, -⟩ | ⟨hle, -, h⟩ := evaluate_cases now st (restarted reload m)
  · rw [h, hconflict, hraw, Nat.max_eq_right]
    · rfl
    · exact Nat.le_of_lt (hraw ▸ hlt)
  · cases hd.symm.trans hdown
  · rw [h, hconflict, Nat.max_eq_left]
    · rfl
    · exact Nat.not_lt.mp (hraw ▸ hle)

/-- What a restart leaves. -/
theorem restartSump_frame : (restartSump u s).env.sumps = s.env.sumps.set u
      { restarted (s.env.cfg.sumps.get u).calibration.reload (s.env.sumps.get u) with
        stage := max (s.env.sumps.get u).stage (stageByFloats 0 (s.env.sumps.get u)) } ∧
    (restartSump u s).env.underpass = underpassOf (restartSump u s).env.sumps ∧
    (restartSump u s).plant.duty = (resetLead u s.plant).duty := by
  obtain ⟨-, -, -, -, hsumps, hunderpass⟩ := takeSection_frame u
    (evaluate s.env.clock (s.env.cfg.sumps.get u).staging (restarted (s.env.cfg.sumps.get u).calibration.reload (s.env.sumps.get u)))
    { s with plant := resetLead u s.plant }
  rw [← restarted_eq (now := s.env.clock) (st := (s.env.cfg.sumps.get u).staging)]
  exact ⟨hsumps, hunderpass.trans (congrArg underpassOf hsumps.symm), takeSection_duty⟩

theorem resetLead_lead {p : Plant} : ((resetLead u p).duty.get u).lead = 1 := by
  rw [resetLead, PerSump.get_set]

theorem resetLead_latches {p : Plant} {x : SumpId} : ((resetLead u p).duty.get x).latches = (p.duty.get x).latches := by
  by_cases hx : x = u
  · subst hx
    rw [resetLead, PerSump.get_set]
  · rw [resetLead, PerSump.get_set_ne _ _ hx]

end Restart

/-! ### The four groups (R69 to R71) -/

section Groups
variable {s : State} {u : SumpId} {body : List Byte} {g : Nat} {v : Group}

theorem readGroup_length (h : readGroup g body = some v) : groupLengthFits g body.length = true := by
  simp only [readGroup] at h
  split at h
  · simp only [readCalibration] at h
    split at h
    · rfl
    · cases h
  · simp only [readStaging] at h
    split at h
    · rfl
    · cases h
  · simp only [readFloats] at h
    split at h
    · rfl
    · cases h
  · simp only [readPositions] at h
    split at h
    · rfl
    · cases h
  · cases h

/-- The checks of SET SUMP CONFIG pass (R69). -/
theorem handleSetSumpConfig_passes {ub gb : Byte} (hsaving : s.store.state ≠ .saving) (hu : sumpOf ub = some u)
    (hread : readGroup gb.toNat body = some v) (hfits : groupFits v = true) :
    handleSetSumpConfig (ub :: gb :: body) s = (takeGroup u v s, .done []) := by
  unfold handleSetSumpConfig
  refine (guarded_pass ?_).trans (by rw [hu, hread])
  rw [readGroup_length hread, notSaving_eq_true.mpr hsaving, hu, hread]
  simp [firstFailure, hfits]

/-- A hold that still runs after the evaluation and has reached the new time steps down (log 61). -/
theorem restage_eq {now : Nat} {st : Staging} {m : Section} : restage now st m =
    let m1 := evaluate now st m
    match m1.hold, m1.candidate with
    | .since start, some x =>
      if 1000 * st.hold ≤ now - start then { m1 with stage := x, hold := .stopped, candidate := none } else m1
    | _, _ => m1 := by
  simp only [restage, stepDown]
  generalize evaluate now st m = m1
  cases hhold : m1.hold <;> cases hcand : m1.candidate <;> simp [Timer.ranOut]

/-- The underpass stage is that of the stages alone. -/
theorem underpassOf_set {t : PerSump Section} {m : Section} (h : m.stage = (t.get u).stage) : underpassOf (t.set u m) = underpassOf t := by
  cases u <;> simp only [underpassOf, PerSump.set, h] <;> rfl

theorem latchSump_latches {x : SumpId} (h : x ≠ u) : ((latchSump u s).plant.duty.get x).latches = (s.plant.duty.get x).latches := by
  simp only [latchSump]
  split
  · exact congrArg Duty.latches (PerSump.get_set_ne _ _ h)
  · rfl

theorem latchSump_unprimed (h : (s.env.sumps.get u).level = none) : latchSump u s = s := by simp only [latchSump, h]

theorem latchSump_primed {f : Nat} (h : (s.env.sumps.get u).level = some f) : ((latchSump u s).plant.duty.get u).latches =
    List.zipWith (latchAt f) (s.env.cfg.sumps.get u).positions (s.plant.duty.get u).latches := by
  simp only [latchSump, h, evaluateLatches, PerSump.get_set]

end Groups

/-- The underpass stage follows the sections (R66). -/
def Follows (s : State) : Prop := s.env.underpass = underpassOf s.env.sumps

/-- What every one of these requests leaves: its reply alone of the links, the store, the queue, and the latches that are not its own. -/
theorem sumpRequest_same {l : Link} {kind tag : Byte} {s s1 : State} (hin : Inside s s1) (hunder : Follows s1) {P : SumpId → Prop}
    (hlatches : ∀ x, P x → (s1.plant.duty.get x).latches = (s.plant.duty.get x).latches) :
    let t := replied l kind tag .done [] (settle s1)
    t.links = (replied l kind tag .done [] s).links ∧ t.store = s.store ∧ t.pending = s.pending ∧
      t.env.underpass = underpassOf t.env.sumps ∧ ∀ x, P x → (t.plant.duty.get x).latches = (s.plant.duty.get x).latches :=
 by
  have hpart : (settle s1).links = s.links ∧ (settle s1).store = s.store ∧ (settle s1).pending = s.pending := ⟨hin.links, hin.store, hin.pending⟩
  have hkept (x : SumpId) (hx : P x) : ((settle s1).plant.duty.get x).latches = (s.plant.duty.get x).latches :=
    settle_latches.trans (hlatches x hx)
  have henv : (settle s1).env.underpass = underpassOf (settle s1).env.sumps := hunder
  obtain ⟨hlinks, hstore, hpending⟩ := hpart
  generalize settle s1 = t at *
  exact ⟨answered_links hlinks rfl, hstore, hpending, henv, hkept⟩

/-- Settles O34: the state that each request settles from, and what the settling leaves of it. -/
theorem sumpRequestsAct : Obligations.SumpRequestsAct := by
  intro l tag ub u s hslot hu m c restarted same
  have hmax (reload : Nat) : restarted reload = { Machine.restarted reload m with stage := max m.stage (stageByFloats 0 m) } := rfl
  refine ⟨?_, fun hsaving => ⟨fun body v hread hfits => ?_, fun body v hread hfits => ?_, fun body v hread hunder => ?_,
    fun body v hread hfits hunder => ?_⟩⟩
  · have hanswer : handleRestartSection [ub] s = (settle (restartSump u s), .done []) := by simp only [handleRestartSection, hu]
    obtain ⟨hsumps, hunder, hduty⟩ := restartSump_frame (s := s) (u := u)
    refine ⟨_, exec_answered rfl hslot hanswer, sumpRequest_same restartSump_inside hunder fun x _ => ?_, restartSump_cfg,
      hsumps, _, rfl, ?_⟩
    · rw [hduty, resetLead_latches]
    · rw [hduty, resetLead_lead]
  · have hanswer := handleSetSumpConfig_passes (gb := 1) hsaving hu hread hfits
    rw [takeGroup_calibration] at hanswer
    obtain ⟨hsumps, hunder, hduty⟩ := restartSump_frame (s := s.withGroup u (.calibration v)) (u := u)
    have hreload : ((s.withGroup u (.calibration v)).env.cfg.sumps.get u).calibration.reload = v.reload :=
      congrArg (fun x : SumpCfg => x.calibration.reload) (PerSump.get_set ..)
    have hin : Inside s (restartSump u (s.withGroup u (.calibration v))) := Inside.trans ⟨_, _, rfl⟩ restartSump_inside
    refine ⟨_, exec_answered rfl hslot hanswer, sumpRequest_same hin hunder fun x _ => ?_, restartSump_cfg, ?_, _, rfl, ?_⟩
    · rw [hduty, resetLead_latches]
      rfl
    · refine hsumps.trans ?_
      rw [hreload]
      rfl
    · rw [hduty, resetLead_lead]
  · have hanswer := handleSetSumpConfig_passes (gb := 2) hsaving hu hread hfits
    rw [takeGroup_staging] at hanswer
    obtain ⟨-, -, -, hcfg, hsumps, hunder⟩ := takeSection_frame u (restage s.env.clock v m) (s.withGroup u (.staging v))
    have hin : Inside s (takeSection u (restage s.env.clock v m) (s.withGroup u (.staging v))) := Inside.trans ⟨_, _, rfl⟩ takeSection_inside
    refine ⟨_, exec_answered rfl hslot hanswer, sumpRequest_same hin (hunder.trans (congrArg underpassOf hsumps.symm)) fun x _ => ?_, hcfg, ?_⟩
    · exact congrArg (fun d : PerSump Duty => (d.get x).latches) takeSection_duty
    · exact hsumps.trans (congrArg (PerSump.set s.env.sumps u) restage_eq)
  · have hanswer := handleSetSumpConfig_passes (gb := 3) hsaving hu hread rfl
    rw [takeGroup_floats] at hanswer
    refine ⟨_, exec_answered rfl hslot hanswer, sumpRequest_same ⟨_, _, rfl⟩ ?_ fun x _ => rfl, rfl, rfl⟩
    exact hunder.trans (underpassOf_set (u := u) (t := s.env.sumps) (m := repolarise s.env.clock c.floats v m) rfl).symm
  · have hanswer := handleSetSumpConfig_passes (gb := 4) hsaving hu hread hfits
    rw [takeGroup_positions] at hanswer
    have hin : Inside s (latchSump u (s.withGroup u (.positions v))) := Inside.trans ⟨_, _, rfl⟩ latchSump_inside
    have henv : (latchSump u (s.withGroup u (.positions v))).env = (s.withGroup u (.positions v)).env := latchSump_env ..
    refine ⟨_, exec_answered rfl hslot hanswer, sumpRequest_same hin ?_ fun x hx => latchSump_latches (hx.resolve_right (by decide)),
      ?_, ?_, ?_⟩
    · rw [Follows, henv]
      exact hunder
    · rw [replied_env, settle_env, henv]
      rfl
    · rw [replied_env, settle_env, henv]
      rfl
    · rw [replied_plant, settle_latches]
      cases hlevel : m.level with
      | none => rw [latchSump_unprimed (s := s.withGroup u (.positions v)) hlevel]; rfl
      | some f =>
        rw [latchSump_primed (s := s.withGroup u (.positions v)) hlevel]
        have hpositions : ((s.withGroup u (.positions v)).env.cfg.sumps.get u).positions = v :=
          congrArg SumpCfg.positions (PerSump.get_set ..)
        rw [hpositions]
        rfl

end Sys2Proof.Machine

/-! SET UNIT CONFIG: O26. -/

namespace Sys2Proof.Machine

/-! ### The settings of a unit (R44, R173) -/

section Settings
variable {s : State} {u : UnitId} {body : List Byte} {st : Settings} {i : PumpId} {v : PumpCfg} {z : ZoneId} {old new : SumpId}

/-- Only a body of the length of the unit's kind is read. -/
theorem readSettings_length (h : readSettings u body = some st) : settingsLengthFits (some u) body.length = true := by
  cases u with
  | pump i =>
    obtain ⟨c, hc, -⟩ := Option.map_eq_some_iff.mp h
    simp only [readPumpCfg] at hc
    split at hc
    · rfl
    · cases hc
  | portal i =>
    obtain ⟨c, hc, -⟩ := Option.map_eq_some_iff.mp h
    simp only [readPortalCfg] at hc
    split at hc
    · rfl
    · cases hc
  | zone z =>
    obtain ⟨c, hc, -⟩ := Option.map_eq_some_iff.mp h
    simp only [readZoneCfg] at hc
    split at hc
    · rfl
    · cases hc
  | outfall => rfl

/-- The checks of SET UNIT CONFIG (R44): of settings that can be read, the last decides. -/
theorem handleSetUnitConfig_reads {ub : Byte} (hsaving : s.store.state ≠ .saving) (hu : unitOf ub = some u)
    (hout : serviceOf s.env.cfg u = .outOfService) (hread : readSettings u body = some st) :
    handleSetUnitConfig .panel (ub :: body) s =
      if settingsFit s.env.cfg st = true then (takeSettings st s, .done []) else (s, .refuse .badField) := by
  have hchecks : firstFailure [(settingsLengthFits (unitOf ub) body.length, Code.badLength), (Link.panel == .panel, .noAuthority),
      (notSaving s, .busy), ((unitOf ub).isSome, .noSuchUnit),
      ((unitOf ub).any (fun u => serviceOf s.env.cfg u == .outOfService), .wrongState),
      (((unitOf ub).bind fun u => readSettings u body).any (settingsFit s.env.cfg), .badField)] =
      if settingsFit s.env.cfg st = true then none else some .badField := by
    rw [hu, readSettings_length hread, notSaving_eq_true.mpr hsaving]
    cases hfit : settingsFit s.env.cfg st <;> simp [firstFailure, hout, hread, hfit]
  unfold handleSetUnitConfig
  by_cases hfit : settingsFit s.env.cfg st = true
  · rw [if_pos hfit] at hchecks ⊢
    refine (guarded_pass hchecks).trans ?_
    rw [hu, Option.bind_some, hread]
  · rw [if_neg hfit] at hchecks ⊢
    exact guarded_fail hchecks

theorem readZoneCfg_eq {ro sd ik lh ll fl al sh k f up dn tol fh fsl : Byte} {role : Role} {side : Side} (hro : roleOf ro = some role)
    (hsd : sideOf sd = some side) : readZoneCfg [ro, sd, ik, lh, ll, fl, al, sh, k, f, up, dn, tol, fh, fsl] = some
      { role := role, side := side, installed := ik.toNat, lmax := word lh ll, floor := fl.toNat, alertFloor := al.toNat
        shed := sh.toNat, k := k.toNat, f := f.toNat, rampUp := up.toNat, rampDown := dn.toNat, tolerance := tol.toNat
        fullScale := word fh fsl } := by
  simp only [readZoneCfg, hro, hsd]

/-- The zone of the new settings has no deficit and no flag, and keeps none while the blocks act (R156). -/
theorem settle_deficit : ((settle s).plant.zones.get z).deficit = (s.plant.zones.get z).deficit ∧
    ((settle s).plant.zones.get z).flag = (s.plant.zones.get z).flag := by
  obtain ⟨hdeficit, hflag, -⟩ := blocksAct_zone (e := s.env) (p := s.plant) z
  exact ⟨hdeficit, hflag⟩

theorem moveRings_sumps {c : WorkConfig} (h : new ≠ old) : moveRings i old new c =
    { c with
      sumps := (c.sumps.set old { c.sumps.get old with ring := (c.sumps.get old).ring.filter (fun j => j != i) }).set new
        { c.sumps.get new with ring := (c.sumps.get new).ring ++ [i] } } := by
  simp only [moveRings, WorkConfig.setRing, PerSump.get_set_ne _ _ h]

/-- A stand-down leaves no order that its stage has outrun (R23). -/
theorem standDown_keeps {o : Order} (ho : o ∈ (standDown s).env.table) (hrank : o.rank = .standing) :
    s.env.relevantStage o.unit < effectiveYield s.env.cfg o.issuer o.yieldStage := by
  obtain ⟨o', ho', he⟩ := mem_resolveTable _ _ _ ho
  rw [he] at hrank ⊢
  have hkept := (List.mem_filter.mp ho').2
  simpa only [outrun, show o'.rank = .standing from hrank, beq_self_eq_true, Bool.true_and, Bool.not_eq_true', decide_eq_false_iff_not,
    not_le] using hkept

/-- The state that a pump's move leaves before orders stand down (R77). -/
def moved (i : PumpId) (v : PumpCfg) (s : State) : State :=
  { s with
    env := { s.env with cfg := moveRings i (s.env.sumpOf i) v.sump (putSettings (.pump i v) s.env.cfg) }
    plant := { s.plant with duty := moveDuty (s.env.sumpOf i) v.sump s.plant.duty } }

theorem takePumpCfg_moved (h : v.sump ≠ s.env.sumpOf i) : takePumpCfg i v s = standDown (moved i v s) := if_neg h

theorem moved_stage : (moved i v s).env.relevantStage (.pump i) = (s.env.sumps.get v.sump).stage := by
  have hsump : (moved i v s).env.sumpOf i = v.sump := congrArg PumpCfg.sump (PerPump.get_set ..)
  exact congrArg (fun x => (s.env.sumps.get x).stage) hsump

end Settings

/-- Settles O26: the settings that are read are taken, and the blocks leave them and what is not theirs. -/
theorem setUnitConfigAccepted : Obligations.SetUnitConfigAccepted := by
  intro tag ub s hslot hsaving
  refine ⟨?_, ?_, ?_⟩
  · intro i cs wt bt gh gl cc lh ll rd rc kw hu hout v hfit
    have hanswer := handleSetUnitConfig_reads (body := [cs, wt, bt, gh, gl, cc, lh, ll, rd, rc, kw]) hsaving hu hout rfl
    rw [if_pos (by exact hfit)] at hanswer
    refine ⟨_, exec_answered rfl hslot hanswer, rfl, answered_links rfl rfl, rfl, ?_⟩
    rw [replied_plant]
    exact settle_units _
  · intro z ro sd ik lh ll fl al sh k f up dn tol fh fsl role side hu hout hro hsd v c hfit hshed
    have hread : readSettings (.zone z) [ro, sd, ik, lh, ll, fl, al, sh, k, f, up, dn, tol, fh, fsl] = some (.zone z v) :=
      congrArg (Option.map (Settings.zone z)) (readZoneCfg_eq hro hsd)
    have hanswer := handleSetUnitConfig_reads hsaving hu hout hread
    rw [if_pos (by exact Bool.and_eq_true_iff.mpr ⟨hfit, decide_eq_true hshed⟩)] at hanswer
    have hzone : (takeZoneCfg z v s).plant.zones.get z = { s.plant.zones.get z with deficit := 0, flag := false } := by
      simp only [takeZoneCfg, putZone_zones, PerZone.get_set]
    obtain ⟨hdeficit, hflag⟩ := settle_deficit (s := takeZoneCfg z v s) (z := z)
    refine ⟨_, exec_answered rfl hslot hanswer, rfl, ?_, ?_, answered_links rfl rfl, rfl, ?_⟩
    · rw [replied_plant]
      exact hdeficit.trans (congrArg Zone.deficit hzone)
    · rw [replied_plant]
      exact hflag.trans (congrArg Zone.flag hzone)
    · rw [replied_plant]
      exact (settle_units _).trans putZone_units
  · intro i us ld sh sl st mh ml rh rl sp cf new hu hout hus v c old body hfit
    have hread : readSettings (.pump i) [us, ld, sh, sl, st, mh, ml, rh, rl, sp, cf] = some (.pump i v) := by
      simp only [readSettings, readPumpCfg, hus, Option.map_some]
      rfl
    have hanswer := handleSetUnitConfig_reads hsaving hu hout hread
    have hfits : settingsFit s.env.cfg (.pump i v) = true ↔
        new = old ∨ ((s.env.ring old).length ≠ 1 ∧ (s.env.ring new).length < 4) := by
      simp only [settingsFit, moveFits, hfit, Bool.true_and, Bool.or_eq_true, Bool.and_eq_true, beq_iff_eq, bne_iff_ne,
        decide_eq_true_iff]
      exact Iff.rfl
    refine ⟨fun hsame => ?_, fun hmove hfull => ?_, fun hmove hold hnew => ?_⟩
    · rw [if_pos (hfits.mpr (.inl hsame))] at hanswer
      have htake : takePumpCfg i v s = { s with env := { s.env with cfg := c } } := if_pos hsame
      have htakes : takeSettings (.pump i v) s = settle { s with env := { s.env with cfg := c } } := congrArg settle htake
      rw [htakes] at hanswer
      refine ⟨_, exec_answered rfl hslot hanswer, rfl, answered_links rfl rfl, rfl, ?_⟩
      rw [replied_plant]
      exact settle_units _
    · rw [if_neg (hfits.not.mpr ?_)] at hanswer
      · exact exec_answered rfl hslot hanswer
      · rintro (h | ⟨hone, hfour⟩)
        · exact hmove h
        · exact hfull.elim hone (Nat.not_le.mpr hfour)
    · rw [if_pos (hfits.mpr (.inr ⟨hold, hnew⟩))] at hanswer
      have htakes : takeSettings (.pump i v) s = settle (standDown (moved i v s)) := congrArg settle (takePumpCfg_moved hmove)
      rw [htakes] at hanswer
      have hduty (x : SumpId) : (standDown (moved i v s)).plant.duty.get x = _ :=
        (congrArg (PerSump.get · x) standDown_duty).trans (moveDuty_get (d := s.plant.duty) (u := x) hmove)
      have hdutyOld := (hduty old).trans ((if_neg (Ne.symm hmove)).trans (if_pos rfl))
      have hdutyNew := (hduty new).trans (if_pos rfl)
      refine ⟨_, exec_answered rfl hslot hanswer, ?_, ?_, ?_, fun o ho hunit hrank => ?_, answered_links rfl rfl, rfl, _, rfl,
        congrArg Duty.lead hdutyOld, congrArg Duty.lead hdutyNew⟩
      · exact moveRings_sumps hmove
      · rw [replied_plant]
        exact settle_latches.trans (congrArg Duty.latches hdutyOld)
      · rw [replied_plant]
        exact settle_latches.trans (congrArg Duty.latches hdutyNew)
      · have hkept := standDown_keeps (s := moved i v s) ho hrank
        rw [hunit, moved_stage] at hkept
        exact hkept

end Sys2Proof.Machine

/-! RESET FAULT: O27. -/

namespace Sys2Proof.Machine

section Reset
variable {e : Env} {s : State} {p : Plant} {u : UnitId} {i : PumpId} {k : PortalId} {ub : Byte}

/-- A unit is reset when it has a fault whose cause is gone (R45): only pumps and portals have faults. -/
theorem handleResetFault_resets (hu : unitOf ub = some u) (hfault : hasFault s.env s.plant u = true)
    (hgone : causeGone s.env s.plant u = true) : handleResetFault [ub] s = (acceptReset u s, .done []) := by
  simp only [handleResetFault, hu]
  refine guarded_pass ?_
  cases u with
  | pump i => rw [hfault, hgone]; rfl
  | portal k => rw [hfault, hgone]; rfl
  | _ => cases hfault

theorem handleResetFault_wrong (hu : unitOf ub = some u) (hnot : hasFault s.env s.plant u = false ∨ causeGone s.env s.plant u = false) :
    handleResetFault [ub] s = (s, .refuse .wrongState) := by
  simp only [handleResetFault, hu]
  refine guarded_fail ?_
  by_cases hkind : (kindCode u == 1 || kindCode u == 2) = true
  · obtain hno | hno := hnot
    · rw [hkind, hno]
      rfl
    · cases hfault : hasFault s.env s.plant u
      · rw [hkind]
        rfl
      · rw [hkind, hno]
        rfl
  · rw [Bool.not_eq_true _ |>.mp hkind]
    rfl

theorem putPump_causes {q : Pump} : (putPump e i q p).attn.present = p.attn.present := by
  obtain hattn | ⟨k, hattn⟩ := putPump_attn (e := e) (i := i) (q := q) (p := p)
  · exact congrArg Attention.present hattn
  · exact (congrArg Attention.present hattn).trans rfl

/-- The plant that a reset of a pump or portal leaves before its report. -/
def resetPlant (u : UnitId) (s : State) : Plant :=
  match u with
  | .pump i => resetPump s.env i s.plant
  | .portal k => resetPortal s.env k s.plant
  | _ => s.plant

theorem acceptReset_eq : acceptReset u s = settle { s with plant := report s.env (.unit u) none (resetPlant u s) } := by
  cases u with
  | pump i => rfl
  | portal k => rfl
  | zone z => rfl
  | outfall => rfl

theorem resetPlant_kept : Kept s.env s.plant (resetPlant u s) := by
  cases u with
  | pump i => exact resetPump_kept .refl
  | portal k => exact resetPortal_kept .refl
  | _ => exact .refl

theorem resetPump_record : (resetPump e i p).pumps.get i =
    { p.pumps.get i with
      fault := none
      run := if (e.cfg.pumps.get i).minRest = 0 then .stopped else .resting
      minRest := if (e.cfg.pumps.get i).minRest = 0 then .stopped else .since e.clock
      restLength := (e.cfg.pumps.get i).minRest } := by
  simp only [resetPump, putPump_pumps, PerPump.get_set, Pump.toRest]
  split <;> simp [*]

/-- A pump that was faulted waits for no grant after its reset either. -/
theorem resetPump_stays (hok : PumpsOk s) (hfault : (s.plant.pumps.get i).run = .faulted) :
    PumpStays i ((resetPump s.env i s.plant).pumps.get i) (report s.env (.unit (.pump i)) none (resetPump s.env i s.plant)) := by
  refine ⟨rfl, Bool.eq_false_iff.mpr fun hq => ?_⟩
  have hbefore : s.plant.queued (.pump i) = true := by simpa only [Plant.queued, resetPump, report_arb, putPump_arb] using hq
  exact absurd ((hok i).2.2.1.mpr hbefore) (by rw [hfault]; nofun)

theorem stopHand_released (h : (p.portals.get k).motion ≠ .none) : (stopHand e k p).queued (.portal k) = false := by
  simp [stopHand, if_neg h, endHand, letGo, unqueuePortal, Plant.queued, dropRequest]

/-- A jam kept in hand is discarded (R47, log 45). -/
theorem resetPortal_hand (h : (p.portals.get k).seq = .hand) : resetPortal e k p = putPortal e k
    { (stopHand e k p).portals.get k with jam := none, resume := none, retries := 0 } (stopHand e k p) := by
  simp only [resetPortal, h]
  rfl

theorem resetPortal_cleared (hjam : (p.portals.get k).seq ≠ .jammed) (hhand : (p.portals.get k).seq ≠ .hand) :
    resetPortal e k p = putPortal e k { p.portals.get k with jam := none, resume := none, retries := 0 } p := by
  simp only [resetPortal, if_neg hhand]
  split
  · exact absurd ‹_› hjam
  · rfl

theorem resetPortal_jammed {st : Seq} (h : (p.portals.get k).seq = .jammed) (hr : (p.portals.get k).resume = some st) :
    resetPortal e k p = if p.locked (.portal k) = true then resetLocked e k st p
      else toStep e k st (.held 0) (putPortal e k { p.portals.get k with jam := none, resume := none, retries := 0 } p) := by
  have hhand : (p.portals.get k).seq ≠ .hand := by rw [h]; nofun
  simp only [resetPortal, if_neg hhand]
  rw [h, hr]

end Reset

/-- Settles O27: the reset of each kind of unit, and what the blocks leave of it. -/
theorem resetFaultActs : Obligations.ResetFaultActs := by
  intro l tag ub s hslot
  have hexec {u : UnitId} (hu : unitOf ub = some u) (hfault : hasFault s.env s.plant u = true) (hgone : causeGone s.env s.plant u = true) :
      exec (.resetFault l tag [ub]) s =
        .next (replied l 0x14 tag .done [] (settle { s with plant := report s.env (.unit u) none (resetPlant u s) })) :=
    exec_answered rfl hslot ((handleResetFault_resets hu hfault hgone).trans (congrArg (Prod.mk · _) acceptReset_eq))
  have hpumpFault (i : PumpId) : hasFault s.env s.plant (.pump i) = true ↔ (s.plant.pumps.get i).run = .faulted := beq_iff_eq
  refine ⟨fun u hu hnot => exec_answered rfl hslot (handleResetFault_wrong hu hnot), fun u hu hfault hgone => ?_,
    fun i => ⟨hpumpFault i, ?_⟩, fun i hu hfault hgone => ?_, fun k => ⟨?_, ?_⟩, fun k hu hfault hgone => ?_⟩
  · refine ⟨_, hexec hu hfault hgone, rfl, ?_, answered_links rfl rfl, rfl, rfl, fun c hc hshows => ?_, fun k => ?_⟩
    · rw [replied_plant]
      exact (settle_units _).trans resetPlant_kept.units
    · rw [replied_plant]
      exact Shows.settle (c := c) (Shows.report (Shows.kept (a := s.plant) hshows hc (resetPlant_kept (u := u)))) hc
    · have hlisted : Listed (.unit u) (settle { s with plant := report s.env (.unit u) none (resetPlant u s) }).plant :=
        listed_report.settlePlant
      exact hlisted k
  · simp [causeGone, imp_iff_not_or]
  · intro q rest p
    have hrun := (hpumpFault i).mp hfault
    refine ⟨hexec hu hfault hgone, resetPump_record, fun j hj => ?_, putPump_portals .., putPump_zones .., putPump_duty .., putPump_arb ..,
      putPump_causes, fun hok hrest t ht => ?_⟩
    · exact (congrArg (PerPump.get · j) putPump_pumps).trans (PerPump.get_set_ne _ _ hj)
    · cases (hexec hu hfault hgone).symm.trans ht
      have hrecord : p.pumps.get i = _ := resetPump_record
      rw [if_neg (Nat.ne_of_gt hrest), if_neg (Nat.ne_of_gt hrest)] at hrecord
      have hstays : (settle { s with plant := report s.env (.unit (.pump i)) none (resetPlant (.pump i) s) }).plant.pumps.get i = p.pumps.get i :=
        (resetPump_stays hok hrun).settled (.inl (congrArg Pump.run hrecord))
      rw [replied_plant, hstays, hrecord]
      exact ⟨rfl, rfl, rfl, rfl, rfl, rfl⟩
  · simp [hasFault, Option.isSome_iff_ne_none]
  · simp [causeGone, imp_iff_not_or]
  · refine ⟨hexec hu hfault hgone, fun hhand => ?_, fun hjam hhand => resetPortal_cleared hjam hhand, fun st hjam hresume hfree => ?_,
      fun st hjam hresume hstep hlocked => ?_⟩
    · intro p q
      have hp : p = _ := resetPortal_hand hhand
      have hq : q = { (stopHand s.env k s.plant).portals.get k with jam := none, resume := none, retries := 0 } :=
        (congrArg (fun p : Plant => p.portals.get k) hp).trans putPortal_get
      have hstopped := stopHand_portal (e := s.env) (i := k) (p := s.plant)
      by_cases hmotion : (s.plant.portals.get k).motion = .none
      · rw [if_pos hmotion] at hstopped
        rw [hq, hstopped]
        exact ⟨hhand, hmotion, rfl, rfl, rfl, fun h => absurd hmotion h⟩
      · rw [if_neg hmotion] at hstopped
        rw [hq, hstopped]
        refine ⟨hhand, rfl, rfl, rfl, rfl, fun _ => ⟨rfl, rfl, ?_⟩⟩
        rw [hp, Plant.queued, putPortal_arb]
        exact stopHand_released hmotion
    · exact (resetPortal_jammed hjam hresume).trans (if_neg (by rw [hfree]; nofun))
    · refine (resetPortal_jammed hjam hresume).trans ((if_pos hlocked).trans ?_)
      have haspect (a : Aspect) : st.aspect.getD a = if st = .lifting then .amberFlash else .red := by
        cases st <;> first | rfl | cases hstep
      rw [resetLocked, haspect]

end Sys2Proof.Machine

/-! HAND DRIVE: O25. -/

namespace Sys2Proof.Machine

section Drives
variable {e : Env} {s : State} {p : Plant} {u : UnitId} {i : PortalId} {m : HandMotion} {d : Drive} {ub db ab : Byte}

/-- The checks of HAND DRIVE from the panel on a drive that fits its unit (R39). -/
theorem handleHandDrive_eq (hu : unitOf ub = some u) (hout : u ≠ .outfall) (hd : driveOf u db ab = some d) :
    handleHandDrive .panel [ub, db, ab] s =
      if s.plant.locked u = true then (s, .refuse .unitLocked)
      else if serviceOf s.env.cfg u = .inHand ∧ driveReady s.env s.plant d = true then (acceptDrive d s, .done [])
      else (s, .refuse .wrongState) := by
  simp only [handleHandDrive, hu, hd]
  by_cases hlock : s.plant.locked u = true
  · rw [if_pos hlock]
    exact guarded_fail (by simp [firstFailure, hout, hlock])
  · rw [if_neg hlock]
    by_cases hready : serviceOf s.env.cfg u = .inHand ∧ driveReady s.env s.plant d = true
    · rw [if_pos hready]
      exact guarded_pass (by simp [firstFailure, hout, hlock, hready.1, hready.2])
    · rw [if_neg hready]
      refine guarded_fail ?_
      by_cases hhand : serviceOf s.env.cfg u = .inHand
      · have hnot : driveReady s.env s.plant d = false := Bool.eq_false_iff.mpr fun h => hready ⟨hhand, h⟩
        simp [firstFailure, hout, hlock, hhand, hnot]
      · simp [firstFailure, hout, hlock, hhand]

theorem endHand_unqueued {why : HandResult} : (endHand e i why p).queued (.portal i) = false := by
  simp [endHand, letGo, unqueuePortal, Plant.queued, dropRequest]

/-- A hand motion that is set drives under the permit, or waits for one (R41). -/
theorem setHand_starts (h : motionTarget (e.portalPins i) m = false) : setHand e i m p = driveOrQueue e i (putPortal e i
    { p.portals.get i with
      motion := m, travel := .held 0,
      result := if (p.portals.get i).motion = .none then (p.portals.get i).result else some .stop } p) := if_neg (by rw [h]; nofun)

theorem setHand_record (h : motionTarget (e.portalPins i) m = false) : (setHand e i m p).portals.get i =
    { p.portals.get i with
      motion := m, travel := if (p.portals.get i).permit then .since e.clock else .held 0,
      result := if (p.portals.get i).motion = .none then (p.portals.get i).result else some .stop } := by
  rw [setHand_starts h, driveOrQueue_portal, putPortal_get]
  by_cases hpermit : (p.portals.get i).permit = true
  · rw [if_pos hpermit, if_pos hpermit]
    rfl
  · rw [if_neg hpermit, if_neg hpermit]

theorem setHand_limit (h : motionTarget (e.portalPins i) m = true) : setHand e i m p = endHand e i .limit p := if_pos h

theorem driveOrQueue_queued (h : (p.portals.get i).permit = false) : (driveOrQueue e i p).queued (.portal i) = true := by
  rw [driveOrQueue, if_neg (by rw [h]; nofun)]
  exact joinQueue_queued.mpr (.inl rfl)

end Drives

/-- Settles O25: the drive of each body, its precondition, and what a hand motion does. -/
theorem handDriveActs : Obligations.HandDriveActs := by
  refine ⟨fun tag ub s hslot => ?_, fun e i m why p => ⟨?_, endHand_unqueued, setHand_limit, fun hoff => ?_⟩⟩
  · intro answer acted
    have hexec {u : UnitId} {db ab : Byte} {d : Drive} (hu : unitOf ub = some u) (hout : u ≠ .outfall) (hd : driveOf u db ab = some d)
        (hlock : s.plant.locked u = false) (hhand : serviceOf s.env.cfg u = .inHand) (hready : driveReady s.env s.plant d = true) :
        exec (.handDrive .panel tag [ub, db, ab]) s = acted (applyDrive s.env d s.plant) := by
      refine exec_answered rfl hslot ((handleHandDrive_eq hu hout hd).trans ?_)
      rw [if_neg (by rw [hlock]; nofun), if_pos ⟨hhand, hready⟩]
      rfl
    have hwrong {u : UnitId} {db ab : Byte} {d : Drive} (hu : unitOf ub = some u) (hout : u ≠ .outfall) (hd : driveOf u db ab = some d)
        (hlock : s.plant.locked u = false) (hnot : ¬(serviceOf s.env.cfg u = .inHand ∧ driveReady s.env s.plant d = true)) :
        exec (.handDrive .panel tag [ub, db, ab]) s = answer .wrongState s := by
      refine exec_answered rfl hslot ((handleHandDrive_eq hu hout hd).trans ?_)
      rw [if_neg (by rw [hlock]; nofun), if_neg hnot]
      rfl
    refine ⟨fun u db ab hu hout hd hlock => ?_, fun u db ab hu hout hd hlock hhand => ?_, fun i hu hlock hhand => ?_,
      fun i hu hlock hhand => ?_, fun z arg hu hlock hhand harg hz6 => ?_⟩
    · obtain ⟨d, hd⟩ := Option.isSome_iff_exists.mp hd
      exact exec_answered rfl hslot ((handleHandDrive_eq hu hout hd).trans (if_pos hlock))
    · obtain ⟨d, hd⟩ := Option.isSome_iff_exists.mp hd
      exact hwrong hu hout hd hlock fun h => hhand h.1
    · exact ⟨hexec (d := .pump i true) hu nofun rfl hlock hhand rfl, hexec (d := .pump i false) hu nofun rfl hlock hhand rfl⟩
    · have hguarded {db ab : Byte} {d : Drive} (hd : driveOf (.portal i) db ab = some d) {c : Prop} [Decidable c]
          (hready : driveReady s.env s.plant d = true ↔ c) : exec (.handDrive .panel tag [ub, db, ab]) s =
            if c then acted (applyDrive s.env d s.plant) else answer .wrongState s := by
        by_cases hc : c
        · rw [if_pos hc]
          exact hexec hu nofun hd hlock hhand (hready.mpr hc)
        · rw [if_neg hc]
          exact hwrong hu nofun hd hlock fun h => hc (hready.mp h.2)
      have hstop {b : Bool} {c : Prop} [Decidable c] (h : b = true ↔ c) {x y : Plant} :
          (if b = true then x else y) = if c then x else y := by simp only [h]
      refine ⟨hexec (d := .motion i .gateOpening) hu nofun rfl hlock hhand rfl, hguarded (d := .motion i .gateClosing) rfl ?_, ?_,
        hguarded (d := .motion i .barrierRising) rfl Iff.rfl, hexec (d := .motion i .barrierLowering) hu nofun rfl hlock hhand rfl, ?_,
        fun ab a ha => hguarded (d := .signal i a) ?_ ?_⟩
      · simp [driveReady]
      · refine (hexec (d := .gateStop i) hu nofun rfl hlock hhand rfl).trans (congrArg acted (hstop ?_))
        cases (s.plant.portals.get i).motion <;> decide
      · refine (hexec (d := .barrierStop i) hu nofun rfl hlock hhand rfl).trans (congrArg acted (hstop ?_))
        cases (s.plant.portals.get i).motion <;> decide
      · simp [driveOf, portalDrive, ha]
      · simp [driveReady]
    · exact hexec (d := .level z arg.toNat) hu nofun (if_pos ⟨rfl, harg, hz6⟩) hlock hhand rfl
  · rw [endHand_portal]
    exact ⟨rfl, rfl, rfl, rfl, rfl⟩
  · intro p'
    have hset : p' = _ := setHand_starts hoff
    have hrecord : p'.portals.get i = _ := setHand_record hoff
    rw [hrecord, hset]
    exact ⟨rfl, rfl, rfl, rfl, fun hpermit => driveOrQueue_queued (by rw [putPortal_get]; exact hpermit)⟩

end Sys2Proof.Machine

/-! The reads: O22. -/

namespace Sys2Proof.Machine

/-! ### Bytes (R170) -/

section Bytes

theorem flatten_bytes {α : Type} (f : α → Byte) (l : List α) : (l.map fun x => [f x]).flatten = l.map f :=
  (List.flatMap_def ..).symm.trans (List.map_eq_flatMap ..).symm

theorem byteList_map {α : Type} (f : α → Nat) (l : List α) :
    byteList (l.map fun x => byte1 (f x)) = BitVec.ofNat 8 l.length :: l.map fun x => BitVec.ofNat 8 (f x) :=
  congrArg₂ List.cons (congrArg (BitVec.ofNat 8) (List.length_map _)) (flatten_bytes ..)

theorem bytesOfWord_eq (x : Word16) : bytesOfWord x = byte2 x.toNat := by
  have hhigh : x.extractLsb' 8 8 = BitVec.ofNat 8 (x.toNat / 256) := BitVec.eq_of_toNat_eq (by simp [Nat.shiftRight_eq_div_pow])
  have hlow : x.extractLsb' 0 8 = BitVec.ofNat 8 x.toNat := BitVec.eq_of_toNat_eq (by simp)
  rw [bytesOfWord, hhigh, hlow, byte2]

theorem unitOf_number (u : UnitId) : unitOf (BitVec.ofNat 8 u.number) = some u := by
  cases u with
  | pump i => cases i <;> rfl
  | portal k => cases k <;> rfl
  | zone z => cases z <;> rfl
  | outfall => rfl

theorem ofNumber_none {n : Nat} (h : ¬(1 ≤ n ∧ n ≤ 17)) : UnitId.ofNumber n = none := by
  match n with
  | 0 => rfl
  | n + 18 => rfl
  | 1 | 2 | 3 | 4 | 5 | 6 | 7 | 8 | 9 | 10 | 11 | 12 | 13 | 14 | 15 | 16 | 17 => exact absurd ⟨by decide, by decide⟩ h

theorem sumpOf_none {c : Byte} (h : ¬(1 ≤ c.toNat ∧ c.toNat ≤ 3)) : sumpOf c = none := by
  unfold sumpOf
  generalize c.toNat = n at h
  match n with
  | 0 => rfl
  | n + 4 => rfl
  | 1 | 2 | 3 => exact absurd ⟨by decide, by decide⟩ h

end Bytes

/-! ### Times (log 13, log 52) -/

section Times
variable {now : Nat}

/-- The whole seconds that a counting timer has left to its limit, a started one counted. -/
def secondsLeft (now limit : Nat) (t : Timer) : Option Nat :=
  match t with
  | .since start => some ((limit - (now - start) + 999) / 1000)
  | _ => none

/-- The first counting timer of a list, by its name and the seconds it has left. -/
def firstLeft (now : Nat) (timers : List (Nat × Nat × Timer)) : Option (Nat × Option Nat) :=
  (timers.map fun x => (x.1, secondsLeft now x.2.1 x.2.2)).find? fun x => x.2.isSome

theorem firstRunning_left (timers : List (Nat × Nat × Timer)) :
    (firstRunning now timers).map Prod.fst = (firstLeft now timers).map Prod.fst ∧
      (firstRunning now timers).map Prod.snd = (firstLeft now timers).bind Prod.snd := by
  induction timers with
  | nil => exact ⟨rfl, rfl⟩
  | cons x timers ih =>
    obtain ⟨name, limit, t⟩ := x
    cases t with
    | since start => exact ⟨rfl, rfl⟩
    | stopped => exact ih
    | held ms => exact ih

theorem remaining_bytes {o : Order} : byte2Zero (o.remaining now) =
    match o.expiresAt with
    | none => [0, 0]
    | some instant => byte2 (max 1 ((instant - now + 999) / 1000)) := by
  unfold Order.remaining
  cases o.expiresAt with
  | none => exact (rfl : byte2Zero none = [0, 0])
  | some instant => rfl

theorem limitInForce_eq {e : Env} {p : Plant} : limitInForce e p = (governingOrder e p .outfall).bind Order.arg := by
  unfold limitInForce
  cases governingOrder e p .outfall <;> rfl

theorem byteName_id {v : Option Nat} : byteName id v = byte1 (v.getD 0) := by cases v <;> rfl

theorem handCode_byte {on : Bool} : byte1 (handCode on) = [if on then 1 else 2] := by cases on <;> rfl

end Times

/-! ### The records (R49, R73, R169) -/

section Records
variable {e : Env} {p : Plant} {s : State}

theorem holdBytes_eq {now : Nat} {t : Timer} : byte2Ones (if t = .stopped then none else some (t.elapsed now / 1000)) =
    byte2 (match t with | .stopped => 65535 | .held ms => ms / 1000 | .since start => (now - start) / 1000) := by
  cases t <;> rfl

theorem rateBytes_eq {r : Option Int} : byteRate r =
    match r with
    | none => [0x80, 0x00]
    | some r => byte2 (BitVec.ofInt 16 r).toNat := by
  cases r with
  | none => rfl
  | some r => exact bytesOfWord_eq _

theorem activeCode_byte {on : Bool} : byte1 (activeCode on) = [if on then 1 else 2] := by cases on <;> rfl

theorem windowBytes_eq {x : Window} : windowBytes x =
    byte2 (if x.samples = [] then 65535 else x.samples.sum / x.samples.length) ++
      [BitVec.ofNat 8 x.samples.length, if x.lost then 1 else 0] := by
  unfold windowBytes Window.mean
  cases x.samples <;> rfl

theorem transferBytes_eq {a : Arbiter} : byte2Ones (transferElapsed e a) =
    byte2 (if a.supply = .transfer then a.transfer.elapsed e.clock / 1000 else 65535) := by
  unfold transferElapsed
  split <;> rfl

theorem spacingBytes_eq {a : Arbiter} : byte1 (spacingRemaining e a) =
    [if a.spacing = .stopped then 0
     else BitVec.ofNat 8 ((1000 * e.cfg.supply.spacing - a.spacing.elapsed e.clock + 999) / 1000)] := by
  unfold spacingRemaining
  split <;> rfl

theorem fromLink_count (l : List Order) : l.countP Order.fromLink = l.countP fun o => o.issuer == .field || o.issuer == .panel :=
  List.countP_congr fun o _ => by cases h : o.issuer <;> simp [Order.fromLink, h]

/-- The plant record, the bytes of each part together (R169). -/
theorem plantBytes_eq : plantBytes s =
    [s.links.address] ++ byte2 s.env.cfg.fieldRate.bitsPerSecond ++ [BitVec.ofNat 8 s.plant.arb.supply.code] ++
      byte2 (budget s.env s.plant) ++
      byte2 (if s.plant.arb.supply = .transfer then s.plant.arb.transfer.elapsed s.env.clock / 1000 else 65535) ++
      byte2 (nonLampLoad s.env s.plant) ++ byte2 (lampLoad s.env s.plant) ++ byte2 (shedReservation s.env.cfg) ++
      [if s.plant.arb.spacing = .stopped then 0
       else BitVec.ofNat 8 ((1000 * s.env.cfg.supply.spacing - s.plant.arb.spacing.elapsed s.env.clock + 999) / 1000),
       BitVec.ofNat 8 s.env.underpass, BitVec.ofNat 8 s.store.state.code] ++
      byte2 s.plant.attn.present.toNat ++
      [BitVec.ofNat 8 s.env.table.length,
       BitVec.ofNat 8 (s.env.table.countP fun o => o.issuer == .field || o.issuer == .panel),
       BitVec.ofNat 8 (s.env.table.countP fun o => o.issuer == .key),
       BitVec.ofNat 8 (grantOrderNow s.env s.plant.arb.queue).length] ++
      (grantOrderNow s.env s.plant.arb.queue).map (fun r => BitVec.ofNat 8 r.unit.number) ++
      [if s.plant.portals.pe.permit then 1 else 0, if s.plant.portals.pw.permit then 1 else 0] ++
      windowBytes s.env.windows.east ++ windowBytes s.env.windows.west := by
  unfold plantBytes
  simp only [transferBytes_eq, spacingBytes_eq, bytesOfWord_eq, byteList_map]
  simp only [byte1, byteFlag, fromLink_count]
  simp only [List.append_assoc]
  simp only [List.cons_append, List.nil_append]

theorem exec_readPlant {l : Link} {tag : Byte} (hslot : (s.port l).slot = .empty) :
    exec (.readPlant l tag []) s = .next (replied l 0x20 tag .done (plantBytes s) s) := by
  have hanswer : ownerOf (.readPlant l tag []) s = (s, .done (plantBytes s)) := by simp only [ownerOf, handleReadPlant]
  generalize plantBytes s = payload at *
  exact exec_answered rfl hslot hanswer

end Records

/-- Settles O22: each record is laid out field by field. -/
theorem readsAnswerTheRecord : Obligations.ReadsAnswerTheRecord := by
  refine ⟨fun l tag s hslot => ?_, rfl, rfl, rfl, rfl, rfl, rfl, rfl, rfl, rfl, rfl, rfl, rfl, rfl, rfl, rfl, rfl, rfl, rfl⟩
  intro b w y now left first
  refine ⟨fun body hlen => ?_, fun nh nl hnone => ?_, fun nh nl o hfind => ?_, fun body hlen => ?_, fun c hc => ?_, fun u => ?_,
    fun body hlen => ?_, fun c hc => ?_, ?_, fun body hbody => ?_, ?_⟩
  · refine exec_answered rfl hslot ?_
    match body, hlen with
    | [], _ => rfl
    | [_], _ => rfl
    | [_, _], h => exact absurd rfl h
    | _ :: _ :: _ :: _, _ => rfl
  · have hfind : s.env.table.find? (fun o => o.number == word nh nl) = none :=
      List.find?_eq_none.mpr fun o ho => by simpa using hnone o ho
    exact exec_answered rfl hslot (by simp only [ownerOf, handleLookup, hfind]; rfl)
  · refine exec_answered rfl hslot (payload := orderBytes now o) (by simp only [ownerOf, handleLookup, hfind]; rfl) |>.trans ?_
    rw [orderBytes, remaining_bytes]
    cases o.expiresAt <;> rfl
  · refine exec_answered rfl hslot ?_
    match body, hlen with
    | [], _ => rfl
    | [_], h => exact absurd rfl h
    | _ :: _ :: _, _ => rfl
  · have hnone : unitOf c = none := ofNumber_none hc
    exact exec_answered rfl hslot (by simp only [ownerOf, handleReadUnit, hnone]; rfl)
  · refine exec_answered rfl hslot (payload := unitHead s.env s.plant u ++ kindPart s.env s.plant u)
      (by simp only [ownerOf, handleReadUnit, b, unitOf_number]; rfl) |>.trans ?_
    cases u with
    | pump i =>
      obtain ⟨hname, htime⟩ := firstRunning_left (now := now) (pumpTimers (s.env.cfg.pumps.get i) (s.plant.pumps.get i))
      simp only [kindPart, pumpPart, handCode_byte, byteName_id]
      rw [hname, htime]
      rfl
    | portal k =>
      obtain ⟨hname, htime⟩ := firstRunning_left (now := now) (portalTimers (s.env.cfg.portals.get k) (s.plant.portals.get k))
      simp only [kindPart, portalPart, byteName_id]
      rw [hname, htime]
      rfl
    | zone z => rfl
    | outfall =>
      simp only [kindPart, limitInForce_eq]
      rfl
  · refine exec_answered rfl hslot ?_
    match body, hlen with
    | [], _ => rfl
    | [_], h => exact absurd rfl h
    | _ :: _ :: _, _ => rfl
  · exact exec_answered rfl hslot (by simp only [ownerOf, handleReadSump, sumpOf_none hc]; rfl)
  · intro u m level d
    refine exec_answered rfl hslot (payload := sumpBytes s.env s.plant u) (by simp only [ownerOf, handleReadSump, b, sumpOf_sumpCode]; rfl) |>.trans ?_
    have hlatches : (d.latches.map byteFlag).flatten = d.latches.map y := flatten_bytes ..
    simp only [sumpBytes, holdBytes_eq, rateBytes_eq, activeCode_byte, byteList_map]
    rw [hlatches]
    simp only [List.append_assoc]
    rfl
  · refine exec_answered rfl hslot ?_
    match body, hbody with
    | [], h => exact absurd rfl h
    | _ :: _, _ => rfl
  · intro p supply passed side
    have hpayload := plantBytes_eq (s := s)
    rw [windowBytes_eq, windowBytes_eq] at hpayload
    refine (exec_readPlant hslot).trans ?_
    rw [hpayload]
    rfl

end Sys2Proof.Machine

/-! The grants: O43. -/

namespace Sys2Proof.Machine

/-! ### The order of choice (R107) -/

section Order
variable {α : Type} {f : α → Nat}

/-- The entries of each key in turn are the entries, when every key is named once. -/
theorem flatMap_filter_perm {ks : List Nat} (hks : ks.Nodup) : ∀ {l : List α}, (∀ x ∈ l, f x ∈ ks) →
    (ks.flatMap fun k => l.filter fun x => f x == k).Perm l := by
  induction ks with
  | nil =>
    intro l h
    cases l with
    | nil => exact .nil
    | cons x l => exact absurd (h x List.mem_cons_self) List.not_mem_nil
  | cons k ks ih =>
    intro l h
    obtain ⟨hk, hks⟩ := List.nodup_cons.mp hks
    have hlater : (ks.flatMap fun k' => l.filter fun x => f x == k') =
        ks.flatMap fun k' => (l.filter fun x => !(f x == k)).filter fun x => f x == k' := by
      refine List.flatMap_congr fun k' hk' => ?_
      rw [List.filter_filter]
      refine List.filter_congr fun x _ => ?_
      by_cases hx : f x = k'
      · have hne : f x ≠ k := fun he => hk (he ▸ hx ▸ hk')
        simp [hx, hx ▸ hne]
      · simp [hx]
    rw [List.flatMap_cons, hlater]
    refine (List.Perm.append_left _ (ih hks fun x hx => ?_)).trans (List.filter_append_perm _ l)
    obtain ⟨hx, hne⟩ := List.mem_filter.mp hx
    exact (List.mem_cons.mp (h x hx)).resolve_left (by simpa using hne)

/-- Among equals the entries keep their order. -/
theorem flatMap_filter_key {l : List α} {st : Nat} {ks : List Nat} (hks : ks.Nodup) :
    (ks.flatMap fun k => l.filter fun x => f x == k).filter (fun x => f x == st) =
      if st ∈ ks then l.filter fun x => f x == st else [] := by
  induction ks with
  | nil => rfl
  | cons k ks ih =>
    obtain ⟨hk, hks⟩ := List.nodup_cons.mp hks
    rw [List.flatMap_cons, List.filter_append, ih hks, List.filter_filter]
    by_cases hst : st = k
    · subst hst
      simp [hk]
    · have hnone : (l.filter fun x => (f x == st) && (f x == k)) = [] :=
        List.filter_eq_nil_iff.mpr fun x _ => by
          simp only [Bool.and_eq_true, beq_iff_eq]
          exact fun h => hst (h.1.symm.trans h.2)
      rw [hnone, List.nil_append]
      simp [hst]

/-- The keys come in the order in which they are named. -/
theorem flatMap_filter_sorted {l : List α} {ks : List Nat} (hks : ks.Pairwise (· > ·)) :
    (ks.flatMap fun k => l.filter fun x => f x == k).Pairwise fun a b => f b ≤ f a := by
  have hkey {k : Nat} {x : α} (hx : x ∈ l.filter fun x => f x == k) : f x = k := by simpa using (List.mem_filter.mp hx).2
  refine List.pairwise_flatMap.mpr ⟨fun k _ => ?_, hks.imp fun hlt x hx y hy => ?_⟩
  · exact List.Pairwise.imp_of_mem (fun ha hb _ => (hkey hb).trans_le (hkey ha).ge) (List.pairwise_iff_forall_sublist.mpr fun _ => trivial)
  · rw [hkey hx, hkey hy]
    exact Nat.le_of_lt hlt

end Order

section Choice
variable {e : Env} {q : List Request}

theorem pumpRequests_perm : (pumpRequestsByStage e q).Perm (q.filter fun r => !r.motion) :=
  flatMap_filter_perm (f := fun r : Request => min 4 (r.stage e)) (ks := [4, 3, 2, 1, 0]) (by decide) fun r _ => by
    have hle : min 4 (r.stage e) ≤ 4 := Nat.min_le_left ..
    generalize min 4 (r.stage e) = k at hle
    decide +revert

theorem pumpRequest_mem {r : Request} (h : r ∈ pumpRequestsByStage e q) : r.motion = false := by
  simpa using (List.mem_filter.mp (pumpRequests_perm.mem_iff.mp h)).2

theorem grantOrderNow_perm : (grantOrderNow e q).Perm q :=
  (pumpRequests_perm.append_left _).trans (List.filter_append_perm _ q)

theorem grantOrderNow_motion : (grantOrderNow e q).filter Request.motion = q.filter Request.motion := by
  rw [grantOrderNow, List.filter_append, List.filter_filter]
  have hnone : (pumpRequestsByStage e q).filter Request.motion = [] :=
    List.filter_eq_nil_iff.mpr fun r hr => by rw [pumpRequest_mem hr]; nofun
  simp [hnone]

theorem grantOrderNow_stage {st : Nat} : (grantOrderNow e q).filter (fun r => !r.motion && min 4 (r.stage e) == st) =
    q.filter fun r => !r.motion && min 4 (r.stage e) == st := by
  have hmotion : (q.filter Request.motion).filter (fun r => !r.motion && min 4 (r.stage e) == st) = [] :=
    List.filter_eq_nil_iff.mpr fun r hr => by simp [(List.mem_filter.mp hr).2]
  have hpumps : (pumpRequestsByStage e q).filter (fun r => !r.motion && min 4 (r.stage e) == st) =
      (pumpRequestsByStage e q).filter fun r => min 4 (r.stage e) == st :=
    List.filter_congr fun r hr => by rw [pumpRequest_mem hr]; rfl
  have hboth : q.filter (fun r => !r.motion && min 4 (r.stage e) == st) =
      (q.filter fun r => !r.motion).filter fun r => min 4 (r.stage e) == st := by
    rw [List.filter_filter]
    exact List.filter_congr fun r _ => Bool.and_comm ..
  rw [grantOrderNow, List.filter_append, hmotion, hpumps, hboth, List.nil_append]
  refine (flatMap_filter_key (f := fun r : Request => min 4 (r.stage e)) (ks := [4, 3, 2, 1, 0]) (by decide)).trans ?_
  split
  · rfl
  · rename_i hst
    refine (List.filter_eq_nil_iff.mpr fun r _ hr => hst ?_).symm
    have hle : min 4 (r.stage e) ≤ 4 := Nat.min_le_left ..
    rw [beq_iff_eq.mp hr] at hle
    clear hr hst hboth hpumps hmotion
    decide +revert

theorem grantOrderNow_sorted : (grantOrderNow e q).Pairwise fun a b =>
    a.motion = true ∨ (b.motion = false ∧ min 4 (b.stage e) ≤ min 4 (a.stage e)) := by
  refine List.pairwise_append.mpr ⟨?_, ?_, fun a ha b _ => .inl (List.mem_filter.mp ha).2⟩
  · exact List.Pairwise.imp_of_mem (fun ha _ _ => .inl (List.mem_filter.mp ha).2) (List.pairwise_iff_forall_sublist.mpr fun _ => trivial)
  · exact List.Pairwise.imp_of_mem (fun _ hb hle => .inr ⟨pumpRequest_mem hb, hle⟩)
      (flatMap_filter_sorted (f := fun r : Request => min 4 (r.stage e)) (ks := [4, 3, 2, 1, 0]) (by decide))

end Choice

/-! ### Fit and the grant pass (R107, R108) -/

section Fits
variable {e : Env} {p : Plant} {r : Request} {n : Nat}

theorem fits_portal {i : PortalId} (h : r.unit = .portal i) : fits e p r = true ↔
    nonLampLoad e p + shedReservation e.cfg + (e.cfg.portals.get i).motorKw ≤ budget e p := by
  rw [fits, h]
  exact decide_eq_true_iff

theorem fits_pump {i : PumpId} (h : r.unit = .pump i) : fits e p r = true ↔
    nonLampLoad e p + shedReservation e.cfg + (e.cfg.pumps.get i).load + (e.cfg.pumps.get i).surge ≤ budget e p ∧
      p.arb.spacing = .stopped ∧ ∀ n, limitInForce e p = some n → liveCount p < n := by
  rw [fits, h]
  cases limitInForce e p <;> simp [and_assoc]

theorem grantPass_head (h : (grantOrderNow e p.arb.queue).head? = some r) : grantPass e (n + 1) p =
    if fits e p r = true then grantPass e n (ownersAct e (grantRequest e r p)) else p := by
  obtain ⟨l, hl⟩ := List.head?_eq_some_iff.mp h
  simp only [grantPass, hl]

theorem grantPass_stops (h : ∀ r, (grantOrderNow e p.arb.queue).head? = some r → fits e p r = false) : grantPass e n p = p := by
  cases n with
  | zero => rfl
  | succ n =>
    cases hhead : (grantOrderNow e p.arb.queue).head? with
    | none => simp only [grantPass, List.head?_eq_none_iff.mp hhead]
    | some r => rw [grantPass_head hhead, if_neg (by rw [h r hhead]; nofun)]

end Fits

/-! ### A pump's grant (R86) -/

section PumpGrant
variable {e : Env} {i : PumpId} {p : Plant}

/-- The record of a pump that has just been granted. -/
theorem grantPump_record : (grantPump e i p).pumps.get i =
    let q := (p.pumps.get i).granted e.clock (e.cfg.pumps.get i)
    if e.pins.thermal.get i then
      q.afterStop e.clock (e.cfg.pumps.get i).minRest (e.cfg.pumpService.get i == .inHand) (.fault .thermal)
    else if e.pins.feedback.get i then
      { q with
        run := .running, confirm := .stopped, lostTimer := .stopped
        dryTimer := if e.pins.dryRun.get i then .since e.clock else .stopped }
    else q := by
  have hlamps : (lampPass e (started e i p)).pumps.get i = (p.pumps.get i).granted e.clock (e.cfg.pumps.get i) := by
    rw [lampPass_pumps, started_pumps, PerPump.get_set]
  rw [grantPump_eq]
  by_cases hthermal : e.pins.thermal.get i = true
  · simp only [if_pos hthermal, faultAtGrant, raiseCause_pumps, putPump_pumps, PerPump.get_set, hlamps]
  · by_cases hfeedback : e.pins.feedback.get i = true
    · simp only [if_neg hthermal, if_pos hfeedback, becomeRunning, putPump_pumps, PerPump.get_set, hlamps]
    · simp only [if_neg hthermal, if_neg hfeedback, hlamps]

theorem grantPump_arb : (grantPump e i p).arb =
    { (noteGrant (.pump i) (dropRequest (.pump i) p)).arb with spacing := timerFor e.clock e.cfg.supply.spacing } := by
  have hlamps : (lampPass e (started e i p)).arb = (noteGrant (.pump i) (dropRequest (.pump i) p)).arb := lampPass_arb.trans started_arb
  rw [grantPump_eq]
  by_cases hthermal : e.pins.thermal.get i = true
  · simp only [if_pos hthermal, faultAtGrant, raiseCause_arb, putPump_arb, hlamps]
  · by_cases hfeedback : e.pins.feedback.get i = true
    · simp only [if_neg hthermal, if_pos hfeedback, becomeRunning, putPump_arb, hlamps]
    · simp only [if_neg hthermal, if_neg hfeedback, hlamps]

/-- A pump's grant leaves the other pumps, the portals and the zones as they were trimmed. -/
theorem grantPump_frame : (grantPump e i p).portals = (lampPass e (started e i p)).portals ∧
    (grantPump e i p).zones = (lampPass e (started e i p)).zones ∧
    ∀ j, j ≠ i → (grantPump e i p).pumps.get j = (lampPass e (started e i p)).pumps.get j := by
  rw [grantPump_eq]
  generalize lampPass e (started e i p) = b
  by_cases hthermal : e.pins.thermal.get i = true
  · simp only [if_pos hthermal, faultAtGrant, raiseCause_pumps, raiseCause_portals, raiseCause_zones, putPump_pumps, putPump_portals, putPump_zones]
    exact ⟨trivial, trivial, fun j hj => PerPump.get_set_ne _ _ hj⟩
  · by_cases hfeedback : e.pins.feedback.get i = true
    · simp only [if_neg hthermal, if_pos hfeedback, becomeRunning, putPump_pumps, putPump_portals, putPump_zones]
      exact ⟨trivial, trivial, fun j hj => PerPump.get_set_ne _ _ hj⟩
    · simp only [if_neg hthermal, if_neg hfeedback]
      exact ⟨trivial, trivial, fun _ _ => trivial⟩

theorem grantPump_fault (h : e.pins.thermal.get i = true) : Cause.pumpFault.isIn (grantPump e i p).attn.present = true := by
  rw [grantPump_eq]
  simp only [if_pos h, faultAtGrant]
  exact shows_raised

end PumpGrant

/-! ### A portal's permit (R112, R119) -/

section Permit
variable {e : Env} {i : PortalId} {a p : Plant}

theorem Wrote.grantOrder (h : Wrote e (PortalWrite i) a p) : p.arb.grantOrder = a.arb.grantOrder :=
  h.stands (f := fun q => q.arb.grantOrder) fun q w hw => by
    cases w with
    | portal j r => exact congrArg Arbiter.grantOrder (putPortal_arb ..)
    | join u => exact joinQueue_grantOrder ..
    | drop u => rfl
    | raise c => rfl
    | _ => exact hw.elim

theorem Wrote.permit (h : Wrote e (PortalWrite i) a p) : ∀ j, (p.portals.get j).permit = true → (a.portals.get j).permit = true := by
  refine h.induct (P := fun q => ∀ j, (q.portals.get j).permit = true → (a.portals.get j).permit = true) (fun q w hw hq j hj => hq j ?_)
    fun _ => id
  cases w with
  | portal k r =>
    obtain ⟨rfl, hr⟩ := hw
    by_cases hjk : j = k
    · subst hjk
      rw [PlantWrite.run, putPortal_get] at hj
      exact hr hj
    · rwa [PlantWrite.run, putPortal_portals, PerPortal.get_set_ne _ _ hjk] at hj
  | join u => rwa [PlantWrite.run, joinQueue_portals] at hj
  | drop u => exact hj
  | raise c => exact hj
  | _ => exact hw.elim

theorem Wrote.portalZones (h : Wrote e (PortalWrite i) a p) : p.zones = a.zones :=
  h.stands (f := Plant.zones) fun q w hw => by
    cases w with
    | portal j r => exact putPortal_zones ..
    | join u => exact joinQueue_zones ..
    | drop u => rfl
    | raise c => rfl
    | _ => exact hw.elim

theorem Wrote.portalPumps (h : Wrote e (PortalWrite i) a p) : p.pumps = a.pumps :=
  h.stands (f := Plant.pumps) fun q w hw => by
    cases w with
    | portal j r => exact putPortal_pumps ..
    | join u => exact joinQueue_pumps ..
    | drop u => rfl
    | raise c => rfl
    | _ => exact hw.elim

theorem letGo_unqueued : (letGo e i p).queued (.portal i) = false := by
  simp [letGo, unqueuePortal, Plant.queued, dropRequest]

theorem putPortal_queued {q : Portal} {u : UnitId} : (putPortal e i q p).queued u = p.queued u := by
  simp only [Plant.queued, putPortal_arb]

theorem driveOrQueue_permit (h : (p.portals.get i).permit = true) : driveOrQueue e i p =
    putPortal e i { p.portals.get i with travel := (p.portals.get i).travel.resume e.clock } p := if_pos h

theorem enterIdle_unqueued {st : Seq} : (enterIdle e i st p).queued (.portal i) = false := putPortal_queued.trans letGo_unqueued

theorem obstruct_unqueued : (obstruct e i p).queued (.portal i) = false := by
  simp only [obstruct]
  split
  · exact putPortal_queued.trans letGo_unqueued
  · exact (putPortal_queued (p := enterIdle e i .jammed p)).trans enterIdle_unqueued

/-- With no retry left an obstruction jams the portal (R127, R135). -/
theorem obstruct_jams (h : (e.cfg.portals.get i).retryCount ≤ (p.portals.get i).retries) :
    Cause.gateJammed.isIn (obstruct e i p).attn.present = true := by
  simp only [obstruct, if_neg (Nat.not_lt.mpr h), toJammed]
  exact shows_raised

/-- The plant in which the portal's permit has been given and the zones are trimmed (R108). -/
theorem trimmed_portal : (lampPass e (permitted e i p)).portals.get i = { p.portals.get i with starved := false, permit := true } := by
  rw [lampPass_portals, permitted_portal]

theorem trimmed_order : (lampPass e (permitted e i p)).arb.grantOrder.getLast? = some (.portal i) := by
  rw [lampPass_arb, permitted, putPortal_arb, noteGrant_grantOrder, List.getLast?_append]
  rfl

theorem trimmed_unqueued : (lampPass e (permitted e i p)).queued (.portal i) = false := by
  rw [Plant.queued, lampPass_arb, permitted, putPortal_arb, noteGrant_queue, unqueuePortal, putPortal_arb]
  simp [dropRequest]

/-- The states in which a portal that has just taken a permit drives its motor (R112, R119). -/
structure MayDrive (e : Env) (i : PortalId) (q : Portal) : Prop where
  seq : q.seq.motionStep = true ∨ q.seq = .hand ∧ q.motion ≠ .none
  sealing : q.seq = .sealing → (e.portalPins i).barrierLowered = true ∧ (e.portalPins i).edge = false
  lifting : q.seq = .lifting → (e.portalPins i).gateOpen = true
  closing : q.seq = .hand → q.motion = .gateClosing → (e.portalPins i).barrierLowered = true

theorem mayDrive_free {q : Portal} (h : q.seq = .barring ∨ q.seq = .unsealing) : MayDrive e i q := by
  obtain h | h := h <;> exact ⟨.inl (by rw [h]; rfl), by rw [h]; nofun, by rw [h]; nofun, by rw [h]; nofun⟩

theorem mayDrive_sealing {q : Portal} (h : q.seq = .sealing) (hl : (e.portalPins i).barrierLowered = true)
    (he : (e.portalPins i).edge = false) : MayDrive e i q :=
  ⟨.inl (by rw [h]; rfl), fun _ => ⟨hl, he⟩, by rw [h]; nofun, by rw [h]; nofun⟩

theorem mayDrive_lifting {q : Portal} (h : q.seq = .lifting) (hg : (e.portalPins i).gateOpen = true) : MayDrive e i q :=
  ⟨.inl (by rw [h]; rfl), by rw [h]; nofun, fun _ => hg, by rw [h]; nofun⟩

theorem mayDrive_hand {q : Portal} (h : q.seq = .hand) (hm : q.motion ≠ .none)
    (hc : q.motion = .gateClosing → (e.portalPins i).barrierLowered = true) : MayDrive e i q :=
  ⟨.inr ⟨h, hm⟩, by rw [h]; nofun, by rw [h]; nofun, fun _ => hc⟩

theorem wantsMotor_hand {q : Portal} (h : q.seq = .hand) : q.wantsMotor =
    match q.motion with
    | .none => none
    | .gateOpening => some .gateOpen
    | .gateClosing => some .gateClose
    | .barrierRising => some .barrierUp
    | .barrierLowering => some .barrierDown := by
  simp only [Portal.wantsMotor, h]
  <;> rfl

theorem onPermit_drives (h : MayDrive e i (p.portals.get i)) : onPermit e i p = driveOrQueue e i p := by
  obtain ⟨hseq, hsealing, hlifting, hclosing⟩ := h
  simp only [onPermit]
  split
  · rfl
  · rfl
  · obtain ⟨hlowered, hedge⟩ := hsealing ‹_›
    rw [if_pos hlowered, sealOrQueue, hedge, Bool.and_false, if_neg nofun]
  · rw [if_pos (hlifting ‹_›)]
  · rename_i hhand
    rw [if_neg fun h => ?_, if_neg ?_]
    · exact (hseq.resolve_left (by rw [hhand]; nofun)).2
    · rw [hclosing hhand h.1] at h
      exact Bool.noConfusion h.2
  · rename_i h1 h2 h3 h4 h5
    obtain hstep | ⟨hhand, -⟩ := hseq
    · cases hs : (p.portals.get i).seq <;> simp_all [Seq.motionStep]
    · exact absurd hhand h5

theorem onPermit_guard (hs : (p.portals.get i).seq = .sealing) (hl : (e.portalPins i).barrierLowered = false) :
    onPermit e i p = guardLost e i p := by simp [onPermit, hs, hl]

theorem onPermit_edge (hs : (p.portals.get i).seq = .sealing) (hp : (p.portals.get i).permit = true)
    (hl : (e.portalPins i).barrierLowered = true) (he : (e.portalPins i).edge = true) : onPermit e i p = obstruct e i p := by
  simp [onPermit, sealOrQueue, hs, hl, he, hp]

theorem onPermit_away (hs : (p.portals.get i).seq = .lifting) (hg : (e.portalPins i).gateOpen = false) :
    onPermit e i p = toUnsealingAway e i (.held 0) p := by simp [onPermit, hs, hg]

theorem onPermit_closing (hs : (p.portals.get i).seq = .hand) (hm : (p.portals.get i).motion = .gateClosing)
    (hl : (e.portalPins i).barrierLowered = false) : onPermit e i p = endHand e i .guarding p := by simp [onPermit, hs, hm, hl]

/-- BARRING away from its limit, without a permit, waits for one (R119, R123). -/
theorem guardLost_waits (hl : (e.portalPins i).barrierLowered = false) :
    (guardLost e i p).portals.get i = { (p.portals.get i).released.enter .barring with travel := .held 0 } ∧
      (guardLost e i p).queued (.portal i) = true := by
  have heq : guardLost e i p = driveOrQueue e i (enterStep e i .barring (.held 0) (letGo e i p)) := if_neg (by rw [hl]; nofun)
  have hrecord : (enterStep e i .barring (.held 0) (letGo e i p)).portals.get i =
      { (p.portals.get i).released.enter .barring with travel := .held 0 } := by rw [enterStep_portal, letGo_portal]
  have hpermit : ((enterStep e i .barring (.held 0) (letGo e i p)).portals.get i).permit = false := by rw [hrecord]; rfl
  rw [heq]
  refine ⟨?_, driveOrQueue_queued hpermit⟩
  rw [driveOrQueue_portal, if_neg (by rw [hpermit]; nofun), hrecord]

end Permit

/-! ### The load after a grant (R108) -/

section Load
variable {e : Env} {a p : Plant} {r : Request}

theorem lampLoad_congr (h : p.zones = a.zones) : lampLoad e p = lampLoad e a := by simp only [lampLoad, h]

/-- Whatever the owner does with its grant, no more is drawn than when the zones were trimmed. -/
theorem trimmed_load (hfit : nonLampLoad e a + shedReservation e.cfg ≤ budget e a) (hle : nonLampLoad e p ≤ nonLampLoad e (lampPass e a))
    (hzones : p.zones = (lampPass e a).zones) (hsupply : p.arb.supply = (lampPass e a).arb.supply) :
    nonLampLoad e p + lampLoad e p ≤ budget e p := by
  have hwithin := (lampPass_within hfit).1
  have hbudget : budget e p = budget e a := by rw [budget, hsupply, ← budget, lampPass_budget]
  rw [lampPass_nonLamp] at hle
  rw [lampLoad_congr hzones, hbudget]
  exact (Nat.add_le_add_right hle _).trans hwithin

theorem grantPump_load {i : PumpId}
    (hfit : nonLampLoad e p + shedReservation e.cfg + (e.cfg.pumps.get i).load + (e.cfg.pumps.get i).surge ≤ budget e p) :
    nonLampLoad e (grantPump e i p) + lampLoad e (grantPump e i p) ≤ budget e (grantPump e i p) := by
  have hstarted := nonLampLoad_started (e := e) (i := i) (p := p)
  have hbudget : budget e (started e i p) = budget e p := by rw [budget, started_supply, budget]
  obtain ⟨hportals, hzones, hother⟩ := grantPump_frame (e := e) (i := i) (p := p)
  have hlamps : (lampPass e (started e i p)).pumps.get i = (p.pumps.get i).granted e.clock (e.cfg.pumps.get i) := by
    rw [lampPass_pumps, started_pumps, PerPump.get_set]
  have hdraws (j : PumpId) : Draws ((lampPass e (started e i p)).pumps.get j) ((grantPump e i p).pumps.get j) := by
    by_cases hj : j = i
    · subst hj
      rw [grantPump_record, hlamps]
      dsimp only
      split
      · exact .dead (afterStop_run ..).2
      · split <;> exact fun _ => ⟨rfl, .inr rfl⟩
    · rw [hother j hj]
      exact .refl
  refine trimmed_load (a := started e i p) (by omega) (nonLampLoad_le hdraws fun j hj => hportals ▸ hj) hzones ?_
  rw [grantPump_arb, lampPass_arb, started_arb]

theorem grantPortal_load {i : PortalId}
    (hfit : nonLampLoad e p + shedReservation e.cfg + (e.cfg.portals.get i).motorKw ≤ budget e p) :
    nonLampLoad e (grantPortal e i p) + lampLoad e (grantPortal e i p) ≤ budget e (grantPortal e i p) := by
  have hpermitted := nonLampLoad_permitted (e := e) (i := i) (p := p)
  have hbudget : budget e (permitted e i p) = budget e p := by rw [budget, permitted_supply, budget]
  have hwrote : Wrote e (PortalWrite i) (lampPass e (permitted e i p)) (grantPortal e i p) := onPermit_wrote .refl
  refine trimmed_load (a := permitted e i p) (by omega) (nonLampLoad_le (fun j => ?_) hwrote.permit) hwrote.portalZones hwrote.supply.1
  rw [hwrote.portalPumps]
  exact .refl

theorem grant_load (h : fits e p r = true) :
    nonLampLoad e (grantRequest e r p) + lampLoad e (grantRequest e r p) ≤ budget e (grantRequest e r p) := by
  obtain ⟨u, joined, wait⟩ := r
  cases u with
  | pump i => exact grantPump_load ((fits_pump rfl).mp h).1
  | portal k => exact grantPortal_load ((fits_portal rfl).mp h)
  | zone z => simp [fits] at h
  | outfall => simp [fits] at h

end Load

/-- Settles O43: the order of choice, the fit, and each grant by the record that it leaves. -/
theorem grantsTakeTheHeadOfTheLine : Obligations.GrantsTakeTheHeadOfTheLine := by
  refine ⟨fun e q => ⟨grantOrderNow_perm, grantOrderNow_motion, fun st => grantOrderNow_stage, grantOrderNow_sorted⟩,
    fun e p r => ⟨fun i => fits_portal, fun i => fits_pump⟩, fun e p n => grantPass_stops,
    fun e p n r hhead hfits => (grantPass_head hhead).trans (if_pos hfits), fun e i p => ?_, fun e i p => ?_,
    fun e p r _ _ => grant_load⟩
  · intro p' q q'
    have hrecord : q' = _ := grantPump_record
    have harb : p'.arb = _ := grantPump_arb
    have hlimit : Config.startListLimit = 12 := rfl
    refine ⟨?_, ?_, ?_, ?_, ?_, fun hcool => ?_, fun hhot => ⟨?_, grantPump_fault hhot⟩, ?_, ?_⟩
    · rw [Plant.queued, harb, noteGrant_queue]
      simp [dropRequest]
    · rw [hrecord]
      dsimp only
      split
      · rfl
      · split <;> rfl
    · rw [hrecord]
      dsimp only
      split
      · rfl
      · split <;> rfl
    · rw [hrecord]
      dsimp only
      split
      · rfl
      · split <;> rfl
    · rw [hrecord]
      dsimp only
      split
      · rfl
      · split <;> rfl
    · rw [hrecord, hcool]
      dsimp only
      rw [if_neg nofun]
      split <;> exact ⟨rfl, rfl, rfl⟩
    · rw [hrecord, hhot]
      rfl
    · rw [harb]
      rfl
    · rw [harb, noteGrant_grantOrder, List.getLast?_append]
      rfl
  · intro q pins p' q' counting driven
    have hb : (lampPass e (permitted e i p)).portals.get i = { q with starved := false, permit := true } := trimmed_portal
    have hunqueued : (lampPass e (permitted e i p)).queued (.portal i) = false := trimmed_unqueued
    have horder : (lampPass e (permitted e i p)).arb.grantOrder.getLast? = some (.portal i) := trimmed_order
    have hp' : p' = onPermit e i (lampPass e (permitted e i p)) := rfl
    have hwrote : Wrote e (PortalWrite i) (lampPass e (permitted e i p)) p' := onPermit_wrote .refl
    have hcount : q.travel.resume e.clock = counting := by
      change q.travel.resume e.clock = match q.travel with | .held ms => .since (e.clock - ms) | t => t
      cases q.travel <;> rfl
    generalize lampPass e (permitted e i p) = b at *
    have hdriven {m : Motor} (hmay : MayDrive e i { q with starved := false, permit := true }) (hm : q.wantsMotor = some m) : driven m := by
      have hpermit : (b.portals.get i).permit = true := congrArg Portal.permit hb
      have hput := hp'.trans ((onPermit_drives (hb ▸ hmay)).trans (driveOrQueue_permit hpermit))
      have hq : q' = { q with permit := true, starved := false, travel := counting } := by
        refine (congrArg (fun p : Plant => p.portals.get i) hput).trans (putPortal_get.trans ?_)
        rw [hb, ← hcount]
      refine ⟨hq, ?_, ?_⟩
      · rw [hq]
        exact hm
      · rw [hput]
        exact putPortal_queued.trans hunqueued
    have hseq : (b.portals.get i).seq = q.seq := (congrArg Portal.seq hb :)
    have hhand {m : Motor} (hs : q.seq = .hand) (hm : q.motion ≠ .none) (hc : q.motion = .gateClosing → pins.barrierLowered = true)
        (hmotor : q.wantsMotor = some m) : driven m := hdriven (mayDrive_hand hs hm hc) hmotor
    refine ⟨(congrArg List.getLast? hwrote.grantOrder).trans horder, fun hs => hdriven (mayDrive_free (.inl hs)) (by rw [Portal.wantsMotor, hs]),
      fun hs => hdriven (mayDrive_free (.inr hs)) (by rw [Portal.wantsMotor, hs]),
      fun hs hl he => hdriven (mayDrive_sealing hs hl he) (by rw [Portal.wantsMotor, hs]), fun hs hl => ?guard, fun hs hl he => ?edge,
      fun hs hg => hdriven (mayDrive_lifting hs hg) (by rw [Portal.wantsMotor, hs]), fun hs hg => ?away, fun hs => ⟨fun hm => ?_, fun hm => ?_,
        fun hm => ?_, fun hm hl => ?_, fun hm hl => ?closing⟩⟩
    case guard =>
      obtain ⟨hrecord, hqueued⟩ := guardLost_waits (e := e) (i := i) (p := b) hl
      rw [← onPermit_guard (hseq.trans hs) hl, ← hp'] at hrecord hqueued
      have hq : q' = _ := hrecord.trans (by rw [hb])
      rw [hq]
      exact ⟨rfl, rfl, rfl, rfl, rfl, hqueued⟩
    case edge =>
      have heq := hp'.trans (onPermit_edge (hseq.trans hs) (congrArg Portal.permit hb) hl he)
      have hq : q' = _ := (congrArg (fun p : Plant => p.portals.get i) heq).trans obstruct_portal
      rw [hb] at hq
      refine ⟨?_, (congrArg (fun p : Plant => p.queued (.portal i)) heq).trans obstruct_unqueued, fun hr => ?_, fun hr => ?_⟩
      · rw [hq]
        split <;> rfl
      · rw [hq, if_pos hr]
        exact ⟨hs, rfl, rfl⟩
      · rw [hq, if_neg (Nat.not_lt.mpr hr)]
        refine ⟨rfl, rfl, congrArg some hs, ?_⟩
        rw [heq]
        refine obstruct_jams ?_
        rw [hb]
        exact hr
    case away =>
      have heq := hp'.trans (onPermit_away (hseq.trans hs) hg)
      have hput : (enterStep e i .unsealing (.held 0) b).portals.get i =
          { ({ q with starved := false, permit := true } : Portal).enter .unsealing with travel := .held 0 } := by rw [enterStep_portal, hb]
      have hdrive := driveOrQueue_permit (e := e) (congrArg Portal.permit hput)
      have hq : q' = _ := (congrArg (fun p : Plant => p.portals.get i) (heq.trans hdrive)).trans putPortal_get
      rw [hput] at hq
      rw [hq]
      refine ⟨rfl, rfl, rfl, rfl, rfl, ?_⟩
      rw [heq.trans hdrive]
      exact putPortal_queued.trans (putPortal_queued.trans hunqueued)
    case closing =>
      have heq := hp'.trans (onPermit_closing (hseq.trans hs) (congrArg Portal.motion hb |>.trans hm) hl)
      have hq : q' = _ := (congrArg (fun p : Plant => p.portals.get i) heq).trans endHand_portal
      rw [hq]
      exact ⟨rfl, rfl, rfl, (congrArg (fun p : Plant => p.queued (.portal i)) heq).trans endHand_unqueued⟩
    · exact hhand hs (by rw [hm]; nofun) (by rw [hm]; nofun) (by rw [wantsMotor_hand hs, hm])
    · exact hhand hs (by rw [hm]; nofun) (by rw [hm]; nofun) (by rw [wantsMotor_hand hs, hm])
    · exact hhand hs (by rw [hm]; nofun) (by rw [hm]; nofun) (by rw [wantsMotor_hand hs, hm])
    · exact hhand hs (by rw [hm]; nofun) (fun _ => hl) (by rw [wantsMotor_hand hs, hm])

end Sys2Proof.Machine

/-! What a change of the supply state leaves of the loads, and room-making: O41. -/

namespace Sys2Proof.Machine

/-! ### Without a grant (R91 to R94) -/

/-- What acts without a grant leave of a pump's record: its start list, no new life, and a rest or a fault as it stands. -/
structure Dropped (q q' : Pump) : Prop where
  starts : q'.starts = q.starts
  live : q'.live = true → q.live = true
  rests : q.rests → q'.run = q.run ∧ q'.minRest = q.minRest

/-- No pump has been granted from the plant `a` to the plant `p`. -/
def Ungranted (a p : Plant) : Prop := ∀ i, Dropped (a.pumps.get i) (p.pumps.get i)

section Ungranted
variable {e : Env} {a b p : Plant} {i : PumpId} {k : Stop}

theorem Dropped.refl {q : Pump} : Dropped q q := ⟨rfl, id, fun _ => ⟨rfl, rfl⟩⟩

theorem Dropped.trans {q q' q'' : Pump} (h : Dropped q q') (h' : Dropped q' q'') : Dropped q q'' := by
  refine ⟨h'.starts.trans h.starts, fun hl => h.live (h'.live hl), fun hr => ?_⟩
  obtain ⟨hrun, hrest⟩ := h.rests hr
  obtain ⟨hrun', hrest'⟩ := h'.rests (by rwa [Pump.rests, hrun])
  exact ⟨hrun'.trans hrun, hrest'.trans hrest⟩

theorem Ungranted.refl : Ungranted p p := fun _ => .refl

theorem Ungranted.trans (h : Ungranted a b) (h' : Ungranted b p) : Ungranted a p := fun i => (h i).trans (h' i)

theorem Ungranted.same (h : Ungranted a b) (hp : p.pumps = b.pumps) : Ungranted a p := fun i => by
  rw [hp]
  exact h i

theorem Ungranted.put (h : Ungranted a p) {q : Pump} (hq : Dropped (a.pumps.get i) q) : Ungranted a (putPump e i q p) := by
  intro j
  rw [putPump_pumps]
  by_cases hj : j = i
  · subst hj
    rwa [PerPump.get_set]
  · rw [PerPump.get_set_ne _ _ hj]
    exact h j

/-- A pump that did not rest can be stopped. -/
theorem Ungranted.halt (h : Ungranted a p) (hi : ¬(a.pumps.get i).rests) : Ungranted a (haltPump e i k p) := by
  have hput := h.put (e := e) (i := i)
    (q := (p.pumps.get i).afterStop e.clock (e.cfg.pumps.get i).minRest (e.cfg.pumpService.get i == .inHand) k)
    ⟨(afterStop_starts ..).trans (h i).starts, fun hl => Bool.noConfusion ((afterStop_run ..).2.symm.trans hl), fun hr => absurd hr hi⟩
  exact hput.same (haltPump_fields.1.trans putPump_pumps.symm)

/-- A pump that does not rest now did not rest before. -/
theorem Ungranted.awake (h : Ungranted a p) (hi : ¬(p.pumps.get i).rests) : ¬(a.pumps.get i).rests := fun hr => hi (by
  rw [Pump.rests, ((h i).rests hr).1]
  exact hr)

theorem Ungranted.haltLive (h : Ungranted a p) (hi : (p.pumps.get i).live = true) : Ungranted a (haltPump e i k p) :=
  h.halt (h.awake fun hr => by rw [hr.dead] at hi; cases hi)

theorem Ungranted.unqueue (h : Ungranted a p) (hi : (p.pumps.get i).run = .queued) : Ungranted a (unqueuePump e i p) :=
  Ungranted.put (p := dropRequest (.pump i) p) h
    ⟨(h i).starts, fun hl => by simp [Pump.live] at hl, fun hr => absurd hr (h.awake (by rw [Pump.rests, hi]; simp))⟩

theorem Ungranted.queue (h : Ungranted a p) (hi : (p.pumps.get i).run = .stopped) : Ungranted a (queuePump e i p) := by
  refine Ungranted.same (b := putPump e i { p.pumps.get i with run := .queued } p) (h.put ?_) (joinQueue_pumps ..)
  exact ⟨(h i).starts, fun hl => by simp [Pump.live] at hl, fun hr => absurd hr (h.awake (by rw [Pump.rests, hi]; simp))⟩

theorem Ungranted.immediate (h : Ungranted a p) : Ungranted a (immediateStop e i p) := by
  simp only [immediateStop]
  split
  · split
    · exact h.haltLive (live_iff.mpr (.inl ‹_›))
    · exact h.haltLive (live_iff.mpr (.inr ‹_›))
    · exact h.unqueue ‹_›
    all_goals exact h
  · exact h

theorem Ungranted.outfall (n : Nat) : ∀ {p : Plant}, Ungranted a p → Ungranted a (outfallStops e n p) := by
  induction n with
  | zero => exact fun h => h
  | succ n ih =>
    intro p h
    simp only [outfallStops]
    split
    · split
      · exact ih (h.haltLive (latestLivePump_live ‹_›))
      · exact h
    · exact h

theorem Ungranted.halts (l : List PumpId) : ∀ {p : Plant}, Ungranted a p → (∀ i ∈ l, ¬(a.pumps.get i).rests) →
    Ungranted a (l.foldl (fun q i => haltPump e i .rest q) p) := by
  induction l with
  | nil => exact fun h _ => h
  | cons j l ih =>
    exact fun h hl => ih (h.halt (hl j List.mem_cons_self)) fun i hi => hl i (List.mem_cons_of_mem _ hi)

theorem Ungranted.standing {u : SumpId} (n : Nat) : ∀ {p : Plant}, Ungranted a p → Ungranted a (standingStops e u n p) := by
  induction n with
  | zero => exact fun h => h
  | succ n ih =>
    intro p h
    simp only [standingStops]
    split
    · exact h
    · refine ih (h.halts _ fun i hi => h.awake ?_)
      have hdue := (List.mem_filter.mp hi).2
      simp only [standingStopDue, Bool.and_eq_true, beq_iff_eq] at hdue
      rw [Pump.rests, hdue.1.1]
      simp

theorem Ungranted.duty {u : SumpId} (h : Ungranted a p) : Ungranted a (dutySump e u p) := by
  simp only [dutySump]
  refine foldl_keeps (P := Ungranted a) (fun q j hq => ?_) _ (h.standing 5)
  simp only [queueOrLeave]
  split
  · exact hq.queue ‹_›
  · exact hq.unqueue ‹_›
  · exact hq

theorem sequencers_wrote_pumps : (sequencers e p).pumps = p.pumps :=
  ((portalDemands_wrote (i := .pw) (e := e) .refl).portalPumps).trans (portalDemands_wrote (i := .pe) (e := e) .refl).portalPumps

theorem Ungranted.owners (h : Ungranted a p) : Ungranted a (ownersAct e p) := by
  have hduty : Ungranted a (dutyAll e p) := foldl_keeps (P := Ungranted a) (fun q u hq => hq.duty) _ h
  exact hduty.same (lampPass_pumps.trans sequencers_wrote_pumps)

theorem Ungranted.stops (h : Ungranted a p) : Ungranted a (outfallStops e 8 (immediateStops e p)) :=
  Ungranted.outfall 8 (foldl_keeps (P := Ungranted a) (fun _ _ hq => hq.immediate) _ h)

theorem dropPumps_ungranted : Ungranted p (dropPumps e p) := by
  refine foldl_keeps (P := Ungranted p) (fun q i hq => ?_) _ .refl
  split
  · exact hq.haltLive ‹_›
  · exact hq

end Ungranted

/-! ### Every live pump has just been granted (R94) -/

/-- Each live pump has been granted at this instant. -/
def JustGranted (now : Nat) (p : Plant) : Prop := ∀ i, (p.pumps.get i).live = true → (p.pumps.get i).starts.getLast? = some now

section JustGranted
variable {e : Env} {a p : Plant} {r : Request} {u : UnitId}

theorem JustGranted.ungranted {now : Nat} (h : JustGranted now a) (hu : Ungranted a p) : JustGranted now p := fun i hl => by
  rw [(hu i).starts]
  exact h i ((hu i).live hl)

theorem addStart_last {now : Nat} {l : List Nat} : (addStart now l).getLast? = some now := by
  simp [addStart]

theorem JustGranted.grantPump (h : JustGranted e.clock p) {i : PumpId} : JustGranted e.clock (grantPump e i p) := by
  intro j hl
  obtain ⟨-, -, hother⟩ := grantPump_frame (e := e) (i := i) (p := p)
  by_cases hj : j = i
  · subst hj
    rw [grantPump_record]
    dsimp only
    split
    · exact addStart_last
    · split <;> exact addStart_last
  · rw [hother j hj, lampPass_pumps, started_pumps, PerPump.get_set_ne _ _ hj] at hl ⊢
    exact h j hl

theorem JustGranted.grant (h : JustGranted e.clock p) (hr : r ∈ p.arb.queue) (hf : fits e p r = true) :
    JustGranted e.clock (grantRequest e r p) := by
  obtain ⟨i, he, -⟩ | ⟨i, he, -⟩ := fits_cases hr hf
  · rw [he]
    exact h.grantPump
  · rw [he]
    refine h.ungranted (Ungranted.refl.same ?_)
    exact (onPermit_wrote (e := e) .refl).portalPumps.trans (lampPass_pumps.trans permitted_pumps)

theorem JustGranted.settlePlant (h : JustGranted e.clock p) : JustGranted e.clock (settlePlant e p) :=
  grantPass_induct (P := JustGranted e.clock) (fun _ _ hq hr hf => (hq.grant hr hf).ungranted Ungranted.refl.owners) 40
    (h.ungranted (Ungranted.refl.stops.owners))

theorem starve_ungranted : Ungranted p (starve e u p) := by
  simp only [starve]
  split
  · exact Ungranted.refl.put ⟨rfl, id, fun _ => ⟨rfl, rfl⟩⟩
  · exact Ungranted.refl.same putPortal_pumps
  · exact .refl

theorem checkWaits_ungranted : Ungranted p (checkWaits e p) :=
  foldl_keeps (P := Ungranted p) (f := fun a r => starve e (Request.unit r) a) (fun _ _ h => h.trans starve_ungranted) _ .refl

/-- A change of supply drops every pump before any is granted (R100, R101). -/
theorem changeSupply_justGranted {v : Supply} : JustGranted e.clock (changeSupply e v p) := by
  refine JustGranted.settlePlant fun i hl => ?_
  rw [dropZones_pumps.1, dropPermits, withdrawPermits_pumps, dropPumps_live] at hl
  cases hl

theorem regrouped_justGranted (h : transferDue e p = true) : JustGranted e.clock (regrouped e p) := by
  obtain ⟨hsupply, htransfer⟩ := settlePlant_supply (e := e) (p := p)
  have hdue : transferDue e (settlePlant e p) = true := (transferDue_congr hsupply htransfer).trans h
  refine JustGranted.ungranted (a := checkSpacing e (checkTransfer e (settlePlant e p))) ?_ checkWaits_ungranted
  rw [checkTransfer, if_pos hdue, checkSpacing]
  split
  · exact JustGranted.settlePlant (p := { changeSupply e .dark (settlePlant e p) with arb := _ }) changeSupply_justGranted
  · exact changeSupply_justGranted

end JustGranted

/-! ### Without power (R99 to R101) -/

/-- The blocks have acted from the plant `a` to the plant `p` without a grant. -/
structure Quiet (a p : Plant) : Prop where
  pumps : Ungranted a p
  permits : ∀ i, (p.portals.get i).permit = true → (a.portals.get i).permit = true
  order : p.arb.grantOrder = a.arb.grantOrder
  spacing : p.arb.spacing = a.arb.spacing
  supply : p.arb.supply = a.arb.supply

section Quiet
variable {e : Env} {a b p : Plant} {r : Request} {i : PortalId} {z : ZoneId} {v : Supply}

theorem Quiet.trans (h : Quiet a b) (h' : Quiet b p) : Quiet a p :=
  ⟨h.pumps.trans h'.pumps, fun i hi => h.permits i (h'.permits i hi), h'.order.trans h.order, h'.spacing.trans h.spacing,
    h'.supply.trans h.supply⟩

theorem Wrote.pumpArb (h : Wrote e PumpWrite a p) : p.arb.grantOrder = a.arb.grantOrder ∧ p.arb.spacing = a.arb.spacing := by
  refine h.induct (P := fun q => q.arb.grantOrder = a.arb.grantOrder ∧ q.arb.spacing = a.arb.spacing) (fun q w hw hq => ?_) ⟨rfl, rfl⟩
  cases w with
  | pump j r => simpa [PlantWrite.run] using hq
  | join u => simpa [PlantWrite.run] using hq
  | drop u => exact hq
  | lead u => exact hq
  | raise c => exact hq
  | _ => exact hw.elim

theorem Wrote.pumpZones (h : Wrote e PumpWrite a p) : p.zones = a.zones :=
  h.stands (f := Plant.zones) fun q w hw => by
    cases w with
    | pump j r => exact putPump_zones ..
    | join u => exact joinQueue_zones ..
    | drop u => rfl
    | lead u => rfl
    | raise c => rfl
    | _ => exact hw.elim

theorem Wrote.portalSpacing (h : Wrote e (PortalWrite i) a p) : p.arb.spacing = a.arb.spacing :=
  h.stands (f := fun q => q.arb.spacing) fun q w hw => by
    cases w with
    | portal j r => exact congrArg Arbiter.spacing (putPortal_arb ..)
    | join u => simp [PlantWrite.run]
    | drop u => rfl
    | raise c => rfl
    | _ => exact hw.elim

/-- Acts of Pump Duty without a grant. -/
theorem Quiet.ofPumps (h : Wrote e PumpWrite a p) (hu : Ungranted a p) : Quiet a p :=
  ⟨hu, fun i hi => by rwa [h.pumpPortals] at hi, h.pumpArb.1, h.pumpArb.2, h.supply.1⟩

theorem Quiet.ofPortals (h : Wrote e (PortalWrite i) a p) : Quiet a p :=
  ⟨Ungranted.refl.same h.portalPumps, h.permit, h.grantOrder, h.portalSpacing, h.supply.1⟩

theorem sequencers_quiet : Quiet p (sequencers e p) ∧ (sequencers e p).zones = p.zones := by
  have hpe := portalDemands_wrote (i := .pe) (e := e) (p := p) .refl
  have hpw := portalDemands_wrote (i := .pw) (e := e) (p := portalDemands e .pe p) .refl
  exact ⟨(Quiet.ofPortals hpe).trans (.ofPortals hpw), hpw.portalZones.trans hpe.portalZones⟩

theorem lampPass_quiet : Quiet p (lampPass e p) :=
  ⟨Ungranted.refl.same lampPass_pumps, fun i hi => by rwa [lampPass_portals] at hi, by rw [lampPass_arb], by rw [lampPass_arb],
    by rw [lampPass_arb]⟩

/-- Without power no zone is given anything, and one that is off stays off (R113, R114). -/
theorem lampPass_dark (hz : z ∈ budgetZones) (hp : p.arb.supply.powered = false) (ho : (p.zones.get z).output = 0) :
    ((lampPass e p).zones.get z).output = 0 ∧ ((lampPass e p).zones.get z).allowance = 0 := by
  have hallow : (allowances e p).get z = 0 := allowances_unpowered hp hz
  refine ⟨?_, lampPass_allowance.trans hallow⟩
  rw [lampPass_output, hallow]
  have ho' : (retarget e p z (p.zones.get z)).output = 0 := ho
  by_cases hoff : p.locked (.zone z) = true ∨ e.cfg.zoneService.get z = .outOfService
  · exact zoneOutput_off hoff
  · rw [not_or, Bool.not_eq_true] at hoff
    cases hs : e.cfg.zoneService.get z with
    | outOfService => exact absurd hs hoff.2
    | inHand =>
      rw [zoneOutput_hand hz hs hoff.1]
      exact Nat.min_zero _
    | inService =>
      rw [zoneOutput_ramps (ramps_iff.mpr ⟨budgeted_ne hz, hs, hoff.1⟩)]
      cases hf : followsAtOnce p z with
      | true =>
        rw [rampingOutput_follows hf]
        exact Nat.min_zero _
      | false =>
        rw [rampingOutput_else hf, protectedLevel, hp, ho', Nat.zero_min, ite_self]
        rfl

theorem ownersAct_quiet : Quiet p (ownersAct e p) :=
  ((Quiet.ofPumps (dutyAll_wrote .refl) (foldl_keeps (P := Ungranted p) (fun _ _ hq => hq.duty) _ .refl)).trans sequencers_quiet.1).trans
    lampPass_quiet

theorem ownersAct_dark (hz : z ∈ budgetZones) (hp : p.arb.supply.powered = false) (ho : (p.zones.get z).output = 0) :
    ((ownersAct e p).zones.get z).output = 0 ∧ ((ownersAct e p).zones.get z).allowance = 0 := by
  have hduty : Wrote e PumpWrite p (dutyAll e p) := dutyAll_wrote .refl
  obtain ⟨hquiet, hzones⟩ := sequencers_quiet (e := e) (p := dutyAll e p)
  refine lampPass_dark hz ?_ ?_
  · rw [hquiet.supply, hduty.supply.1]
    exact hp
  · rw [hzones, hduty.pumpZones]
    exact ho

theorem stops_wrote : Wrote e PumpWrite p (outfallStops e 8 (immediateStops e p)) := outfallStops_wrote 8 (immediateStops_wrote .refl)

/-- Loads of at least 1 kW (R97, 6.10). -/
structure Loaded (e : Env) : Prop where
  pumps : ∀ i, 1 ≤ (e.cfg.pumps.get i).load
  portals : ∀ i, 1 ≤ (e.cfg.portals.get i).motorKw

/-- Without power nothing fits. -/
theorem fits_unpowered (hl : Loaded e) (hp : p.arb.supply.powered = false) : fits e p r = false := by
  have hbudget : budget e p = 0 := by
    cases hs : p.arb.supply <;> rw [budget, hs] <;> first | rfl | (rw [hs] at hp; cases hp)
  rw [Bool.eq_false_iff]
  intro hf
  obtain ⟨u, joined, wait⟩ := r
  cases u with
  | pump i =>
    have := ((fits_pump rfl).mp hf).1
    have := hl.pumps i
    omega
  | portal k =>
    have := (fits_portal rfl).mp hf
    have := hl.portals k
    omega
  | zone z => simp [fits] at hf
  | outfall => simp [fits] at hf

/-- Without power the blocks act without a grant. -/
theorem settlePlant_unpowered (hl : Loaded e) (hp : p.arb.supply.powered = false) :
    settlePlant e p = refreshConditions e (ownersAct e (outfallStops e 8 (immediateStops e p))) := by
  refine congrArg (refreshConditions e) (grantPass_stops fun r _ => fits_unpowered hl ?_)
  rw [ownersAct_quiet.supply, stops_wrote.supply.1]
  exact hp

theorem settlePlant_quiet (hl : Loaded e) (hp : p.arb.supply.powered = false) : Quiet p (settlePlant e p) := by
  rw [settlePlant_unpowered hl hp]
  have h : Quiet p (ownersAct e (outfallStops e 8 (immediateStops e p))) :=
    (Quiet.ofPumps (stops_wrote (e := e)) Ungranted.refl.stops).trans ownersAct_quiet
  exact ⟨h.pumps, h.permits, h.order, h.spacing, h.supply⟩

theorem settlePlant_dark (hl : Loaded e) (hp : p.arb.supply.powered = false) (hz : z ∈ budgetZones) (ho : (p.zones.get z).output = 0) :
    ((settlePlant e p).zones.get z).output = 0 ∧ ((settlePlant e p).zones.get z).allowance = 0 := by
  rw [settlePlant_unpowered hl hp]
  refine ownersAct_dark hz ?_ ?_
  · rw [stops_wrote.supply.1]
    exact hp
  · rw [stops_wrote.pumpZones]
    exact ho

end Quiet

/-! ### Into TRANSFER and DARK (R100) -/

/-- Every budgeted load is off, and no pump has been granted since `a`. -/
structure Darkened (a p : Plant) : Prop where
  pumps : Ungranted a p
  dead : ∀ i, (p.pumps.get i).live = false
  permits : ∀ i, (p.portals.get i).permit = false
  zones : ∀ z ∈ budgetZones, (p.zones.get z).output = 0 ∧ (p.zones.get z).allowance = 0

section Darkened
variable {e : Env} {a b p : Plant} {v : Supply}

theorem Darkened.load (h : Darkened a p) : nonLampLoad e p + lampLoad e p = 0 := by
  have hlamps : lampLoad e p = 0 := by
    rw [lampLoad, List.sum_eq_zero_iff]
    intro n hn
    obtain ⟨z, hz, rfl⟩ := List.mem_map.mp hn
    rw [(h.zones z hz).1]
    simp [zoneLoad, ceilDiv]
  rw [nonLampLoad_zero h.dead h.permits, hlamps]

theorem Darkened.settle (h : Darkened a p) (hl : Loaded e) (hp : p.arb.supply.powered = false) : Darkened a (settlePlant e p) := by
  have hq := settlePlant_quiet hl hp
  refine ⟨h.pumps.trans hq.pumps, fun i => ?_, fun i => ?_, fun z hz => settlePlant_dark hl hp hz (h.zones z hz).1⟩
  · exact Bool.eq_false_iff.mpr fun hi => Bool.eq_false_iff.mp (h.dead i) ((hq.pumps i).live hi)
  · exact Bool.eq_false_iff.mpr fun hi => Bool.eq_false_iff.mp (h.permits i) (hq.permits i hi)

theorem dropZones_output {z : ZoneId} (hz : z ∈ budgetZones) : ((dropZones e p).zones.get z).output = 0 := by
  have hall : ∀ l : List ZoneId, ∀ q : Plant, (z ∈ l ∨ (q.zones.get z).output = 0) →
      ((l.foldl (fun a z => putZone e z ((a.zones.get z).setOutput e.clock 0) a) q).zones.get z).output = 0 := by
    intro l
    induction l with
    | nil => exact fun q hq => hq.resolve_left List.not_mem_nil
    | cons y l ih =>
      intro q hq
      refine ih _ ?_
      by_cases hy : z = y
      · subst hy
        refine .inr ?_
        rw [putZone_zones, PerZone.get_set]
        rfl
      · refine hq.imp (fun hm => (List.mem_cons.mp hm).resolve_left hy) fun hq => ?_
        rw [putZone_zones, PerZone.get_set_ne _ _ hy]
        exact hq
  exact hall _ _ (.inl hz)

theorem dropZones_arb : (dropZones e p).arb = p.arb :=
  foldl_keeps (P := fun q => q.arb = p.arb) (f := fun a z => putZone e z ((a.zones.get z).setOutput e.clock 0) a)
    (fun _ _ h => (putZone_arb ..).trans h) _ rfl

theorem withdrawPermits_order {l : List PortalId} : (withdrawPermits e l p).arb.grantOrder = p.arb.grantOrder ∧
    (withdrawPermits e l p).arb.spacing = p.arb.spacing :=
  foldl_keeps (P := fun q => q.arb.grantOrder = p.arb.grantOrder ∧ q.arb.spacing = p.arb.spacing) (f := fun a i => withdrawPermit e i a)
    (fun q i h => ⟨(withdrawPermit_wrote (e := e) (i := i) (p := q) .refl).grantOrder.trans h.1,
      (withdrawPermit_wrote (e := e) (i := i) (p := q) .refl).portalSpacing.trans h.2⟩) _ ⟨rfl, rfl⟩

/-- Every permit that its grant has noted is withdrawn. -/
theorem dropPermits_permit (h : ∀ i, (p.portals.get i).permit = true → UnitId.portal i ∈ p.arb.grantOrder) (i : PortalId) :
    ((dropPermits e p).portals.get i).permit = false := by
  rw [dropPermits, withdrawPermits_permit]
  cases hp : (p.portals.get i).permit with
  | false => exact Bool.and_false _
  | true =>
    have hmem : i ∈ permitHolders p := List.mem_filterMap.mpr ⟨.portal i, h i hp, by simp [hp]⟩
    simp [hmem]

/-- A change into TRANSFER or DARK leaves no load, and the spacing as it stands. -/
theorem changeSupply_dark (hl : Loaded e) (hv : v.powered = false)
    (hnoted : ∀ i, (p.portals.get i).permit = true → UnitId.portal i ∈ p.arb.grantOrder) :
    Darkened p (changeSupply e v p) ∧ (changeSupply e v p).arb.spacing = p.arb.spacing := by
  have hdrop : Wrote e PumpWrite (setSupply e v p) (dropPumps e (setSupply e v p)) := dropPumps_wrote .refl
  have hsupply : (dropZones e (dropPermits e (dropPumps e (setSupply e v p)))).arb.supply.powered = false := by
    rw [(dropLoads_wrote (e := e) (p := setSupply e v p)).supply.1]
    exact hv
  have hquiet := settlePlant_quiet hl hsupply
  have hdropped (i : PumpId) : ((dropZones e (dropPermits e (dropPumps e (setSupply e v p)))).pumps.get i).live = false := by
    rw [dropZones_pumps.1, dropPermits, withdrawPermits_pumps]
    exact dropPumps_live i
  have hpumps : Ungranted p (dropZones e (dropPermits e (dropPumps e (setSupply e v p)))) := by
    refine Ungranted.same (b := dropPumps e (setSupply e v p)) ?_ (dropZones_pumps.1.trans withdrawPermits_pumps)
    exact Ungranted.trans (b := setSupply e v p) (Ungranted.refl.same rfl) dropPumps_ungranted
  have hpermits (i : PortalId) : ((dropZones e (dropPermits e (dropPumps e (setSupply e v p)))).portals.get i).permit = false := by
    rw [dropZones_pumps.2]
    refine dropPermits_permit (fun i hi => ?_) i
    rw [hdrop.pumpArb.1]
    rw [hdrop.pumpPortals] at hi
    exact hnoted i hi
  refine ⟨⟨hpumps.trans hquiet.pumps, fun i => ?_, fun i => ?_, fun z hz => settlePlant_dark hl hsupply hz (dropZones_output hz)⟩, ?_⟩
  · exact Bool.eq_false_iff.mpr fun hi => Bool.eq_false_iff.mp (hdropped i) ((hquiet.pumps i).live hi)
  · exact Bool.eq_false_iff.mpr fun hi => Bool.eq_false_iff.mp (hpermits i) (hquiet.permits i hi)
  · refine hquiet.spacing.trans ?_
    rw [dropZones_arb, dropPermits, withdrawPermits_order.2, hdrop.pumpArb.2]
    rfl

/-- What the checks of the waits leave of the loads. -/
theorem Darkened.waits (h : Darkened a p) : Darkened a (checkWaits e p) := by
  have hframe : (checkWaits e p).zones = p.zones ∧ ∀ i, ((checkWaits e p).portals.get i).permit = (p.portals.get i).permit := by
    refine foldl_keeps (P := fun q => q.zones = p.zones ∧ ∀ i, (q.portals.get i).permit = (p.portals.get i).permit)
      (f := fun a r => starve e (Request.unit r) a) (fun q r hq => ?_) _ ⟨rfl, fun _ => rfl⟩
    cases r.unit with
    | pump i => exact ⟨(putPump_zones ..).trans hq.1, fun j => (congrArg (fun t => (PerPortal.get t j).permit) (putPump_portals ..)).trans (hq.2 j)⟩
    | portal i =>
      refine ⟨(putPortal_zones ..).trans hq.1, fun j => Eq.trans ?_ (hq.2 j)⟩
      simp only [starve, raiseCause_portals, putPortal_portals]
      by_cases hj : j = i
      · subst hj
        rw [PerPortal.get_set]
      · rw [PerPortal.get_set_ne _ _ hj]
    | _ => exact hq
  refine ⟨h.pumps.trans checkWaits_ungranted, fun i => ?_, fun i => (hframe.2 i).trans (h.permits i), fun z hz => ?_⟩
  · exact Bool.eq_false_iff.mpr fun hi => Bool.eq_false_iff.mp (h.dead i) ((checkWaits_ungranted (e := e) i).live hi)
  · rw [hframe.1]
    exact h.zones z hz

/-- A SET SUPPLY CONFIG whose transfer limit the timer has already reached (R105). -/
theorem regrouped_dark (hl : Loaded e) (hdue : transferDue e p = true)
    (hnoted : ∀ i, (p.portals.get i).permit = true → UnitId.portal i ∈ p.arb.grantOrder) :
    Darkened p (regrouped e p) ∧ ((regrouped e p).arb.spacing = p.arb.spacing ∨ (regrouped e p).arb.spacing = .stopped) := by
  have htransfer : p.arb.supply.powered = false := by rw [(transferDue_iff.mp hdue).1]; rfl
  have hquiet := settlePlant_quiet hl htransfer
  have hdue' : transferDue e (settlePlant e p) = true := (transferDue_congr settlePlant_supply.1 settlePlant_supply.2).trans hdue
  obtain ⟨hdark, hspacing⟩ := changeSupply_dark (e := e) (v := .dark) (p := settlePlant e p) hl rfl fun i hi => by
    rw [hquiet.order]
    exact hnoted i (hquiet.permits i hi)
  have hdark' : Darkened p (changeSupply e .dark (settlePlant e p)) := ⟨hquiet.pumps.trans hdark.pumps, hdark.dead, hdark.permits, hdark.zones⟩
  have hsupply : (changeSupply e .dark (settlePlant e p)).arb.supply.powered = false := by rw [changeSupply_arb.1]; rfl
  have hchecked : checkTransfer e (settlePlant e p) = changeSupply e .dark (settlePlant e p) := if_pos hdue'
  have hspacing' := hspacing.trans hquiet.spacing
  rw [regrouped, hchecked, checkWaits_frame.1]
  generalize changeSupply e .dark (settlePlant e p) = b at hdark' hsupply hspacing'
  have hended : Darkened p { b with arb := { b.arb with spacing := .stopped } } := ⟨hdark'.pumps, hdark'.dead, hdark'.permits, hdark'.zones⟩
  by_cases hspace : spacingDue e b = true
  · rw [checkSpacing, if_pos hspace]
    exact ⟨(hended.settle hl hsupply).waits, .inr (settlePlant_quiet (p := { b with arb := { b.arb with spacing := .stopped } }) hl hsupply).spacing⟩
  · rw [checkSpacing, if_neg hspace]
    exact ⟨hdark'.waits, .inl hspacing'⟩

end Darkened

end Sys2Proof.Machine

/-! How permits are withdrawn and room is made: O41. -/

namespace Sys2Proof.Machine

/-! ### Permits are withdrawn (R100, R121) -/

section Withdrawn
variable {e : Env} {p : Plant} {i j : PortalId}

theorem withdrawPermit_queue (hp : (p.portals.get i).permit = true) (hq : p.queued (.portal i) = false) :
    (withdrawPermit e i p).arb.queue = p.arb.queue ++ [⟨.portal i, e.clock, freshWait e p⟩] := by
  have hput : (putPortal e i { p.portals.get i with permit := false, travel := (p.portals.get i).travel.pause e.clock } p).queued (.portal i) =
      false := putPortal_queued.trans hq
  rw [withdrawPermit, if_pos hp, joinQueue, if_neg (by rw [hput]; nofun)]
  simp only [putPortal_arb, freshWait]

/-- The permits of a list of portals go in its order. -/
theorem withdrawPermits_queue {l : List PortalId} (hl : l.Nodup) : ∀ {p : Plant},
    (∀ i ∈ l, (p.portals.get i).permit = true ∧ p.queued (.portal i) = false) →
    (withdrawPermits e l p).arb.queue.map Request.unit = p.arb.queue.map Request.unit ++ l.map UnitId.portal ∧
      ∀ i ∈ l, (withdrawPermits e l p).portals.get i = (withdrawPermit e i p).portals.get i := by
  induction l with
  | nil => exact fun _ => ⟨(List.append_nil _).symm, fun i hi => absurd hi List.not_mem_nil⟩
  | cons j l ih =>
    intro p h
    obtain ⟨hj, hl⟩ := List.nodup_cons.mp hl
    obtain ⟨hpermit, hqueued⟩ := h j List.mem_cons_self
    have hqueue := withdrawPermit_queue (e := e) hpermit hqueued
    have hother (i : PortalId) (hi : i ≠ j) : (withdrawPermit e j p).portals.get i = p.portals.get i :=
      (withdrawPermit_wrote (e := e) (i := j) .refl).otherPortal hi
    obtain ⟨hrest, hrecords⟩ := ih hl (p := withdrawPermit e j p) fun i hi => by
      have hij : i ≠ j := fun he => hj (he ▸ hi)
      obtain ⟨hpi, hqi⟩ := h i (List.mem_cons_of_mem _ hi)
      refine ⟨by rw [hother i hij]; exact hpi, Bool.eq_false_iff.mpr fun hq => ?_⟩
      rw [queued_iff, hqueue, List.map_append, List.mem_append, ← queued_iff, hqi] at hq
      exact hq.elim nofun fun hm => hij (UnitId.portal.inj (List.mem_singleton.mp hm))
    refine ⟨?_, fun i hi => ?_⟩
    · refine hrest.trans ?_
      rw [hqueue, List.map_append, List.append_assoc]
      rfl
    · by_cases hij : i = j
      · subst hij
        have hkept : ∀ l : List PortalId, i ∉ l → ∀ q : Plant, (withdrawPermits e l q).portals.get i = q.portals.get i := by
          intro l
          induction l with
          | nil => exact fun _ _ => rfl
          | cons k l ih =>
            intro hk q
            rw [List.mem_cons, not_or] at hk
            exact (ih hk.2 _).trans ((withdrawPermit_wrote (e := e) (i := k) .refl).otherPortal hk.1)
        exact hkept l hj _
      · refine (hrecords i ((List.mem_cons.mp hi).resolve_left hij)).trans ?_
        rw [withdrawPermit_portal, withdrawPermit_portal, hother i hij]

/-- The unit is a portal that holds its permit. -/
def holdsPermit (p : Plant) : UnitId → Bool
  | .portal i => (p.portals.get i).permit
  | _ => false

theorem permitHolders_eq : (permitHolders p).map UnitId.portal = p.arb.grantOrder.filter (holdsPermit p) := by
  rw [permitHolders]
  induction p.arb.grantOrder with
  | nil => rfl
  | cons u l ih =>
    cases u with
    | portal i => cases hp : (p.portals.get i).permit <;> simp [holdsPermit, hp, ih]
    | _ => simpa [holdsPermit] using ih

theorem mem_permitHolders_iff : i ∈ permitHolders p ↔ UnitId.portal i ∈ p.arb.grantOrder ∧ (p.portals.get i).permit = true := by
  have hmem : UnitId.portal i ∈ (permitHolders p).map UnitId.portal ↔ i ∈ permitHolders p := by simp
  rw [← hmem, permitHolders_eq, List.mem_filter]
  rfl

theorem permitHolders_nodup (h : p.arb.grantOrder.Nodup) : (permitHolders p).Nodup :=
  List.Nodup.of_map UnitId.portal (by rw [permitHolders_eq]; exact h.filter _)

end Withdrawn

/-! ### Room-making (R104) -/

section Room
variable {e : Env} {p : Plant} {i : PumpId} {k j : PortalId} {n : Nat} {before after : List UnitId}

/-- The live pump that a grant's unit names. -/
def liveOf (p : Plant) : UnitId → Option PumpId
  | .pump i => if (p.pumps.get i).live then some i else none
  | _ => none

theorem latestLivePump_liveOf : latestLivePump p = p.arb.grantOrder.reverse.findSome? (liveOf p) := rfl

theorem latestLivePump_eq (h : p.arb.grantOrder = before ++ .pump i :: after) (hl : (p.pumps.get i).live = true)
    (hafter : ∀ j, UnitId.pump j ∈ after → (p.pumps.get j).live = false) : latestLivePump p = some i := by
  have hnone : after.reverse.findSome? (liveOf p) = none := by
    rw [List.findSome?_eq_none_iff]
    intro u hu
    cases u with
    | pump j => simp [liveOf, hafter j (List.mem_reverse.mp hu)]
    | _ => rfl
  rw [latestLivePump_liveOf, h, List.reverse_append, List.reverse_cons, List.append_assoc, List.findSome?_append, hnone]
  simp [liveOf, hl]

theorem latestLivePump_none (h : ∀ j, (p.pumps.get j).live = false) : latestLivePump p = none := by
  cases hlatest : latestLivePump p with
  | none => rfl
  | some i =>
    have hlive := latestLivePump_live hlatest
    rw [h i] at hlive
    cases hlive

theorem latestLivePump_some (hnoted : ∀ i, (p.pumps.get i).live = true → UnitId.pump i ∈ p.arb.grantOrder) (hl : (p.pumps.get i).live = true) :
    latestLivePump p ≠ none := by
  intro hnone
  rw [latestLivePump_liveOf, List.findSome?_eq_none_iff] at hnone
  have := hnone (.pump i) (List.mem_reverse.mpr (hnoted i hl))
  simp [liveOf, hl] at this

theorem overfull_iff : overfull e p = true ↔ p.arb.supply.powered = true ∧ budget e p < nonLampLoad e p + shedReservation e.cfg := by
  simp [overfull]

theorem makeRoom_done (h : ¬overfull e p = true) : makeRoom e n p = p := by
  cases n with
  | zero => rfl
  | succ n => exact if_neg h

theorem makeRoom_pump (h : overfull e p = true) (hi : latestLivePump p = some i) :
    makeRoom e (n + 1) p = makeRoom e n (haltPump e i .rest p) := by
  simp only [makeRoom, if_pos h, hi]

theorem makeRoom_permits (h : overfull e p = true) (hi : latestLivePump p = none) :
    makeRoom e (n + 1) p = withdrawPermits e (permitsForRoom e p (permitHolders p)) p := by
  simp only [makeRoom, if_pos h, hi]

/-- There are two portals. -/
theorem portal_pair {x y : PortalId} (hx : x ≠ k) (hy : y ≠ k) : x = y := by
  cases x <;> cases y <;> cases k <;> first | rfl | exact absurd rfl hx | exact absurd rfl hy

/-- The most recently granted permit is the last of its holders. -/
theorem permitHolders_last (hn : p.arb.grantOrder.Nodup) (h : p.arb.grantOrder = before ++ .portal k :: after)
    (hp : (p.portals.get k).permit = true) (hafter : ∀ j, UnitId.portal j ∈ after → (p.portals.get j).permit = false) :
    permitHolders p = [k] ∧ (∀ j, UnitId.portal j ∈ before → (p.portals.get j).permit = false) ∨
      ∃ j, j ≠ k ∧ permitHolders p = [j, k] ∧ UnitId.portal j ∈ before ∧ (p.portals.get j).permit = true := by
  have hmem (j : PortalId) (hj : j ≠ k) : j ∈ permitHolders p ↔ UnitId.portal j ∈ before ∧ (p.portals.get j).permit = true := by
    rw [mem_permitHolders_iff, h, List.mem_append, List.mem_cons]
    refine ⟨?_, fun ⟨hb, hpj⟩ => ⟨.inl hb, hpj⟩⟩
    rintro ⟨hb | he | ha, hpj⟩
    · exact ⟨hb, hpj⟩
    · exact absurd (UnitId.portal.inj he) hj
    · rw [hafter j ha] at hpj
      cases hpj
  have hlast : ∃ l, permitHolders p = l ++ [k] := by
    have hnone : after.filter (holdsPermit p) = [] := List.filter_eq_nil_iff.mpr fun u hu => by
      cases u with
      | portal j => simp [holdsPermit, hafter j hu]
      | _ => simp [holdsPermit]
    have hsplit := permitHolders_eq (p := p)
    rw [h, List.filter_append, List.filter_cons_of_pos (show holdsPermit p (.portal k) = true from hp), hnone] at hsplit
    obtain ⟨l, l', hl, -, hl'⟩ := List.map_eq_append_iff.mp hsplit
    obtain ⟨x, rfl, hx⟩ := List.map_eq_singleton_iff.mp hl'
    rw [UnitId.portal.inj hx] at hl
    exact ⟨l, hl⟩
  obtain ⟨l, hl⟩ := hlast
  have hnodup := permitHolders_nodup hn
  rw [hl, List.nodup_append] at hnodup
  obtain ⟨hnodup, -, hdisjoint⟩ := hnodup
  have hne (x : PortalId) (hx : x ∈ l) : x ≠ k := hdisjoint x hx k (List.mem_singleton_self k)
  match l with
  | [] =>
    refine .inl ⟨hl, fun j hj => Bool.eq_false_iff.mpr fun hpj => ?_⟩
    have hjk : j ≠ k := by
      rintro rfl
      rw [h] at hn
      exact (List.nodup_append.mp hn).2.2 _ hj _ List.mem_cons_self rfl
    have hj := (hmem j hjk).mpr ⟨hj, hpj⟩
    rw [hl] at hj
    exact hjk (List.mem_singleton.mp hj)
  | [x] =>
    have hxk := hne x List.mem_cons_self
    exact .inr ⟨x, hxk, hl, (hmem x hxk).mp (hl ▸ List.mem_cons_self)⟩
  | x :: y :: l =>
    refine absurd (portal_pair (hne x List.mem_cons_self) (hne y (List.mem_cons_of_mem _ List.mem_cons_self))) ?_
    rintro rfl
    exact (List.nodup_cons.mp hnodup).1 List.mem_cons_self

theorem permitsForRoom_one (h : overfull e p = true) : permitsForRoom e p [k] = [k] := if_pos h

theorem permitsForRoom_two (h : overfull e p = true) : permitsForRoom e p [j, k] =
    if overfull e (withdrawPermit e k p) = true then [j, k] else [k] := by
  have hone := permitsForRoom_one (k := k) h
  simp only [permitsForRoom] at hone ⊢
  rw [hone]
  rfl

theorem withdrawPermit_budget : budget e (withdrawPermit e k p) = budget e p := by
  rw [budget, (withdrawPermit_wrote (e := e) (i := k) .refl).supply.1, budget]

/-- With every grant noted and more rounds than live pumps, room-making ends with room. -/
theorem makeRoom_noted (hshed : p.arb.supply.powered = true → shedReservation e.cfg ≤ budget e p)
    (hpermits : ∀ i, (p.portals.get i).permit = true → UnitId.portal i ∈ p.arb.grantOrder)
    (hpumps : ∀ i, (p.pumps.get i).live = true → UnitId.pump i ∈ p.arb.grantOrder) (hn : liveCount p < n) :
    overfull e (makeRoom e n p) = false := by
  induction n generalizing p with
  | zero => omega
  | succ n ih =>
    by_cases hfull : overfull e p = true
    · cases hlatest : latestLivePump p with
      | some i =>
        have hlive := latestLivePump_live hlatest
        obtain ⟨hset, hportals, -, harb⟩ := haltPump_fields (e := e) (p := p) (i := i) (k := .rest)
        have hcount := liveCount_halt (e := e) (k := .rest) hlive
        rw [makeRoom_pump hfull hlatest]
        refine ih (by rw [budget, harb]; exact hshed) (by rw [hportals, harb]; exact hpermits) (fun j hj => ?_) (by omega)
        rw [harb]
        refine hpumps j ?_
        by_cases hji : j = i
        · rw [hji]
          exact hlive
        · rwa [haltPump_other hji] at hj
      | none =>
        rw [makeRoom_permits hfull hlatest]
        refine permitsForRoom_fits (Bool.eq_false_iff.mpr fun hover => ?_)
        obtain ⟨hp, hlt⟩ := overfull_iff.mp hover
        have hdead (i : PumpId) : (p.pumps.get i).live = false :=
          Bool.eq_false_iff.mpr fun hl => latestLivePump_some hpumps hl hlatest
        have hzero : nonLampLoad e (withdrawPermits e (permitHolders p) p) = 0 :=
          nonLampLoad_zero (fun i => by rw [withdrawPermits_pumps]; exact hdead i) (dropPermits_permit hpermits)
        have hsupply : (withdrawPermits e (permitHolders p) p).arb.supply = p.arb.supply := (withdrawPermits_wrote .refl).supply.1
        rw [hsupply] at hp
        have hle := hshed hp
        rw [hzero, budget, hsupply, ← budget] at hlt
        omega
    · rw [makeRoom_done hfull]
      exact Bool.eq_false_iff.mpr hfull

end Room

/-! ### The commands that change the supply state -/

section Commands
variable {s t : State} {l : Link} {kind tag : Byte} {body : List Byte} {f : State → State × Answer}

/-- A port leaves the plant and the environment to the request's owner. -/
theorem takeRequest_plant : ((takeRequest l kind tag f s).plant = (f s).1.plant ∧ (takeRequest l kind tag f s).env = (f s).1.env) ∨
    (takeRequest l kind tag f s).plant = s.plant := by
  simp only [takeRequest]
  split
  · exact .inl ⟨rfl, rfl⟩
  · exact .inr rfl
  · exact .inr rfl
  · exact .inr rfl

/-- What holds of the state before and of what its owner leaves holds after a guarded request. -/
theorem guarded_state {P : State → Prop} {checks : List (Bool × Code)} (hs : P s) (hf : P (f s).1) : P (guarded checks f s).1 := by
  obtain ⟨c, -, he⟩ | ⟨-, he⟩ := guarded_cases (s := s) (f := f) checks
  · rw [he]
    exact hs
  · rw [he]
    exact hf

/-- A SET SUPPLY CONFIG leaves the plant, or regroups it under the new group (R105). -/
theorem exec_setSupplyConfig (h : exec (.setSupplyConfig l tag body) s = .next t) : t.plant = s.plant ∨
    ∃ v : SupplyCfg, t.env = { s.env with cfg := { s.env.cfg with supply := v } } ∧ t.plant = regrouped t.env s.plant := by
  cases h
  obtain ⟨hplant, henv⟩ | hplant := takeRequest_plant (s := s) (l := l) (kind := 0x21) (tag := tag) (f := handleSetSupplyConfig l body)
  · have howner : (handleSetSupplyConfig l body s).1 = s ∨ ∃ v, (handleSetSupplyConfig l body s).1 = takeSupplyCfg v s := by
      unfold handleSetSupplyConfig
      refine guarded_state (P := fun x => x = s ∨ ∃ v, x = takeSupplyCfg v s) (.inl rfl) ?_
      cases readSupplyCfg body with
      | none => exact .inl rfl
      | some v => exact .inr ⟨v, rfl⟩
    obtain he | ⟨v, he⟩ := howner
    · exact .inl (hplant.trans (congrArg State.plant he))
    · refine .inr ⟨v, henv.trans (congrArg State.env he), hplant.trans ?_⟩
      rw [he]
      exact congrArg (fun e => regrouped e s.plant) (henv.trans (congrArg State.env he)).symm
  · exact .inl hplant

end Commands

section Changed
variable {s t : State} {c : Instr} {v : Supply}

/-- What the obligation says of the loads after a change of the supply state. -/
structure LoadsDropped (c : Instr) (s t : State) : Prop where
  granted : JustGranted s.env.clock t.plant
  dark : t.plant.arb.supply.powered = false → Darkened s.plant t.plant ∧ (t.plant.arb.spacing = s.plant.arb.spacing ∨
    t.plant.arb.spacing = .stopped ∧ ∃ l tag body, c = .setSupplyConfig l tag body)

theorem loadsDropped_change {e : Env} (hl : Loaded e) (hclock : e.clock = s.env.clock)
    (hnoted : ∀ i, (s.plant.portals.get i).permit = true → UnitId.portal i ∈ s.plant.arb.grantOrder)
    (ht : t.plant = changeSupply e v s.plant) : LoadsDropped c s t := by
  refine ⟨?_, fun hp => ?_⟩
  · rw [ht, ← hclock]
    exact changeSupply_justGranted
  · rw [ht, changeSupply_arb.1] at hp
    obtain ⟨hdark, hspacing⟩ := changeSupply_dark (p := s.plant) hl hp hnoted
    rw [ht]
    exact ⟨hdark, .inl hspacing⟩

/-- Every command that can change the supply state drops every budgeted load (R100). -/
theorem supplyChange_drops (hnoted : GrantsNoted s) (hl : Loaded s.env)
    (hc : c = .transferTimeout ∨ (∃ g b, c = .supplyInputChange g b) ∨ ∃ l tag body, c = .setSupplyConfig l tag body)
    (hexec : exec c s = .next t) (hchange : t.plant.arb.supply ≠ s.plant.arb.supply) : LoadsDropped c s t := by
  obtain ⟨-, hpermits, -⟩ := hnoted
  obtain rfl | ⟨g, b, rfl⟩ | ⟨l, tag, body, rfl⟩ := hc
  · have heq : exec .transferTimeout s = if transferDue s.env s.plant = true then .next { s with plant := changeSupply s.env .dark s.plant }
        else .next s := rfl
    rw [heq] at hexec
    split at hexec
    · cases hexec
      exact loadsDropped_change (e := s.env) hl rfl hpermits rfl
    · cases hexec
      exact absurd rfl hchange
  · by_cases hsame : s.env.pins.gridOk = g ∧ s.env.pins.standbyOk = b
    · have heq : exec (.supplyInputChange g b) s = .next s := if_pos hsame
      cases heq.symm.trans hexec
      exact absurd rfl hchange
    · cases (show _ = _ from if_neg hsame).symm.trans hexec
      by_cases hstill : nextSupply g b s.plant.arb.supply = s.plant.arb.supply
      · exact absurd (congrArg (fun p : Plant => p.arb.supply) (if_pos hstill)) hchange
      · exact loadsDropped_change (e := { s.env with pins := { s.env.pins with gridOk := g, standbyOk := b } }) ⟨hl.pumps, hl.portals⟩ rfl
          hpermits (if_neg hstill)
  · obtain hplant | ⟨v, henv, hplant⟩ := exec_setSupplyConfig hexec
    · exact absurd (congrArg (fun p : Plant => p.arb.supply) hplant) hchange
    · have hloaded : Loaded t.env := by
        rw [henv]
        exact ⟨hl.pumps, hl.portals⟩
      have hdue : transferDue t.env s.plant = true := by
        by_contra hnot
        rw [hplant, regrouped_supply, if_neg hnot] at hchange
        exact hchange rfl
      have hclock : t.env.clock = s.env.clock := by rw [henv]
      refine ⟨?_, fun _ => ?_⟩
      · rw [hplant, ← hclock]
        exact regrouped_justGranted hdue
      · obtain ⟨hdark, hspacing⟩ := regrouped_dark hloaded hdue hpermits
        rw [hplant]
        exact ⟨hdark, hspacing.imp id fun h => ⟨h, l, tag, body, rfl⟩⟩

end Changed

/-- Settles O41: the loads by `supplyChange_drops`, the permits by `withdrawPermits_queue`, the room by the live pumps that are left. -/
theorem supplyChangeDropsEveryLoad : Obligations.SupplyChangeDropsEveryLoad := by
  refine ⟨fun c s t hnoted hpumps hportals hc hexec hchange => ?_, fun g b s hnot => ?_, fun e i p => ?_, fun e p hn => ?_,
    fun e n p => ?_⟩
  · obtain ⟨hgranted, hdark⟩ := supplyChange_drops hnoted ⟨hpumps, hportals⟩ hc hexec hchange
    refine ⟨hgranted, fun hsupply => ?_⟩
    obtain ⟨hdarkened, hspacing⟩ := hdark (by obtain h | h := hsupply <;> rw [h] <;> rfl)
    exact ⟨hdarkened.load, hspacing, fun i => ⟨hdarkened.dead i, (hdarkened.pumps i).starts⟩, fun i => (hdarkened.pumps i).rests,
      hdarkened.permits, hdarkened.zones⟩
  · intro e v hchange
    have hnext : nextSupply g b s.plant.arb.supply = v := nextSupply_eq
    refine (if_neg hnot).trans ?_
    rw [hnext, if_neg hchange]
    rfl
  · intro q paused
    have hpaused : q.travel.pause e.clock = paused := by
      change q.travel.pause e.clock = match q.travel with | .since start => .held (e.clock - start) | t => t
      cases q.travel <;> rfl
    refine ⟨fun hp => if_neg (by rw [hp]; nofun), fun hp hq => ⟨?_, withdrawPermit_queue hp hq⟩⟩
    rw [withdrawPermit_portal, if_pos hp, hpaused]
  · intro holders hqueued
    have hholders : holders = (permitHolders p).map UnitId.portal := permitHolders_eq.symm
    obtain ⟨hqueue, hrecords⟩ := withdrawPermits_queue (e := e) (permitHolders_nodup hn) (p := p) fun i hi =>
      ⟨(mem_permitHolders_iff.mp hi).2, hqueued _ (by rw [hholders]; exact List.mem_map_of_mem hi)⟩
    refine ⟨hholders ▸ hqueue, fun i hi => hrecords i ?_⟩
    rw [hholders] at hi
    obtain ⟨j, hj, he⟩ := List.mem_map.mp hi
    cases he
    exact hj
  · intro full
    have hfull : overfull e p = true ↔ full := overfull_iff
    refine ⟨fun h => makeRoom_done (hfull.not.mpr h), fun i before after h horder hlive hafter =>
      makeRoom_pump (hfull.mpr h) (latestLivePump_eq horder hlive hafter), ?_, fun hpumps hpermits hshed hpowered => ?_⟩
    · intro i before after h hn hdead horder hpermit hafter p1
      have hover := hfull.mpr h
      have hroom := makeRoom_permits (n := n) hover (latestLivePump_none hdead)
      have hp1 : overfull e p1 = true ↔ budget e p < nonLampLoad e p1 + shedReservation e.cfg := by
        rw [overfull_iff, withdrawPermit_budget, (withdrawPermit_wrote (e := e) (i := i) .refl).supply.1]
        exact and_iff_right h.1
      obtain ⟨hone, hnone⟩ | ⟨j, hji, htwo, hj, hpj⟩ := permitHolders_last hn horder hpermit hafter
      · rw [hone, permitsForRoom_one hover] at hroom
        refine ⟨fun _ => hroom, fun j _ hj hpj => ?_⟩
        rw [hnone j hj] at hpj
        cases hpj
      · rw [htwo, permitsForRoom_two hover] at hroom
        refine ⟨fun hfit => ?_, fun k hlt hk hpk hqi hqk => ?_⟩
        · rw [if_neg ?_] at hroom
          · exact hroom
          · obtain hle | hnone := hfit
            · exact hp1.not.mpr (Nat.not_lt.mpr hle)
            · rw [hnone j hj] at hpj
              cases hpj
        · have hki : k ≠ i := by
            rintro rfl
            rw [horder] at hn
            exact (List.nodup_append.mp hn).2.2 _ hk _ List.mem_cons_self rfl
          obtain rfl := portal_pair hki hji
          rw [if_pos (hp1.mpr hlt)] at hroom
          intro p2
          have hp2 : p2 = withdrawPermits e [k, i] p := hroom
          obtain ⟨hqueue, hrecords⟩ := withdrawPermits_queue (e := e) (l := [k, i]) (by simp [hki]) (p := p) fun x hx => by
            obtain rfl | hx := List.mem_cons.mp hx
            · exact ⟨hpk, hqk⟩
            · rw [List.mem_singleton.mp hx]
              exact ⟨hpermit, hqi⟩
          rw [hp2]
          exact ⟨hrecords i (by simp), hrecords k (by simp), hqueue⟩
    · have hdone := makeRoom_noted (n := 10) (fun _ => hshed) hpermits hpumps ((liveCount_le p).trans_lt (by decide))
      have hsupply := (makeRoom_wrote (e := e) 10 (p := p) .refl).supply.1
      have hfit := not_overfull hdone (by rw [hsupply]; exact hpowered)
      rwa [budget, hsupply, ← budget] at hfit

end Sys2Proof.Machine

/-! Which pumps of a sump are wanted, and what Pump Duty does with them: O39. -/

namespace Sys2Proof.Machine

/-! ### Wanted pumps (R80 to R82) -/

/-- The first entries of a list that pass a test: each stands behind fewer than so many that pass it. -/
theorem mem_take_filter {α : Type} {f : α → Bool} {a : α} {l : List α} : ∀ {n : Nat},
    a ∈ (l.filter f).take n ↔ ∃ before after, l = before ++ a :: after ∧ f a = true ∧ (before.filter f).length < n := by
  induction l with
  | nil => simp
  | cons b l ih =>
    intro n
    have hcons {m : Nat} : (∃ before after, b :: l = before ++ a :: after ∧ f a = true ∧ (before.filter f).length < m) ↔
        (b = a ∧ f a = true ∧ 0 < m) ∨ ∃ before after, l = before ++ a :: after ∧ f a = true ∧ ((b :: before).filter f).length < m := by
      refine ⟨?_, ?_⟩
      · rintro ⟨before, after, heq, hf, hlt⟩
        cases before with
        | nil => exact .inl ⟨(List.cons.inj heq).1, hf, hlt⟩
        | cons c before =>
          obtain ⟨rfl, hrest⟩ := List.cons.inj heq
          exact .inr ⟨before, after, hrest, hf, hlt⟩
      · rintro (⟨rfl, hf, hlt⟩ | ⟨before, after, heq, hf, hlt⟩)
        · exact ⟨[], l, rfl, hf, hlt⟩
        · exact ⟨b :: before, after, congrArg (b :: ·) heq, hf, hlt⟩
    rw [hcons]
    by_cases hb : f b = true
    · cases n with
      | zero => simp
      | succ n =>
        simp only [List.filter_cons_of_pos hb, List.take_succ_cons, List.mem_cons, List.length_cons, Nat.add_lt_add_iff_right, ih]
        refine or_congr_left ⟨?_, fun h => h.1.symm⟩
        rintro rfl
        exact ⟨rfl, hb, Nat.succ_pos n⟩
    · simp only [List.filter_cons_of_neg hb, ih]
      refine ⟨.inr, Or.rec ?_ id⟩
      rintro ⟨rfl, hf, -⟩
      exact absurd hf hb

section Wanted
variable {e : Env} {p : Plant} {u : SumpId} {i : PumpId}

theorem governedBy_iff {x : UnitId} {v : Verb} : governedBy e p x v = true ↔ ∃ o, governingOrder e p x = some o ∧ o.verb = v := by
  rw [governedBy]
  cases governingOrder e p x with
  | none => simp
  | some o => simp

theorem listClosed_eq_false : listClosed e p i = false ↔
    (p.pumps.get i).starts.length < (e.cfg.pumps.get i).startsPerHour ∨ 4 ≤ (e.sumps.get (e.cfg.pumps.get i).sump).stage := by
  have hstage : e.stageOf i = (e.sumps.get (e.cfg.pumps.get i).sump).stage := rfl
  rw [listClosed, hstage, Bool.and_eq_false_iff, decide_eq_false_iff_not, decide_eq_false_iff_not, not_le, not_lt]

/-- R81, test by test. -/
theorem available_iff : available e p i = true ↔ e.cfg.pumpService.get i = .inService ∧ p.locked (.pump i) = false ∧
    (p.pumps.get i).run ≠ .faulted ∧ (∀ o, governingOrder e p (.pump i) = some o → o.verb ≠ .stop) ∧
    ((p.pumps.get i).live = true ∨ ((p.pumps.get i).run ≠ .resting ∧ e.pins.dryRun.get i = false ∧
      ((p.pumps.get i).starts.length < (e.cfg.pumps.get i).startsPerHour ∨ 4 ≤ (e.sumps.get (e.cfg.pumps.get i).sump).stage))) := by
  have hstop : governedBy e p (.pump i) .stop = false ↔ ∀ o, governingOrder e p (.pump i) = some o → o.verb ≠ .stop := by
    rw [Bool.eq_false_iff, Ne, governedBy_iff]
    exact ⟨fun h o ho hv => h ⟨o, ho, hv⟩, fun h ⟨o, ho, hv⟩ => h o ho hv⟩
  simp only [available, Bool.and_eq_true, Bool.or_eq_true, Bool.not_eq_true', beq_iff_eq, bne_iff_ne, hstop, listClosed_eq_false, and_assoc]

/-- R80, its three cases. -/
theorem wantedCount_eq : wantedCount e p u =
    if 3 ≤ (e.sumps.get u).stage then (e.ring u).length
    else if (e.sumps.get u).mode = .float ∨ (e.sumps.get u).mode = .barred then 1
    else (p.duty.get u).latches.countP (fun on => on) := by
  have hset : (p.duty.get u).latches.count true = (p.duty.get u).latches.countP (fun on => on) :=
    List.countP_congr fun on _ => by cases on <;> simp
  rw [wantedCount, hset]

theorem mem_wantedPumps_iff : i ∈ wantedPumps e p u ↔
    (i ∈ e.ring u ∧ available e p i = true ∧ ∃ o, governingOrder e p (.pump i) = some o ∧ o.verb = .run) ∨
      ∃ before after, walk e p u = before ++ i :: after ∧ available e p i = true ∧ p.source (.pump i) = .automatic ∧
        (before.filter (fun j => available e p j && p.source (.pump j) == .automatic)).length < wantedCount e p u := by
  simp only [wantedPumps, orderedPumps, automaticPumps, List.mem_append, List.mem_filter, Bool.and_eq_true, governedBy_iff, mem_take_filter,
    beq_iff_eq, and_assoc]

/-- The walk goes once round the ring (R82). -/
theorem walk_perm : (walk e p u).Perm (e.ring u) :=
  List.perm_append_comm.trans (.of_eq (List.take_append_drop _ _))

end Wanted

/-! ### The latches at a sample (R79) -/

section Latches
variable {u : SumpId} {a b : Nat} {s t : State}

theorem sampleSection_levels {now : Nat} {c : SumpCfg} {m : Section} :
    (sampleSection now c a b m).2 = (vote c.calibration.d (sampleOf c.calibration a b) m).2.isSome := by
  simp only [sampleSection, vote_withLast]

/-- A sample that makes a level evaluates the latches against F. -/
theorem sumpSample_latches {L f : Nat} (ht : exec (.sumpSample u a b) s = .next t)
    (hvote : (vote (s.env.cfg.sumps.get u).calibration.d (sampleOf (s.env.cfg.sumps.get u).calibration a b) (s.env.sumps.get u)).2 = some L)
    (hf : (t.env.sumps.get u).level = some f) :
    (t.plant.duty.get u).latches = List.zipWith (latchAt f) (s.env.cfg.sumps.get u).positions (s.plant.duty.get u).latches := by
  have hlevels := sampleSection_levels (now := s.env.clock) (c := s.env.cfg.sumps.get u) (a := a) (b := b) (m := s.env.sumps.get u)
  replace hlevels := hlevels.trans (congrArg Option.isSome hvote)
  obtain ⟨-, -, -, hcfg, -, -⟩ :=
    takeSection_frame u (sampleSection s.env.clock (s.env.cfg.sumps.get u) a b (s.env.sumps.get u)).1 s
  cases ht
  rw [settle_env, if_pos (by exact hlevels), latchSump_env] at hf
  rw [settle_latches, if_pos (by exact hlevels), latchSump_primed hf, hcfg, takeSection_duty]

/-- One that makes none leaves them. -/
theorem sumpSample_keeps_latches (ht : exec (.sumpSample u a b) s = .next t)
    (hvote : (vote (s.env.cfg.sumps.get u).calibration.d (sampleOf (s.env.cfg.sumps.get u).calibration a b) (s.env.sumps.get u)).2 = none) :
    (t.plant.duty.get u).latches = (s.plant.duty.get u).latches := by
  have hlevels := sampleSection_levels (now := s.env.clock) (c := s.env.cfg.sumps.get u) (a := a) (b := b) (m := s.env.sumps.get u)
  rw [hvote] at hlevels
  cases ht
  rw [settle_latches, if_neg (by rw [hlevels]; nofun), takeSection_duty]

end Latches

/-! ### Standing stops (R90) -/

section Standing
variable {e : Env} {p : Plant} {u : SumpId} {i j : PumpId} {l : List PumpId} {n : Nat}

theorem standingStopDue_eq : standingStopDue e p u i =
    ((p.pumps.get i).run == .running && (p.pumps.get i).minRun == .stopped &&
      ((e.cfg.pumpService.get i == .inService && !(wantedPumps e p u).contains i) ||
        (e.cfg.pumpService.get i == .inHand && !(p.pumps.get i).hand))) := by
  rw [standingStopDue]
  cases e.cfg.pumpService.get i with
  | inService => exact congrArg (Bool.and _) (Bool.or_false _).symm
  | inHand => rfl
  | outOfService => rfl

theorem standingStopDue_running (h : standingStopDue e p u i = true) : (p.pumps.get i).run = .running ∧ (p.pumps.get i).minRun = .stopped := by
  simp only [standingStopDue, Bool.and_eq_true, beq_iff_eq] at h
  exact h.1

theorem halts_other (hj : j ∉ l) : ∀ {p : Plant}, (l.foldl (fun a i => haltPump e i .rest a) p).pumps.get j = p.pumps.get j := by
  induction l with
  | nil => exact rfl
  | cons i l ih =>
    intro p
    obtain ⟨hne, hj⟩ := not_or.mp (mt List.mem_cons.mpr hj)
    exact (ih hj).trans (haltPump_other hne)

theorem halts_pump (hl : l.Nodup) (hj : j ∈ l) : ∀ {p : Plant}, (l.foldl (fun a i => haltPump e i .rest a) p).pumps.get j =
    (p.pumps.get j).afterStop e.clock (e.cfg.pumps.get j).minRest (e.cfg.pumpService.get j == .inHand) .rest := by
  induction l with
  | nil => cases hj
  | cons i l ih =>
    intro p
    obtain ⟨hi, hl⟩ := List.nodup_cons.mp hl
    by_cases hji : j = i
    · subst hji
      exact (halts_other hi).trans haltPump_pump
    · refine (ih hl ((List.mem_cons.mp hj).resolve_left hji)).trans ?_
      rw [haltPump_other hji]

theorem halts_frame : ∀ {p : Plant}, (l.foldl (fun a i => haltPump e i .rest a) p).arb = p.arb ∧
    (l.foldl (fun a i => haltPump e i .rest a) p).units = p.units := by
  induction l with
  | nil => exact ⟨rfl, rfl⟩
  | cons i l ih =>
    intro p
    obtain ⟨-, -, hunits, harb⟩ := haltPump_fields (e := e) (i := i) (k := .rest) (p := p)
    exact ⟨ih.1.trans harb, ih.2.trans hunits⟩

/-- The pumps whose standing stop is due, in walk order. -/
def dueStops (e : Env) (p : Plant) (u : SumpId) : List PumpId := (walk e p u).filter (standingStopDue e p u)

/-- One round of standing stops. -/
def stopDue (e : Env) (u : SumpId) (p : Plant) : Plant := (dueStops e p u).foldl (fun a i => haltPump e i .rest a) p

theorem mem_dueStops : i ∈ dueStops e p u ↔ i ∈ e.ring u ∧ standingStopDue e p u i = true := by
  rw [dueStops, List.mem_filter, walk_perm.mem_iff]

theorem standingStops_none (h : ∀ i ∈ e.ring u, standingStopDue e p u i = false) : standingStops e u n p = p := by
  cases n with
  | zero => rfl
  | succ n =>
    have hnil : (walk e p u).filter (standingStopDue e p u) = [] :=
      List.filter_eq_nil_iff.mpr fun i hi => Bool.eq_false_iff.mp (h i (walk_perm.mem_iff.mp hi))
    simp only [standingStops, hnil]

theorem standingStops_round (hi : i ∈ e.ring u) (h : standingStopDue e p u i = true) :
    standingStops e u (n + 1) p = standingStops e u n (stopDue e u p) := by
  have hmem : i ∈ dueStops e p u := mem_dueStops.mpr ⟨hi, h⟩
  rw [stopDue]
  simp only [standingStops]
  rw [dueStops] at hmem ⊢
  generalize (walk e p u).filter (standingStopDue e p u) = l at hmem
  cases l with
  | nil => cases hmem
  | cons j l => rfl

theorem stopDue_pump (hring : (e.ring u).Nodup) (hi : i ∈ e.ring u) (h : standingStopDue e p u i = true) :
    ((stopDue e u p).pumps.get i).run = if (e.cfg.pumps.get i).minRest = 0 then .stopped else .resting := by
  have hnodup : (dueStops e p u).Nodup := (walk_perm.nodup_iff.mpr hring).filter _
  rw [stopDue, halts_pump hnodup (mem_dueStops.mpr ⟨hi, h⟩)]
  exact toRest_rested.1.1

theorem stopDue_other (h : ¬(i ∈ e.ring u ∧ standingStopDue e p u i = true)) : (stopDue e u p).pumps.get i = p.pumps.get i :=
  halts_other fun hm => h (mem_dueStops.mp hm)

/-- A pump is as it was, or has been running beyond its min run and rests (R90). -/
def StoppedIn (e : Env) (u : SumpId) (i : PumpId) (q q' : Pump) : Prop :=
  q' = q ∨ i ∈ e.ring u ∧ q.run = .running ∧ q.minRun = .stopped ∧
    q'.run = if (e.cfg.pumps.get i).minRest = 0 then .stopped else .resting

theorem stopDue_stopped (hring : (e.ring u).Nodup) : StoppedIn e u i (p.pumps.get i) ((stopDue e u p).pumps.get i) := by
  by_cases h : i ∈ e.ring u ∧ standingStopDue e p u i = true
  · obtain ⟨hrun, hmin⟩ := standingStopDue_running h.2
    exact .inr ⟨h.1, hrun, hmin, stopDue_pump hring h.1 h.2⟩
  · exact .inl (stopDue_other h)

/-- How many of a ring's pumps are RUNNING. -/
def ringRunning (e : Env) (p : Plant) (u : SumpId) : Nat := (e.ring u).countP fun i => (p.pumps.get i).run == .running

theorem StoppedIn.running {q q' : Pump} (h : StoppedIn e u i q q') (hrun : q'.run = .running) : q' = q := by
  obtain h | ⟨-, -, -, h⟩ := h
  · exact h
  · rw [h] at hrun
    split at hrun <;> cases hrun

/-- A round with a stop leaves fewer pumps running. -/
theorem ringRunning_stopDue (hring : (e.ring u).Nodup) (hi : i ∈ e.ring u) (h : standingStopDue e p u i = true) :
    ringRunning e (stopDue e u p) u < ringRunning e p u := by
  have hfilter : (e.ring u).filter (fun j => ((stopDue e u p).pumps.get j).run == .running) =
      ((e.ring u).filter fun j => (p.pumps.get j).run == .running).filter fun j => ((stopDue e u p).pumps.get j).run == .running := by
    rw [List.filter_filter]
    refine List.filter_congr fun j _ => Bool.eq_iff_iff.mpr ?_
    rw [Bool.and_eq_true, beq_iff_eq, beq_iff_eq]
    refine ⟨fun hrun => ⟨hrun, ?_⟩, And.left⟩
    rw [← (stopDue_stopped hring).running hrun]
    exact hrun
  have hstopped : ¬(((stopDue e u p).pumps.get i).run == .running) = true := by
    rw [stopDue_pump hring hi h]
    split <;> nofun
  rw [ringRunning, ringRunning, List.countP_eq_length_filter, List.countP_eq_length_filter, hfilter, List.length_filter_lt_length_iff_exists]
  exact ⟨i, List.mem_filter.mpr ⟨hi, beq_iff_eq.mpr (standingStopDue_running h).1⟩, hstopped⟩

/-- As many rounds as pumps run are enough (R75, R90). -/
theorem standingStops_settled (hring : (e.ring u).Nodup) (n : Nat) : ∀ {p : Plant}, ringRunning e p u ≤ n →
    ∀ i ∈ e.ring u, standingStopDue e (standingStops e u n p) u i = false := by
  induction n with
  | zero =>
    intro p hle i hi
    refine Bool.eq_false_iff.mpr fun hdue => ?_
    have hpos : 0 < ringRunning e p u := List.countP_pos_iff.mpr ⟨i, hi, beq_iff_eq.mpr (standingStopDue_running hdue).1⟩
    omega
  | succ n ih =>
    intro p hle
    by_cases h : ∃ i ∈ e.ring u, standingStopDue e p u i = true
    · obtain ⟨i, hi, hdue⟩ := h
      rw [standingStops_round hi hdue]
      have := ringRunning_stopDue hring hi hdue
      exact ih (by omega)
    · have hnone : ∀ i ∈ e.ring u, standingStopDue e p u i = false := fun i hi => Bool.eq_false_iff.mpr fun hdue => h ⟨i, hi, hdue⟩
      rw [standingStops_none hnone]
      exact hnone

theorem StoppedIn.trans {q q' q'' : Pump} (h : StoppedIn e u i q q') (h' : StoppedIn e u i q' q'') : StoppedIn e u i q q'' := by
  obtain rfl | ⟨hi, hrun, hmin, hrest⟩ := h'
  · exact h
  · cases h.running hrun
    exact .inr ⟨hi, hrun, hmin, hrest⟩

/-- What the rounds leave: the other pumps, the queue and the units. -/
theorem standingStops_frame (hring : (e.ring u).Nodup) (n : Nat) : ∀ {p : Plant},
    (∀ i, StoppedIn e u i (p.pumps.get i) ((standingStops e u n p).pumps.get i)) ∧ (standingStops e u n p).arb = p.arb ∧
      (standingStops e u n p).units = p.units := by
  induction n with
  | zero => exact ⟨fun _ => .inl rfl, rfl, rfl⟩
  | succ n ih =>
    intro p
    by_cases h : ∃ i ∈ e.ring u, standingStopDue e p u i = true
    · obtain ⟨i, hi, hdue⟩ := h
      obtain ⟨hpumps, harb, hunits⟩ := ih (p := stopDue e u p)
      rw [standingStops_round hi hdue]
      exact ⟨fun j => (stopDue_stopped hring).trans (hpumps j), harb.trans halts_frame.1, hunits.trans halts_frame.2⟩
    · rw [standingStops_none fun i hi => Bool.eq_false_iff.mpr fun hdue => h ⟨i, hi, hdue⟩]
      exact ⟨fun _ => .inl rfl, rfl, rfl⟩

end Standing

/-! ### Joins and leaves (R83, R40) -/

section Joins
variable {e : Env} {p q : Plant} {wanted : List PumpId} {i j : PumpId} {l : List PumpId}

/-- The pump is to join the start queue. -/
def joinsQueue (e : Env) (wanted : List PumpId) (p : Plant) (i : PumpId) : Bool := (p.pumps.get i).run == .stopped && wantsStart e p wanted i

/-- The pump is to leave it. -/
def leavesQueue (e : Env) (wanted : List PumpId) (p : Plant) (i : PumpId) : Bool := (p.pumps.get i).run == .queued && !wantsStart e p wanted i

theorem wantsStart_congr (hpump : q.pumps.get i = p.pumps.get i) (hunits : q.units = p.units) :
    wantsStart e q wanted i = wantsStart e p wanted i := by
  simp only [wantsStart, Plant.locked, listClosed, hpump, hunits]

theorem queueOrLeave_joins (h : joinsQueue e wanted p i = true) : queueOrLeave e wanted i p = queuePump e i p := by
  simp only [joinsQueue, Bool.and_eq_true, beq_iff_eq] at h
  simp only [queueOrLeave, h.1, h.2]

theorem queueOrLeave_leaves (h : leavesQueue e wanted p i = true) : queueOrLeave e wanted i p = unqueuePump e i p := by
  simp only [leavesQueue, Bool.and_eq_true, beq_iff_eq, Bool.not_eq_true'] at h
  simp only [queueOrLeave, h.1, h.2]

theorem queueOrLeave_stays (hj : joinsQueue e wanted p i = false) (hl : leavesQueue e wanted p i = false) : queueOrLeave e wanted i p = p := by
  simp only [joinsQueue, leavesQueue] at hj hl
  simp only [queueOrLeave]
  split
  · rename_i hrun hwants
    simp [hrun, hwants] at hj
  · rename_i hrun hwants
    simp [hrun, hwants] at hl
  · rfl

theorem queueOrLeave_other (h : j ≠ i) : (queueOrLeave e wanted i p).pumps.get j = p.pumps.get j := by
  simp only [queueOrLeave]
  split
  · rw [queuePump, joinQueue_pumps, putPump_pumps, PerPump.get_set_ne _ _ h]
  · rw [unqueuePump, putPump_pumps, PerPump.get_set_ne _ _ h]
    rfl
  · rfl

theorem queueOrLeave_units : (queueOrLeave e wanted i p).units = p.units := by
  simp only [queueOrLeave]
  split
  · rw [queuePump, joinQueue_units, putPump_units]
  · exact putPump_units ..
  · rfl

theorem queueOrLeave_run : ((queueOrLeave e wanted i p).pumps.get i).run =
    if joinsQueue e wanted p i then .queued else if leavesQueue e wanted p i then .stopped else (p.pumps.get i).run := by
  cases hj : joinsQueue e wanted p i with
  | true =>
    rw [queueOrLeave_joins hj, queuePump, joinQueue_pumps, putPump_pumps, PerPump.get_set]
    rfl
  | false =>
    cases hl : leavesQueue e wanted p i with
    | true =>
      rw [queueOrLeave_leaves hl, unqueuePump, putPump_pumps, PerPump.get_set]
      rfl
    | false =>
      rw [queueOrLeave_stays hj hl]
      rfl

/-- The units in the start queue. -/
def Plant.waiting (p : Plant) : List UnitId := p.arb.queue.map Request.unit

theorem queueOrLeave_waiting (hq : (p.pumps.get i).run = .queued ↔ p.queued (.pump i) = true) :
    (queueOrLeave e wanted i p).waiting = p.waiting.filter (fun x => !(x == .pump i && leavesQueue e wanted p i)) ++
      if joinsQueue e wanted p i then [.pump i] else [] := by
  have hkeep (h : leavesQueue e wanted p i = false) : p.waiting.filter (fun x => !(x == .pump i && leavesQueue e wanted p i)) = p.waiting :=
    List.filter_eq_self.mpr fun x _ => by rw [h, Bool.and_false]; rfl
  cases hj : joinsQueue e wanted p i with
  | true =>
    have hrun : (p.pumps.get i).run = .stopped := by
      simp only [joinsQueue, Bool.and_eq_true, beq_iff_eq] at hj
      exact hj.1
    have hl : leavesQueue e wanted p i = false := by simp [leavesQueue, hrun]
    have hfree : p.queued (.pump i) = false := Bool.eq_false_iff.mpr fun h => by
      rw [hq.mpr h] at hrun
      cases hrun
    have hput : (putPump e i { p.pumps.get i with run := .queued } p).queued (.pump i) = false := by
      simpa only [Plant.queued, putPump_arb] using hfree
    rw [hkeep hl, queueOrLeave_joins hj, queuePump, Plant.waiting, joinQueue_units_queue, hput, putPump_arb]
    rfl
  | false =>
    rw [if_neg nofun, List.append_nil]
    cases hl : leavesQueue e wanted p i with
    | true =>
      rw [queueOrLeave_leaves hl, unqueuePump, Plant.waiting, putPump_arb, dropRequest_units_queue]
      exact List.filter_congr fun x _ => by rw [Bool.and_true]; rfl
    | false =>
      rw [queueOrLeave_stays hj hl, ← hl, hkeep hl]

theorem queueOrLeave_queued (h : j ≠ i) (hq : (p.pumps.get i).run = .queued ↔ p.queued (.pump i) = true) :
    (queueOrLeave e wanted i p).queued (.pump j) = true ↔ p.queued (.pump j) = true := by
  rw [queued_iff, queued_iff]
  change UnitId.pump j ∈ (queueOrLeave e wanted i p).waiting ↔ UnitId.pump j ∈ p.waiting
  have hne : UnitId.pump j ≠ .pump i := fun he => h (UnitId.pump.inj he)
  rw [queueOrLeave_waiting hq, List.mem_append, List.mem_filter]
  have hjoin : UnitId.pump j ∉ (if joinsQueue e wanted p i then [UnitId.pump i] else []) := by
    split <;> simp [h]
  simp [hjoin, h]

/-- What a round of joins and leaves does to a list of pumps of which none stands twice. -/
theorem queueOrLeave_list (hl : l.Nodup) : ∀ {p : Plant}, (∀ i ∈ l, (p.pumps.get i).run = .queued ↔ p.queued (.pump i) = true) →
    let p' := l.foldl (fun a i => queueOrLeave e wanted i a) p
    (∀ i ∈ l, (p'.pumps.get i).run =
      if joinsQueue e wanted p i then .queued else if leavesQueue e wanted p i then .stopped else (p.pumps.get i).run) ∧
    (∀ i, i ∉ l → p'.pumps.get i = p.pumps.get i) ∧
    p'.waiting = p.waiting.filter (fun x => !l.any (fun i => x == .pump i && leavesQueue e wanted p i)) ++
      (l.filter (joinsQueue e wanted p)).map UnitId.pump := by
  induction l with
  | nil => exact fun _ => ⟨nofun, fun _ _ => rfl, by simp⟩
  | cons i l ih =>
    intro p hq
    obtain ⟨hi, hl⟩ := List.nodup_cons.mp hl
    have hne {j : PumpId} (hj : j ∈ l) : j ≠ i := fun he => hi (he ▸ hj)
    have hwants {j : PumpId} (hj : j ∈ l) : wantsStart e (queueOrLeave e wanted i p) wanted j = wantsStart e p wanted j :=
      wantsStart_congr (queueOrLeave_other (hne hj)) queueOrLeave_units
    have hjoins {j : PumpId} (hj : j ∈ l) : joinsQueue e wanted (queueOrLeave e wanted i p) j = joinsQueue e wanted p j := by
      rw [joinsQueue, joinsQueue, hwants hj, queueOrLeave_other (hne hj)]
    have hleaves {j : PumpId} (hj : j ∈ l) : leavesQueue e wanted (queueOrLeave e wanted i p) j = leavesQueue e wanted p j := by
      rw [leavesQueue, leavesQueue, hwants hj, queueOrLeave_other (hne hj)]
    obtain ⟨hrun, hother, hwaiting⟩ := ih hl (p := queueOrLeave e wanted i p) fun j hj => by
      rw [queueOrLeave_other (hne hj), queueOrLeave_queued (hne hj) (hq i List.mem_cons_self)]
      exact hq j (List.mem_cons_of_mem _ hj)
    refine ⟨fun j hj => ?_, fun j hj => ?_, ?_⟩
    · by_cases hji : j = i
      · subst hji
        exact (congrArg Pump.run (hother j hi)).trans queueOrLeave_run
      · have hj := (List.mem_cons.mp hj).resolve_left hji
        refine (hrun j hj).trans ?_
        rw [hjoins hj, hleaves hj, queueOrLeave_other hji]
    · obtain ⟨hji, hj⟩ := not_or.mp (mt List.mem_cons.mpr hj)
      exact (hother j hj).trans (queueOrLeave_other hji)
    · have hany (x : UnitId) : (l.any fun j => x == .pump j && leavesQueue e wanted (queueOrLeave e wanted i p) j) =
          l.any fun j => x == .pump j && leavesQueue e wanted p j := by
        rw [Bool.eq_iff_iff, List.any_eq_true, List.any_eq_true]
        exact exists_congr fun j => and_congr_right fun hj => by rw [hleaves hj]
      have hjoined : l.filter (joinsQueue e wanted (queueOrLeave e wanted i p)) = l.filter (joinsQueue e wanted p) :=
        List.filter_congr fun j hj => hjoins hj
      rw [List.foldl_cons, hwaiting, hjoined, queueOrLeave_waiting (hq i List.mem_cons_self)]
      simp only [hany, List.filter_append, List.filter_filter, List.any_cons, Bool.not_or, List.append_assoc]
      have hkept : (if joinsQueue e wanted p i then [UnitId.pump i] else []).filter
          (fun x => !l.any fun j => x == .pump j && leavesQueue e wanted p j) =
          if joinsQueue e wanted p i then [UnitId.pump i] else [] := by
        refine List.filter_eq_self.mpr fun x hx => ?_
        have hx : x = .pump i := by
          split at hx
          · exact List.mem_singleton.mp hx
          · cases hx
        subst hx
        rw [Bool.not_eq_true', List.any_eq_false]
        intro j hj
        simp [Ne.symm (hne hj)]
      rw [hkept]
      congr 1
      · exact List.filter_congr fun x _ => Bool.and_comm ..
      · rw [List.filter_cons]
        split <;> rfl

end Joins

/-! ### Immediate stops (R84, R91, R95) -/

section Stops
variable {e : Env} {p : Plant} {i : PumpId} {m n : Nat} {before after : List UnitId}

theorem immediateStopDue_iff : immediateStopDue e p i = true ↔ p.locked (.pump i) = true ∨ (e.cfg.pumpService.get i = .inService ∧
    ∃ o, governingOrder e p (.pump i) = some o ∧ o.verb = .stop ∧ o.rank = .overriding) := by
  rw [immediateStopDue]
  cases governingOrder e p (.pump i) with
  | none => simp
  | some o => simp

theorem immediateStop_live (hdue : immediateStopDue e p i = true) (hl : (p.pumps.get i).live = true) :
    immediateStop e i p = haltPump e i .rest p := by
  rw [immediateStop, if_pos hdue]
  obtain hr | hr := live_iff.mp hl <;> simp only [hr]

theorem immediateStop_queued (hdue : immediateStopDue e p i = true) (hr : (p.pumps.get i).run = .queued) :
    immediateStop e i p = unqueuePump e i p := by
  rw [immediateStop, if_pos hdue]
  simp only [hr]

theorem immediateStop_none (h : ¬immediateStopDue e p i = true ∨ ((p.pumps.get i).live = false ∧ (p.pumps.get i).run ≠ .queued)) :
    immediateStop e i p = p := by
  obtain hdue | ⟨hl, hq⟩ := h
  · exact if_neg hdue
  · rw [immediateStop]
    split
    · split
      · rw [live_iff.mpr (.inl ‹_›)] at hl
        cases hl
      · rw [live_iff.mpr (.inr ‹_›)] at hl
        cases hl
      · exact absurd ‹_› hq
      all_goals rfl
    · rfl

theorem outfallStops_within (h : ∀ m, limitInForce e p = some m → liveCount p ≤ m) : outfallStops e n p = p := by
  cases n with
  | zero => rfl
  | succ n =>
    simp only [outfallStops]
    split
    · rename_i m i hlimit hlatest
      rw [if_neg (Nat.not_lt.mpr (h m hlimit))]
    · rfl

theorem outfallStops_above (hlimit : limitInForce e p = some m) (hm : m < liveCount p) (hi : latestLivePump p = some i) :
    outfallStops e (n + 1) p = outfallStops e n (haltPump e i .rest p) := by
  simp only [outfallStops, hlimit, hi, if_pos hm]

/-- As many rounds as there are pumps above the limit bring the count down to it, and no lower. -/
theorem outfallStops_count (hlimit : limitInForce e p = some m) (hn : liveCount p ≤ n + m)
    (hnoted : ∀ i, (p.pumps.get i).live = true → UnitId.pump i ∈ p.arb.grantOrder) : liveCount (outfallStops e n p) = min m (liveCount p) := by
  induction n generalizing p with
  | zero =>
    change liveCount p = _
    omega
  | succ n ih =>
    by_cases hm : m < liveCount p
    · obtain ⟨j, -, hj⟩ := List.countP_pos_iff.mp (show 0 < liveCount p by omega)
      obtain ⟨i, hi⟩ := Option.ne_none_iff_exists'.mp (latestLivePump_some hnoted hj)
      obtain ⟨-, -, hunits, harb⟩ := haltPump_fields (e := e) (i := i) (k := .rest) (p := p)
      have hcount := liveCount_halt (e := e) (k := .rest) (latestLivePump_live hi)
      rw [outfallStops_above hlimit hm hi, ih ((limitInForce_congr hunits).trans hlimit) (by omega) fun k hk => ?_]
      · omega
      · rw [harb]
        refine hnoted k ?_
        by_cases hki : k = i
        · subst hki
          exact latestLivePump_live hi
        · rwa [haltPump_other hki] at hk
    · rw [outfallStops_within fun m' hm' => by cases hlimit.symm.trans hm'; omega]
      exact (Nat.min_eq_right (by omega)).symm

end Stops

/-- What Pump Duty does with the wanted pumps of a sump: the clauses of O39 about the standing stops, the joins and the leaves. -/
theorem dutySump_acts {e : Env} {p : Plant} {u : SumpId} (hring : (e.ring u).Nodup) (hfour : (e.ring u).length ≤ 4)
    (hq : ∀ i ∈ e.ring u, (p.pumps.get i).run = .queued ↔ p.queued (.pump i) = true) :
    let p1 := standingStops e u 5 p
    let p' := dutySump e u p
    let wanted := wantedPumps e p1 u
    (∀ i, StoppedIn e u i (p.pumps.get i) (p1.pumps.get i)) ∧
    (∀ i ∈ e.ring u, standingStopDue e p1 u i = false) ∧
    (∀ i ∈ e.ring u, (p'.pumps.get i).run =
      if joinsQueue e wanted p1 i then .queued else if leavesQueue e wanted p1 i then .stopped else (p1.pumps.get i).run) ∧
    (∀ i, i ∉ e.ring u → p'.pumps.get i = p.pumps.get i) ∧
    p'.waiting = p.waiting.filter (fun x => !(walk e p1 u).any (fun i => x == .pump i && leavesQueue e wanted p1 i)) ++
      ((walk e p1 u).filter (joinsQueue e wanted p1)).map UnitId.pump := by
  intro p1 p' wanted
  obtain ⟨hstopped, harb, -⟩ := standingStops_frame hring 5 (p := p)
  have hperm : (walk e p1 u).Perm (e.ring u) := walk_perm
  have hq1 : ∀ i ∈ walk e p1 u, (p1.pumps.get i).run = .queued ↔ p1.queued (.pump i) = true := by
    intro i hi
    have hwaits : p1.queued (.pump i) = p.queued (.pump i) := by rw [Plant.queued, Plant.queued, harb]
    rw [hwaits, ← hq i (hperm.mem_iff.mp hi)]
    obtain h | ⟨-, hrun, -, hrest⟩ := hstopped i
    · rw [h]
    · rw [hrun, hrest]
      split <;> exact ⟨nofun, nofun⟩
  obtain ⟨hrun, hother, hwaiting⟩ := queueOrLeave_list (e := e) (wanted := wanted) (hperm.nodup_iff.mpr hring) hq1
  have hsame : p1.waiting = p.waiting := by rw [Plant.waiting, Plant.waiting, harb]
  refine ⟨hstopped, standingStops_settled hring 5 (List.countP_le_length.trans (by omega)), fun i hi => hrun i (hperm.mem_iff.mpr hi),
    fun i hi => (hother i (mt hperm.mem_iff.mp hi)).trans ?_, hsame ▸ hwaiting⟩
  obtain h | ⟨hin, -⟩ := hstopped i
  · exact h
  · exact absurd hin hi

/-- Settles O39: each test of the model read off, the rounds of standing stops by the number of pumps that run, the joins and leaves by
the walk, and the limit stops by the number of live pumps. -/
theorem wantedPumpsFollowTheWater : Obligations.WantedPumpsFollowTheWater := by
  refine ⟨?_, ?_, ?_, ?_, ?_⟩
  · intro u a b s t ht c
    refine ⟨fun L f hvote hf => ?_, fun hvote => sumpSample_keeps_latches ht hvote⟩
    exact sumpSample_latches ht hvote hf
  · intro e p u wanted lead inTurn free i
    have hcount : wantedCount e p u = wanted := wantedCount_eq
    have hfree : available e p i = true ↔ free i := available_iff
    rw [mem_wantedPumps_iff, hcount, hfree]
    rfl
  · intro e p u hring hfour hq p1 p' lead inTurn wants joins leaves due
    have hdue (q : Plant) (i : PumpId) : standingStopDue e q u i = due q i := standingStopDue_eq
    have hwants (i : PumpId) : wantsStart e p1 (wantedPumps e p1 u) i = wants i := by
      have hopen : (!listClosed e p1 i) = (decide ((p1.pumps.get i).starts.length < (e.cfg.pumps.get i).startsPerHour) ||
          decide (4 ≤ (e.sumps.get (e.cfg.pumps.get i).sump).stage)) := by
        rw [Bool.eq_iff_iff, Bool.not_eq_true', listClosed_eq_false]
        simp
      simp only [wants, wantsStart, hopen]
      cases e.cfg.pumpService.get i with
      | inService => rfl
      | inHand => exact Bool.and_right_comm ..
      | outOfService => rfl
    have hjoins (i : PumpId) : joinsQueue e (wantedPumps e p1 u) p1 i = joins i := congrArg (Bool.and _) (hwants i)
    have hleaves (i : PumpId) : leavesQueue e (wantedPumps e p1 u) p1 i = leaves i :=
      congrArg (fun b => Bool.and _ (!b)) (hwants i)
    obtain ⟨hstopped, hsettled, hrun, hother, hwaiting⟩ := dutySump_acts hring hfour hq
    refine ⟨fun n q hnone => standingStops_none fun i hi => (hdue q i).trans (hnone i hi), fun n q => ?_, hstopped, fun i hi hrunning hmin => ?_,
      fun i hi => ?_, hother, ?_⟩
    · intro turn stopped hsome
      have hround : stopped = stopDue e u q := by
        have : due q = standingStopDue e q u := funext fun i => (hdue q i).symm
        rw [stopDue, dueStops, ← this]
        rfl
      obtain ⟨i, hi, hi'⟩ := hsome
      rw [hround]
      refine ⟨standingStops_round hi ((hdue q i).trans hi'), fun j hj hj' => stopDue_pump hring hj ((hdue q j).trans hj'), fun j hj => ?_⟩
      rw [← hdue q j] at hj
      exact stopDue_other hj
    · have hnot : standingStopDue e p1 u i = false := hsettled i hi
      rw [standingStopDue_eq] at hnot
      refine ⟨fun hin => ?_, fun hin => ?_⟩
      · simpa [hrunning, hmin, hin] using hnot
      · simpa [hrunning, hmin, hin] using hnot
    · rw [← hjoins, ← hleaves]
      exact hrun i hi
    · have hwait := hwaiting
      rw [funext hjoins, funext hleaves] at hwait
      exact hwait
  · intro e i p called
    have hcalled : immediateStopDue e p i = true ↔ called := immediateStopDue_iff
    rw [← hcalled]
    exact ⟨immediateStop_live, immediateStop_queued, immediateStop_none⟩
  · intro e n p limit latest
    have hlimit : limitInForce e p = limit := limitInForce_eq
    rw [← hlimit]
    refine ⟨outfallStops_within, fun m i hl hm hlatest => ?_, fun m hl hnoted => ?_⟩
    · obtain ⟨hlive, before, after, horder, hafter⟩ := hlatest
      exact outfallStops_above hl hm (latestLivePump_eq horder hlive hafter)
    · exact outfallStops_count hl ((liveCount_le p).trans (by omega)) hnoted

end Sys2Proof.Machine

/-! What the blocks leave of a portal that waits for nothing, and the timers of a portal: O48. -/

namespace Sys2Proof.Machine

/-! ### Portals that stay -/

/-- The portal has the record `q0` and waits for no grant. -/
structure PortalStays (i : PortalId) (q0 : Portal) (p : Plant) : Prop where
  record : p.portals.get i = q0
  waits : p.queued (.portal i) = false

section Stays
variable {e : Env} {i j : PortalId} {q0 : Portal} {p b : Plant}

theorem PortalStays.same (h : PortalStays i q0 p) (hp : b.portals.get i = p.portals.get i)
    (hq : b.queued (.portal i) = true → p.queued (.portal i) = true) : PortalStays i q0 b :=
  ⟨hp.trans h.record, Bool.eq_false_iff.mpr fun hb => Bool.eq_false_iff.mp h.waits (hq hb)⟩

theorem PortalStays.put (h : PortalStays i q0 p) (hj : j ≠ i) {q : Portal} : PortalStays i q0 (putPortal e j q p) :=
  h.same (by rw [putPortal_portals, PerPortal.get_set_ne _ _ (Ne.symm hj)]) fun hq => by rwa [putPortal_queued] at hq

theorem PortalStays.join (h : PortalStays i q0 p) {u : UnitId} (hu : u ≠ .portal i) : PortalStays i q0 (joinQueue e u p) :=
  h.same (by rw [joinQueue_portals]) fun hq => (joinQueue_queued.mp hq).resolve_left (Ne.symm hu)

theorem PortalStays.drop (h : PortalStays i q0 p) {u : UnitId} : PortalStays i q0 (dropRequest u p) :=
  h.same rfl fun hq => (dropRequest_queued.mp hq).2

theorem PortalStays.pumps (h : PortalStays i q0 p) (hw : Wrote e PumpWrite p b) : PortalStays i q0 b := by
  refine hw.induct (P := PortalStays i q0) (fun q w hok hq => ?_) h
  cases w with
  | pump j r =>
    exact hq.same (congrArg (PerPortal.get · i) putPump_portals) fun hq' => by simpa only [PlantWrite.run, Plant.queued, putPump_arb] using hq'
  | join u =>
    obtain ⟨j, rfl⟩ := hok
    exact hq.join nofun
  | drop u => exact hq.drop
  | lead u => exact hq.same rfl id
  | raise c => exact hq.same rfl id
  | _ => exact hok.elim

theorem PortalStays.other (h : PortalStays i q0 p) (hj : j ≠ i) (hw : Wrote e (PortalWrite j) p b) : PortalStays i q0 b := by
  refine hw.induct (P := PortalStays i q0) (fun q w hok hq => ?_) h
  cases w with
  | portal k r =>
    obtain ⟨rfl, -⟩ := hok
    exact hq.put hj
  | join u =>
    cases hok
    exact hq.join fun he => hj (UnitId.portal.inj he)
  | drop u => exact hq.drop
  | raise c => exact hq.same rfl id
  | _ => exact hok.elim

theorem PortalStays.zones (h : PortalStays i q0 p) (hw : Wrote e ZoneWrite p b) : PortalStays i q0 b := by
  refine hw.induct (P := PortalStays i q0) (fun q w hok hq => ?_) h
  cases w with
  | zone z r =>
    exact hq.same (congrArg (PerPortal.get · i) putZone_portals) fun hq' => by simpa only [PlantWrite.run, Plant.queued, putZone_arb] using hq'
  | _ => exact hok.elim

theorem PortalStays.granted (h : PortalStays i q0 p) {r : Request} (hr : r ∈ p.arb.queue) (hf : fits e p r = true) :
    PortalStays i q0 (grantRequest e r p) := by
  obtain ⟨j, he, -⟩ | ⟨k, he, hq, -⟩ := fits_cases hr hf
  · rw [he]
    refine h.same (congrArg (PerPortal.get · i) grantPump_portals.1) fun hq => ?_
    rw [Plant.queued, grantPump_arb] at hq
    exact (dropRequest_queued.mp hq).2
  · have hk : k ≠ i := by
      rintro rfl
      rw [h.waits] at hq
      cases hq
    have hqueue : PortalStays i q0 (noteGrant (.portal k) (unqueuePortal e k p)) :=
      (h.other hk (unqueuePortal_wrote (e := e) .refl)).same rfl id
    have hpermit : PortalStays i q0 (permitted e k p) := hqueue.put hk
    rw [he, grantPortal_eq]
    exact (hpermit.zones (lampPass_wrote .refl)).other hk (onPermit_wrote .refl)

variable (hstill : ∀ q : Plant, q.portals.get i = q0 → applyDemand e i q = q)
include hstill

theorem PortalStays.demands (h : PortalStays i q0 p) : PortalStays i q0 (portalDemands e j p) := by
  by_cases hj : j = i
  · subst hj
    have hsame : applyDemand e j p = p := hstill p h.record
    rw [portalDemands, hsame, hsame, hsame, hsame, hsame]
    exact h
  · exact h.other hj (portalDemands_wrote .refl)

theorem PortalStays.owners (h : PortalStays i q0 p) : PortalStays i q0 (ownersAct e p) := by
  have hduty : PortalStays i q0 (dutyAll e p) := h.pumps (dutyAll_wrote .refl)
  have hsequencers : PortalStays i q0 (sequencers e (dutyAll e p)) := (hduty.demands hstill).demands hstill
  exact hsequencers.zones (lampPass_wrote .refl)

/-- A portal that waits for no grant, and that its demand leaves as it is, keeps its record while the blocks act. -/
theorem PortalStays.settle (h : PortalStays i q0 p) : PortalStays i q0 (settlePlant e p) := by
  have hstops : PortalStays i q0 (outfallStops e 8 (immediateStops e p)) := h.pumps stops_wrote
  have hblocks : PortalStays i q0 (blocksAct e p) :=
    grantPass_induct (P := PortalStays i q0) (fun q r hq hr hf => (hq.granted hr hf).owners hstill) 40 (hstops.owners hstill)
  exact hblocks.same rfl id

end Stays

/-! ### The timers -/

section Timers
variable {e : Env} {i : PortalId} {p : Plant} {q : Portal} {t : Timer}

theorem applyDemand_jammed (h : (p.portals.get i).seq = .jammed) : applyDemand e i p = p := by
  simp only [applyDemand, h, ite_self]

theorem applyDemand_elsewhere (h : e.cfg.portalService.get i ≠ .inService) : applyDemand e i p = p :=
  applyDemand_of_not fun hs => h hs.1

theorem toJammed_stays {why : JamCause} : PortalStays i
    { (p.portals.get i).released.enter .jammed with resume := some (p.portals.get i).seq, jam := some why } (toJammed e i why p) :=
  ⟨toJammed_portal, (putPortal_queued (p := enterIdle e i .jammed p)).trans enterIdle_unqueued⟩

/-- A portal that jams is JAMMED when the blocks have acted (R135). -/
theorem toJammed_settles {why : JamCause} : PortalStays i
    { (p.portals.get i).released.enter .jammed with resume := some (p.portals.get i).seq, jam := some why } (settlePlant e (toJammed e i why p)) :=
  toJammed_stays.settle fun r hr => applyDemand_jammed (by rw [hr]; rfl)

theorem toJammed_shows {why : JamCause} {s : State} : Shows .gateJammed (settle { s with plant := toJammed e i why p }).plant :=
  Shows.settle (s := { s with plant := toJammed e i why p }) shows_raised rfl

/-- A hand motion that ends stays ended while the blocks act, the portal IN_HAND (R41). -/
theorem endHand_settles {why : HandResult} (h : e.cfg.portalService.get i = .inHand) :
    PortalStays i { (p.portals.get i).released with motion := .none, result := some why, travel := .stopped } (settlePlant e (endHand e i why p)) :=
  PortalStays.settle (fun r _ => applyDemand_elsewhere (by rw [h]; nofun)) ⟨endHand_portal, endHand_unqueued⟩

theorem motionStep_iff {st : Seq} : st.motionStep = true ↔ st = .barring ∨ st = .sealing ∨ st = .unsealing ∨ st = .lifting := by
  cases st <;> simp [Seq.motionStep]

/-- The gate's limit for a gate's motion, and the barrier's for a barrier's (R120, R41). -/
theorem travelLimit_step {c : PortalCfg} (h : q.seq.motionStep = true) :
    travelLimit c q = 1000 * if q.seq = .barring ∨ q.seq = .lifting then c.barrierTravel else c.gateTravel := by
  obtain hs | hs | hs | hs := motionStep_iff.mp h <;> simp [travelLimit, Portal.wantsMotor, hs]

theorem travelLimit_hand {c : PortalCfg} (hq : q.seq = .hand) (hm : q.motion ≠ .none) :
    travelLimit c q = 1000 * if q.motion = .barrierRising ∨ q.motion = .barrierLowering then c.barrierTravel else c.gateTravel := by
  cases hmotion : q.motion <;> first | exact absurd hmotion hm | simp [travelLimit, Portal.wantsMotor, hq, hmotion]

/-! ### HELD (R132 to R134) -/

theorem leaveHeld_warning (h : (p.portals.get i).resume = some .warning) : (leaveHeld e i p).portals.get i =
    { p.portals.get i with resume := none, seq := .warning, signal := .amberFlash, warn := (p.portals.get i).warn.resume e.clock } := by
  simp only [leaveHeld, h]
  exact putPortal_get

theorem leaveHeld_clearing (h : (p.portals.get i).resume = some .clearing) : (leaveHeld e i p).portals.get i =
    { p.portals.get i with
      resume := none, seq := .clearing, signal := .red, confirm := resumeConfirm e (p.portals.get i).confirm
      limit := if (p.portals.get i).overdue then (p.portals.get i).limit else (p.portals.get i).limit.resume e.clock } := by
  simp only [leaveHeld, h]
  exact putPortal_get

theorem leaveHeld_unsettled (h : (p.portals.get i).resume = some .unsettled) : (leaveHeld e i p).portals.get i =
    Portal.enter .unsettled { p.portals.get i with resume := none } := by
  simp only [leaveHeld, h]
  exact putPortal_get

theorem leaveHeld_step {st : Seq} (hst : st.motionStep = true) (h : (p.portals.get i).resume = some st) : leaveHeld e i p =
    toStep e i st (p.portals.get i).travel.orZero (putPortal e i { p.portals.get i with resume := none } p) := by
  simp only [leaveHeld, h]
  cases st <;> first | rfl | cases hst

end Timers

/-- Settles O48: a timer that has run lets its event act, and what jams or ends in hand stays so; HELD by what its entry and its leaving
write. -/
theorem portalTimersAct : Obligations.PortalTimersAct := by
  refine ⟨fun i s => ?_, fun e i p => ?_⟩
  · intro q c acted ran
    refine ⟨fun hseq hran => if_pos (warningDue_iff.mpr ⟨hseq, hran⟩), fun hseq hpermit hran => ?_, fun hseq hmotion hpermit hran => ?_,
      fun hseq hran => if_pos (clearConfirmDue_iff.mpr ⟨hseq, hran⟩),
      fun hseq hover hran => if_pos (clearLimitDue_iff.mpr ⟨hseq, hover, hran⟩), fun hseq hran => if_pos (retryDue_iff.mpr ⟨hseq, hran⟩)⟩
    · have hstep : q.seq.motionStep = true := motionStep_iff.mpr hseq
      have hdue : travelDue s.env s.plant i = true := travelDue_iff.mpr ⟨hstep, hpermit, by rw [travelLimit_step hstep]; exact hran⟩
      obtain ⟨hrecord, hwaits⟩ := toJammed_settles (e := s.env) (i := i) (p := s.plant) (why := .travel)
      refine ⟨_, if_pos hdue, rfl, rfl, rfl, ?_, hwaits, toJammed_shows⟩
      intro q'
      rw [show q' = _ from hrecord]
      exact ⟨rfl, rfl, rfl, rfl, rfl, rfl, rfl, rfl, rfl, rfl, rfl⟩
    · have hdue : handTravelDue s.env s.plant i = true :=
        handTravelDue_iff.mpr ⟨hseq, hmotion, hpermit, by rw [travelLimit_hand hseq hmotion]; exact hran⟩
      refine ⟨_, if_pos hdue, rfl, rfl, rfl, fun hin => ?_⟩
      intro q'
      rw [show q' = _ from (endHand_settles hin).record]
      exact ⟨hseq, rfl, rfl, rfl, rfl⟩
  · intro q paused resumed left q'
    have hpaused (t : Timer) : t.pause e.clock = paused t := by cases t <;> rfl
    have hresumed (t : Timer) : t.resume e.clock = resumed t := by cases t <;> rfl
    refine ⟨?_, ?_, ?_, fun hr => ?_, fun hr => ?_, fun hr => ?_, ?_⟩
    · rw [toHeld_portal, hpaused, hpaused, hpaused, hpaused]
      rfl
    · exact putPortal_queued.trans letGo_unqueued
    · rw [toHeld_portal]
      rfl
    · refine (leaveHeld_warning hr).trans ?_
      rw [hresumed]
    · refine (leaveHeld_clearing hr).trans ?_
      have hconfirm : resumeConfirm e q.confirm =
          if e.loopsClear then (match q.confirm with | .stopped => .since e.clock | t => resumed t) else .stopped := by
        unfold resumeConfirm
        cases q.confirm <;> rfl
      rw [hresumed]
      exact congrArg (fun t => ({ q with
        seq := .clearing, resume := none, signal := .red, limit := if q.overdue then q.limit else resumed q.limit, confirm := t } : Portal)) hconfirm
    · rw [show q' = _ from leaveHeld_unsettled hr]
      exact ⟨rfl, rfl, rfl, rfl, rfl⟩
    · intro travel p0
      have htravel : q.travel.orZero = travel := by
        simp only [travel]
        cases q.travel <;> rfl
      rw [← htravel]
      exact ⟨leaveHeld_step rfl, leaveHeld_step rfl, leaveHeld_step rfl, leaveHeld_step rfl⟩

end Sys2Proof.Machine

/-! The inputs of a portal, its demand, and the states they enter: O49. -/

namespace Sys2Proof.Machine

section Entries
variable {e : Env} {i : PortalId} {p : Plant} {t : Timer} {st : Seq}

/-! ### Steps that drive or wait (R119) -/

theorem enterIdle_waits : (toClearing e i p).queued (.portal i) = false ∧ (toSealed e i p).queued (.portal i) = false ∧
    (toOpen e i p).queued (.portal i) = false :=
  ⟨(putPortal_queued (p := enterIdle e i .clearing p)).trans enterIdle_unqueued,
    (putPortal_queued (p := enterIdle e i .sealed p)).trans enterIdle_unqueued,
    (putPortal_queued (p := enterIdle e i .open p)).trans enterIdle_unqueued⟩

theorem toBarring_drives (h : (e.portalPins i).barrierLowered = false) :
    toBarring e i t p = driveOrQueue e i (enterStep e i .barring t p) := if_neg (by rw [h]; nofun)

theorem toBarring_ends (h : (e.portalPins i).barrierLowered = true) : toBarring e i t p = toClearing e i (enterStep e i .barring t p) := if_pos h

theorem toLifting_away (h : (e.portalPins i).gateOpen = false) : toLifting e i t p = toUnsealingAway e i (.held 0) p := if_neg (by rw [h]; nofun)

theorem toLifting_drives (ho : (e.portalPins i).gateOpen = true) (hr : (e.portalPins i).barrierRaised = false) :
    toLifting e i t p = driveOrQueue e i (enterStep e i .lifting t p) := (if_pos ho).trans (if_neg (by rw [hr]; nofun))

theorem toLifting_ends (ho : (e.portalPins i).gateOpen = true) (hr : (e.portalPins i).barrierRaised = true) :
    toLifting e i t p = toOpen e i (enterStep e i .lifting t p) := (if_pos ho).trans (if_pos hr)

theorem toUnsealing_away (h : (e.portalPins i).gateOpen = false) : toUnsealing e i t p = toUnsealingAway e i t p := if_neg (by rw [h]; nofun)

theorem toUnsealing_ends (h : (e.portalPins i).gateOpen = true) :
    toUnsealing e i t p = toLifting e i (.held 0) (letGo e i (enterStep e i .unsealing t p)) := if_pos h

theorem toSealing_ends (hl : (e.portalPins i).barrierLowered = true) (hc : (e.portalPins i).gateClosed = true) :
    toSealing e i t p = toSealed e i (enterStep e i .sealing t p) := (if_pos hl).trans (if_pos hc)

theorem toSealing_seals (hl : (e.portalPins i).barrierLowered = true) (hc : (e.portalPins i).gateClosed = false) :
    toSealing e i t p = sealOrQueue e i (enterStep e i .sealing t p) := (if_pos hl).trans (if_neg (by rw [hc]; nofun))

theorem toSealing_unguarded (hl : (e.portalPins i).barrierLowered = false) :
    toSealing e i t p = guardLost e i (enterStep e i .sealing t p) := if_neg (by rw [hl]; nofun)

theorem sealOrQueue_obstructs (hp : (p.portals.get i).permit = true) (he : (e.portalPins i).edge = true) : sealOrQueue e i p = obstruct e i p :=
  if_pos (by rw [hp, he]; rfl)

theorem sealOrQueue_drives (h : (p.portals.get i).permit = false ∨ (e.portalPins i).edge = false) : sealOrQueue e i p = driveOrQueue e i p :=
  if_neg (by rw [Bool.and_eq_true]; rintro ⟨hp, he⟩; obtain h | h := h <;> simp_all)

theorem enterStep_queued : (enterStep e i st t p).queued (.portal i) = p.queued (.portal i) := putPortal_queued

theorem driveOrQueue_queues : (driveOrQueue e i p).queued (.portal i) = (!(p.portals.get i).permit || p.queued (.portal i)) := by
  cases hp : (p.portals.get i).permit with
  | true => rw [driveOrQueue_permit hp, putPortal_queued]; rfl
  | false => exact driveOrQueue_queued hp

theorem driveOrQueue_record : (driveOrQueue e i (enterStep e i st (.held 0) p)).portals.get i =
    { (p.portals.get i).enter st with travel := if (p.portals.get i).permit then .since e.clock else .held 0 } := by
  rw [driveOrQueue_portal, enterStep_portal]
  cases hp : (p.portals.get i).permit with
  | true => exact if_pos hp
  | false => exact if_neg (by rw [show (Portal.enter st (p.portals.get i)).permit = _ from hp]; nofun)

/-- A motion step that is entered afresh with the permit, the request and the retries of the state before (R119, R131). -/
def Turned (e : Env) (i : PortalId) (p : Plant) (st : Seq) (a : Aspect) (p' : Plant) : Prop :=
  let q := p.portals.get i
  let q' := p'.portals.get i
  q'.seq = st ∧ q'.signal = a ∧ q'.permit = q.permit ∧ q'.retries = q.retries ∧ q'.overdue = false ∧
    p'.queued (.portal i) = (!q.permit || p.queued (.portal i)) ∧
    q'.travel = (if q.permit then .since e.clock else .held 0) ∧ q'.warn = .stopped ∧ q'.confirm = .stopped ∧
    q'.limit = .stopped ∧ q'.retry = .stopped

theorem driveOrQueue_turned {a : Aspect} (ha : st.aspect = some a) : Turned e i p st a (driveOrQueue e i (enterStep e i st (.held 0) p)) := by
  unfold Turned
  intro q q'
  rw [show q' = _ from driveOrQueue_record]
  refine ⟨rfl, ?_, rfl, rfl, rfl, ?_, rfl, rfl, rfl, rfl, rfl⟩
  · exact congrArg (Option.getD · (p.portals.get i).signal) ha
  · rw [driveOrQueue_queues, enterStep_portal, enterStep_queued]
    rfl

/-- A step that has ended at once, without permit or request (R119). -/
def Ended (i : PortalId) (st : Seq) (a : Aspect) (p' : Plant) : Prop :=
  let q' := p'.portals.get i
  q'.seq = st ∧ q'.signal = a ∧ q'.permit = false ∧ q'.starved = false ∧ p'.queued (.portal i) = false ∧ q'.travel = .stopped

theorem toClearing_ended : Ended i .clearing .red (toClearing e i p) := by
  simp only [Ended, toClearing_portal]
  exact ⟨rfl, rfl, rfl, rfl, enterIdle_waits.1, rfl⟩

theorem toSealed_ended : Ended i .sealed .red (toSealed e i p) := by
  simp only [Ended, toSealed_portal]
  exact ⟨rfl, rfl, rfl, rfl, enterIdle_waits.2.1, rfl⟩

theorem toOpen_ended : Ended i .open .dark (toOpen e i p) := by
  simp only [Ended, toOpen_portal]
  exact ⟨rfl, rfl, rfl, rfl, enterIdle_waits.2.2, rfl⟩

/-- A step that is entered without a permit and without a request joins the queue's end (R119). -/
theorem driveOrQueue_joins (hp : (p.portals.get i).permit = false) (hq : p.queued (.portal i) = false) :
    (driveOrQueue e i p).arb.queue.map Request.unit = p.arb.queue.map Request.unit ++ [.portal i] := by
  rw [driveOrQueue, if_neg (by rw [hp]; nofun), joinQueue_units_queue, if_neg (by rw [hq]; nofun)]

theorem letGo_queue : (letGo e i p).arb.queue.map Request.unit = (p.arb.queue.map Request.unit).filter (fun u => u != .portal i) := by
  rw [letGo, putPortal_arb, unqueuePortal, putPortal_arb, dropRequest_units_queue]

/-! ### Limits (R119, R126, R130, R41) -/

theorem onLimit_hand (h : (p.portals.get i).seq = .hand) : onLimit e i p =
    if motionTarget (e.portalPins i) (p.portals.get i).motion then endHand e i .limit p
    else if (p.portals.get i).motion = .gateClosing ∧ (e.portalPins i).barrierLowered = false then endHand e i .guarding p
    else p := if_pos h

theorem stepOpen_iff (h : (p.portals.get i).seq.motionStep = true) : stepOpen p i = true ↔
    (p.portals.get i).permit = true ∨ p.queued (.portal i) = true := by
  simp [stepOpen, h]

theorem onLimit_completes (hs : (p.portals.get i).seq.motionStep = true)
    (ho : (p.portals.get i).permit = true ∨ p.queued (.portal i) = true) (ht : stepTarget (e.portalPins i) (p.portals.get i).seq = true) :
    onLimit e i p = completeStep e i p := by
  rw [onLimit]
  refine (if_neg fun hh => ?_).trans (if_pos ?_)
  · rw [hh] at hs
    cases hs
  · rw [(stepOpen_iff hs).mpr ho, ht]
    rfl

theorem onLimit_unguarded (hs : (p.portals.get i).seq = .sealing) (hp : (p.portals.get i).permit = true)
    (hc : (e.portalPins i).gateClosed = false) (hl : (e.portalPins i).barrierLowered = false) : onLimit e i p = guardLost e i p := by
  simp [onLimit, hs, hp, hl, stepTarget, hc]

theorem onLimit_unsealed (hs : (p.portals.get i).seq = .lifting) (hp : (p.portals.get i).permit = true)
    (hr : (e.portalPins i).barrierRaised = false) (ho : (e.portalPins i).gateOpen = false) :
    onLimit e i p = toUnsealingAway e i (.held 0) p := by
  simp [onLimit, hs, hp, hr, stepTarget, ho]

theorem onLimit_idle (hs : (p.portals.get i).seq.motionStep = false) (hh : (p.portals.get i).seq ≠ .hand) : onLimit e i p = p := by
  have hopen : stepOpen p i = false := by simp [stepOpen, hs]
  have hseal : (p.portals.get i).seq ≠ .sealing := fun h => by rw [h] at hs; cases hs
  have hlift : (p.portals.get i).seq ≠ .lifting := fun h => by rw [h] at hs; cases hs
  simp [onLimit, hh, hopen, hseal, hlift]

theorem motionTarget_iff {pins : PortalPins} {m : HandMotion} : motionTarget pins m = true ↔
    (m = .gateOpening ∧ pins.gateOpen = true) ∨ (m = .gateClosing ∧ pins.gateClosed = true) ∨
      (m = .barrierRising ∧ pins.barrierRaised = true) ∨ (m = .barrierLowering ∧ pins.barrierLowered = true) := by
  cases m <;> simp [motionTarget]

theorem completeStep_eq : ((p.portals.get i).seq = .barring → completeStep e i p = toClearing e i p) ∧
    ((p.portals.get i).seq = .sealing → completeStep e i p = toSealed e i p) ∧
    ((p.portals.get i).seq = .unsealing → completeStep e i p = toLifting e i (.held 0) (letGo e i p)) ∧
    ((p.portals.get i).seq = .lifting → completeStep e i p = toOpen e i p) := by
  refine ⟨fun h => ?_, fun h => ?_, fun h => ?_, fun h => ?_⟩ <;> simp only [completeStep, h]

/-! ### Loops (R124, R132) -/

theorem onLoop_clearing {q : Portal} {occupied : Bool} (h : q.seq = .clearing) : onLoop e occupied q =
    { q with confirm := if occupied then .stopped else if e.loopsClear then .since e.clock else q.confirm } := by
  simp only [onLoop, h]

theorem onLoop_held {q : Portal} {occupied : Bool} (h : q.seq = .held) : onLoop e occupied q =
    { q with confirm := if occupied = true ∧ q.confirm ≠ .stopped then .held 0 else q.confirm } := by
  simp only [onLoop, h, Bool.and_eq_true, bne_iff_ne]

theorem onLoop_other {q : Portal} {occupied : Bool} (hc : q.seq ≠ .clearing) (hh : q.seq ≠ .held) : onLoop e occupied q = q := by
  unfold onLoop
  split
  · exact absurd ‹_› hc
  · exact absurd ‹_› hh
  · rfl

/-! ### Demand (R117, R118, R125) -/

theorem forcedSealing_iff : forcedSealing e p i = true ↔ e.underpass = 4 ∨ p.source (.portal i) = .order ∧
    ∃ o, governingOrder e p (.portal i) = some o ∧ o.verb = .close ∧ o.rank = .overriding := by
  rw [forcedSealing]
  cases governingOrder e p (.portal i) with
  | none => simp
  | some o => simp [and_assoc]

/-- R118's table, by the state and the demand. -/
theorem applyDemand_table (hs : e.cfg.portalService.get i = .inService) (hl : p.locked (.portal i) = false) {d : Option Verb}
    (hd : portalDemand e p i = d) :
    let q := p.portals.get i
    let p' := applyDemand e i p
    let onHold := fun r : Plant => p' = if d = some .hold then toHeld e i p else r
    (q.seq = .open → p' = if d = some .close then toWarning e i p else p) ∧
    (q.seq = .warning → onHold (if d = some .open then toOpen e i p else p)) ∧
    (q.seq = .barring → onHold (if d = some .open then toLifting e i (.held 0) p else p)) ∧
    (q.seq = .clearing → onHold (if d = some .open then toLifting e i (.held 0) p
      else if q.overdue && forcedSealing e p i then toSealing e i (.held 0) p else p)) ∧
    (q.seq = .sealing → onHold (if d = some .open then toUnsealing e i (.held 0) p else p)) ∧
    (q.seq = .sealed → p' = if d = some .open then toUnsealing e i (.held 0) p else p) ∧
    (q.seq = .unsealing → onHold (if d = some .close then toSealing e i (.held 0) p else p)) ∧
    (q.seq = .lifting → onHold (if d = some .close then toBarring e i (.held 0) p else p)) ∧
    (q.seq = .unsettled → onHold (if d = some .close then toBarring e i (.held 0) p
      else if d = some .open then toUnsealing e i (.held 0) p else p)) ∧
    (q.seq = .held → p' = if d = some .hold then p else leaveHeld e i p) := by
  simp only [applyDemand, if_pos (show e.cfg.portalService.get i = .inService ∧ p.locked (.portal i) = false from ⟨hs, hl⟩), hd]
  refine ⟨?_, ?_, ?_, ?_, ?_, ?_, ?_, ?_, ?_, ?_⟩ <;>
  · intro hseq
    rw [hseq]
    cases d with
    | none => rfl
    | some v => cases v <;> rfl

end Entries

/-! ### Settling (R136) -/

section Settling
variable {e : Env} {i : PortalId} {p : Plant}

theorem settlePortal_jammed (h : (p.portals.get i).jam ≠ none) : (settlePortal e i p).portals.get i =
    { p.portals.get i with seq := .jammed, signal := .red, motion := .none } := by
  rw [settlePortal, if_pos (Option.isSome_iff_ne_none.mpr h)]
  exact putPortal_get

theorem settlePortal_held (hj : (p.portals.get i).jam = none) (hs : (p.portals.get i).seq = .held) (hr : (p.portals.get i).resume ≠ none) :
    settlePortal e i p = leaveHeld e i p := by
  rw [settlePortal, if_neg (by rw [hj]; nofun), if_pos ⟨hs, Option.isSome_iff_ne_none.mpr hr⟩]

theorem settlePortal_limits (hj : (p.portals.get i).jam = none) (h : (p.portals.get i).seq ≠ .held ∨ (p.portals.get i).resume = none) :
    (settlePortal e i p).portals.get i = (p.portals.get i).settled (settledState (e.portalPins i)) := by
  rw [settlePortal, if_neg (by rw [hj]; nofun), if_neg ?_]
  · exact putPortal_get
  · rintro ⟨hs, hr⟩
    exact h.elim (fun h => h hs) fun h => Option.isSome_iff_ne_none.mp hr h

theorem settledState_eq {pins : PortalPins} : settledState pins = if pins.gateClosed = true ∧ pins.barrierLowered = true then .sealed
    else if pins.gateOpen = true ∧ pins.barrierRaised = true then .open else .unsettled := by
  simp only [settledState, Bool.and_eq_true]

/-- The signal of a settled portal: dark when OPEN, else red (R116). -/
theorem settled_signal {q : Portal} {pins : PortalPins} : (q.settled (settledState pins)).signal =
    if (q.settled (settledState pins)).seq = .open then .dark else .red := by
  have hstate : settledState pins = .sealed ∨ settledState pins = .open ∨ settledState pins = .unsettled := by
    simp only [settledState]
    split
    · exact .inl rfl
    · split
      · exact .inr (.inl rfl)
      · exact .inr (.inr rfl)
  obtain h | h | h := hstate <;> rw [h] <;> rfl

end Settling

/-- Settles O49: each input by the branch of its event that it takes, the demand by its table, and the entries by the tests that the steps
make. -/
theorem portalInputsAct : Obligations.PortalInputsAct := by
  refine ⟨fun i sw active s => ?_, fun e i p => ?_, fun i active s hnew => ?_, fun lp occupied s => ?_, fun e i p => ?_, fun e i p => ?_⟩
  · intro pins now next e q p open_
    have hpins : e.portalPins i = next := PerPortal.get_set ..
    have hnow : limitSwitch pins sw = now := by cases sw <;> rfl
    have hset : setLimit pins sw active = next := by cases sw <;> rfl
    have hcomplete (hs : q.seq.motionStep = true) (ho : open_) (ht : stepTarget next q.seq = true) : onLimit e i p = completeStep e i p :=
      onLimit_completes hs ho (by rw [hpins]; exact ht)
    obtain ⟨hbarring, hsealing, hunsealing, hlifting⟩ := completeStep_eq (e := e) (i := i) (p := p)
    refine ⟨fun h => if_pos (hnow.trans h), fun h => ?_, fun hs ho ht => (hcomplete ?_ ho ?_).trans (hbarring hs),
      fun hs ho ht => (hcomplete ?_ ho ?_).trans (hsealing hs), fun hs ho ht => (hcomplete ?_ ho ?_).trans (hunsealing hs),
      fun hs ho ht => (hcomplete ?_ ho ?_).trans (hlifting hs),
      fun hs hp hc hl => onLimit_unguarded hs hp (by rw [hpins]; exact hc) (by rw [hpins]; exact hl),
      fun hs hp hr ho => ?_, fun hs => ?_, onLimit_idle⟩
    · refine (if_neg fun h' => h (hnow.symm.trans h')).trans ?_
      rw [show setLimit (s.env.portalPins i) sw active = next from hset]
      rfl
    all_goals first | exact (congrArg Seq.motionStep hs).trans rfl | exact (congrArg (stepTarget next) hs).trans ht | skip
    · rw [onLimit_unsealed hs hp (by rw [hpins]; exact hr) (by rw [hpins]; exact ho), toUnsealingAway, driveOrQueue_record]
      exact ⟨rfl, hp⟩
    · rw [onLimit_hand hs, hpins]
      simp only [motionTarget_iff]
      rfl
  · refine ⟨?_, ?_, ?_, fun hl => ?_, fun hr => ?_, fun hr => ?_⟩
    · rw [toClearing_portal]
      exact ⟨rfl, rfl, rfl, rfl, rfl, rfl⟩
    · rw [toSealed_portal]
      exact ⟨rfl, rfl, rfl, rfl⟩
    · rw [toOpen_portal]
      exact ⟨rfl, rfl, rfl, rfl⟩
    · obtain ⟨hseq, hsignal, hpermit, -, -, hqueued, -⟩ : Turned e i p .barring .red (toBarring e i (.held 0) p) := by
        rw [toBarring_drives hl]
        exact driveOrQueue_turned rfl
      exact ⟨hseq, hsignal, hpermit, hqueued⟩
    · rw [obstruct_portal, if_pos hr]
      exact ⟨rfl, rfl, rfl, rfl, rfl⟩
    · refine ⟨?_, ?_, ?_, ?_, obstruct_jams hr⟩ <;> rw [obstruct_portal, if_neg (Nat.not_lt.mpr hr)] <;> rfl
  · intro e q
    refine (if_neg hnew).trans ?_
    cases active with
    | false => rfl
    | true =>
      simp only [if_true, true_and]
      rfl
  · intro now next clear hnew
    have hnow : readLoop s.env.pins.loops lp = now := by cases lp <;> rfl
    have hnext : putLoop s.env.pins.loops lp occupied = next := by cases lp <;> rfl
    refine ⟨_, (if_neg fun h => hnew (hnow.symm.trans h)).trans (by rw [hnext]), fun i => ?_⟩
    have hclear : ({ s.env with pins := { s.env.pins with loops := next } } : Env).loopsClear = true ↔ clear := by
      simp [Env.loopsClear, clear, and_assoc]
    have hget : (⟨onLoop { s.env with pins := { s.env.pins with loops := next } } occupied s.plant.portals.pe,
        onLoop { s.env with pins := { s.env.pins with loops := next } } occupied s.plant.portals.pw⟩ : PerPortal Portal).get i =
          onLoop { s.env with pins := { s.env.pins with loops := next } } occupied (s.plant.portals.get i) := by cases i <;> rfl
    rw [hget]
    refine ⟨fun hs => ?_, onLoop_held, onLoop_other⟩
    rw [onLoop_clearing hs]
    simp only [hclear]
  · intro q demand forced fresh p' onHold
    have hdemand : portalDemand e p i = demand := rfl
    have hforced : (q.overdue && forcedSealing e p i) = true ↔ forced := by rw [Bool.and_eq_true, forcedSealing_iff]
    refine ⟨fun h => applyDemand_of_not ?_, fun hs hl => ?_⟩
    · rintro ⟨hs, hl⟩
      exact h.elim (fun h => h hs) fun h => by rw [hl] at h; cases h
    · obtain ⟨h1, h2, h3, hclearing, h5, h6, h7, h8, h9, h10⟩ := applyDemand_table hs hl hdemand
      refine ⟨h1, h2, h3, fun hc hd hf => ?_, fun hc hor => ?_, h5, h6, h7, h8, h9, h10, applyDemand_jammed⟩
      · have h := hclearing hc
        rwa [if_neg hd, if_pos (hforced.mpr hf)] at h
      · refine (hclearing hc).trans ?_
        by_cases hd : demand = some .open
        · rw [if_pos hd, if_pos hd]
        · rw [if_neg hd, if_neg hd, if_neg fun h => hor.elim hd fun hf => hf (hforced.mp h)]
  · intro q pins turned
    have hbarring (hl : pins.barrierLowered = false) {p : Plant} : Turned e i p .barring .red (toBarring e i (.held 0) p) := by
      rw [toBarring_drives hl]
      exact driveOrQueue_turned rfl
    have hopens (ho : pins.gateOpen = true) (hr : pins.barrierRaised = true) {p : Plant} :
        Ended i .open .dark (toLifting e i (.held 0) p) ∧ ((toLifting e i (.held 0) p).portals.get i).retries = 0 := by
      rw [toLifting_ends ho hr]
      exact ⟨toOpen_ended, by rw [toOpen_portal]⟩
    refine ⟨fun hl => hbarring hl, fun ho hr => ?_, fun ho => ⟨?_, ?_⟩, ⟨fun hl => ?_, fun hl hc => ?_, fun ho hr => ?_⟩,
      fun hl hc hp he => ?_, fun ho hr => ?_, fun hl hc h => ?_, fun hl => ?_, ?_, ?_⟩
    · rw [toLifting_drives ho hr]
      exact driveOrQueue_turned rfl
    · rw [toUnsealing_away ho]
      exact driveOrQueue_turned rfl
    · rw [toLifting_away ho]
      exact driveOrQueue_turned rfl
    · intro p'
      rw [show p' = _ from toBarring_ends hl]
      exact ⟨toClearing_ended, by rw [toClearing_portal], by rw [toClearing_portal]⟩
    · rw [toSealing_ends hl hc]
      exact ⟨toSealed_ended, by rw [toSealed_portal]⟩
    · rw [toUnsealing_ends ho]
      exact ⟨(hopens ho hr).1, (hopens ho hr).2, (hopens ho hr).1⟩
    · rw [toSealing_seals hl hc, sealOrQueue_obstructs (by rw [enterStep_portal]; exact hp) he]
      rfl
    · intro p' q'
      have hp' : p' = _ := (toUnsealing_ends ho).trans (toLifting_drives ho hr)
      have hq' : q' = _ := (congrArg (fun r : Plant => r.portals.get i) hp').trans driveOrQueue_record
      refine ⟨?_, ?_, ?_, ?_, ?_⟩
      · rw [hq']
        rfl
      · rw [hq']
        rfl
      · rw [hq', letGo_portal]
        rfl
      · rw [hq', letGo_portal]
        rfl
      · rw [hp', driveOrQueue_joins (by rw [enterStep_portal, letGo_portal]; rfl) (enterStep_queued.trans letGo_unqueued), enterStep,
          putPortal_arb, letGo_queue, enterStep, putPortal_arb]
    · rw [toSealing_seals hl hc, sealOrQueue_drives (by rw [enterStep_portal]; exact h)]
      exact driveOrQueue_turned rfl
    · rw [toSealing_unguarded hl]
      obtain ⟨hseq, -, hpermit, -, -, hqueued, -⟩ := hbarring hl (p := letGo e i (enterStep e i .sealing (.held 0) p))
      rw [letGo_portal] at hpermit hqueued
      exact ⟨hseq, hpermit, hqueued⟩
    · rw [toWarning_portal]
      exact ⟨rfl, rfl, rfl, rfl⟩
    · intro q'
      refine ⟨fun hj => ?_, settlePortal_held, fun hj h => ?_⟩
      · rw [show q' = _ from settlePortal_jammed hj]
        exact ⟨rfl, rfl, rfl, rfl, rfl⟩
      · rw [show q' = _ from settlePortal_limits hj h]
        exact ⟨settledState_eq, settled_signal, rfl, rfl, rfl, rfl, rfl, rfl, rfl, rfl⟩

end Sys2Proof.Machine

/-! What a unit does on entering a service state, and when its lock flag is set or clears: O24. -/

namespace Sys2Proof.Machine

/-! ### The lock flag (R11, R38, R132, R133, R136) -/

/-- Two plants with the same pumps, portals, zones and arbiter. -/
structure SameDrives (a p : Plant) : Prop where
  pumps : p.pumps = a.pumps
  portals : p.portals = a.portals
  zones : p.zones = a.zones
  arb : p.arb = a.arb

section Flag
variable {e : Env} {a b p : Plant} {u : UnitId} {s : State} {v : Service}

theorem SameDrives.trans (h : SameDrives a b) (h' : SameDrives b p) : SameDrives a p :=
  ⟨h'.pumps.trans h.pumps, h'.portals.trans h.portals, h'.zones.trans h.zones, h'.arb.trans h.arb⟩

/-- The unit's record as the table gives it, and its report. -/
def recorded (e : Env) (u : UnitId) (p : Plant) : Plant := report e (.unit u) none { p with units := p.units.set u (unitRecOf e.cfg e.table u) }

theorem recorded_drives : SameDrives p (recorded e u p) := ⟨rfl, rfl, rfl, rfl⟩

theorem unitRecOf_locked {c : WorkConfig} {table : List Order} : (unitRecOf c table u).locked = lockFlag table u := rfl

theorem PerUnit.set_get {α : Type} (t : PerUnit α) (u : UnitId) : t.set u (t.get u) = t := by
  cases u with
  | pump i => cases i <;> rfl
  | portal i => cases i <;> rfl
  | zone z => cases z <;> rfl
  | outfall => rfl

/-- A lock flag that stands moves nothing. -/
theorem syncUnit_stands (h : p.locked u = lockFlag e.table u) : SameDrives p (syncUnit e u p) := by
  have hstands : (p.units.get u).locked = (unitRecOf e.cfg e.table u).locked := h
  simp only [syncUnit, hstands, Bool.not_and_self, Bool.and_not_self, Bool.false_eq_true, if_false]
  split
  · exact ⟨rfl, rfl, rfl, rfl⟩
  · exact recorded_drives

theorem syncUnit_locks (hold : p.locked u = false) (hnew : lockFlag e.table u = true) : syncUnit e u p = onLock e u (recorded e u p) := by
  have hold' : (p.units.get u).locked = false := hold
  have hnew' : (unitRecOf e.cfg e.table u).locked = true := hnew
  have hne : p.units.get u ≠ unitRecOf e.cfg e.table u := fun he => by rw [he, hnew'] at hold'; cases hold'
  rw [syncUnit]
  simp only [if_neg hne, hold', hnew', Bool.not_false, Bool.and_self, if_true]
  rfl

theorem syncUnit_unlocks (hold : p.locked u = true) (hnew : lockFlag e.table u = false) : syncUnit e u p = onUnlock e u (recorded e u p) := by
  have hold' : (p.units.get u).locked = true := hold
  have hnew' : (unitRecOf e.cfg e.table u).locked = false := hnew
  have hne : p.units.get u ≠ unitRecOf e.cfg e.table u := fun he => by rw [he, hnew'] at hold'; cases hold'
  rw [syncUnit]
  simp only [if_neg hne, hold', hnew', Bool.not_false, Bool.not_true, Bool.and_self, Bool.false_eq_true, if_false, if_true]
  rfl

theorem syncUnit_record : (syncUnit e u p).units = p.units.set u (unitRecOf e.cfg e.table u) := by
  obtain h | ⟨h, hrec⟩ := syncUnit_units (e := e) (u := u) (p := p)
  · exact h
  · rw [h, ← hrec, PerUnit.set_get]

theorem resolveTable_flag {c : WorkConfig} {us : List UnitId} {table : List Order} : lockFlag (resolveTable c us table) u = lockFlag table u := by
  rw [lockFlag_ranked, resolveTable_ranked, lockFlag_ranked]

/-- The plant as the entry actions of a change of service leave it (R34). -/
def entered (u : UnitId) (v : Service) (s : State) : Plant := enterService (s.withCfg (s.env.cfg.setService u v)).env u v s.plant

/-- A change of service leaves the lock flag: the unit's drives are as its entry actions leave them. -/
theorem recordService_drives (hg : GovernanceOk s) :
    SameDrives (entered u v s) (recordService u v s).plant := by
  let e : Env := (s.withCfg (s.env.cfg.setService u v)).env
  let e' : Env := (recordService u v s).env
  let p := entered u v s
  let told := (changedGovernance e.cfg [u] e.table).foldl (fun a n => report e' (.order n) none a) p
  have htold : SameDrives p told ∧ told.units = s.plant.units :=
    foldl_keeps (P := fun q => SameDrives p q ∧ q.units = s.plant.units) (f := fun a n => report e' (.order n) none a) 
      (fun q n hq => ⟨hq.1.trans ⟨rfl, rfl, rfl, rfl⟩, hq.2⟩) _ ⟨⟨rfl, rfl, rfl, rfl⟩, enterService_units⟩
  have hflag : told.locked u = lockFlag e'.table u := by
    rw [show e'.table = resolveTable e.cfg [u] s.env.table from rfl, resolveTable_flag, Plant.locked, htold.2, hg.2 u]
    rfl
  exact (htold.1.trans (syncUnit_stands hflag)).trans ⟨rfl, rfl, rfl, rfl⟩

theorem changeService_drives : ¬needsRoom u (serviceOf s.env.cfg u) v = true → changeService u v s = settle (recordService u v s) := by
  intro h
  rw [changeService]
  exact congrArg settle (if_neg h)

end Flag

/-! ### A pump out of service or in hand (R35, R36) -/

/-- A pump out of service, or in hand, that nothing stops or starts: it does not wait, it is live only when its hand setting holds it, and
it is not to start. -/
structure PumpSet (e : Env) (i : PumpId) (q : Pump) (lock : Bool) : Prop where
  service : e.cfg.pumpService.get i ≠ .inService
  unqueued : q.run ≠ .queued
  held : q.live = true → e.cfg.pumpService.get i = .inHand ∧ q.hand = true ∧ lock = false
  off : q.run = .stopped → e.cfg.pumpService.get i = .outOfService ∨ q.hand = false

/-- The pump stays as it is under its lock flag. -/
structure SetStays (i : PumpId) (q0 : Pump) (lock : Bool) (p : Plant) : Prop where
  stays : PumpStays i q0 p
  lock : p.locked (.pump i) = lock

section PumpSet
variable {e : Env} {i j : PumpId} {q0 : Pump} {lock : Bool} {p b : Plant}

theorem SetStays.of (h : SetStays i q0 lock p) (hb : PumpStays i q0 b) (hu : b.units = p.units) : SetStays i q0 lock b :=
  ⟨hb, by rw [Plant.locked, hu]; exact h.lock⟩

variable (hset : PumpSet e i q0 lock)
include hset

theorem SetStays.unstopped (h : SetStays i q0 lock p) : immediateStop e i p = p := by
  refine immediateStop_none ?_
  cases hl : (p.pumps.get i).live with
  | false => exact .inr ⟨rfl, by rw [h.stays.record]; exact hset.unqueued⟩
  | true =>
    rw [h.stays.record] at hl
    refine .inl fun hdue => ?_
    obtain hlock | ⟨hin, -⟩ := immediateStopDue_iff.mp hdue
    · rw [h.lock, (hset.held hl).2.2] at hlock
      cases hlock
    · exact hset.service hin

theorem SetStays.immediate (h : SetStays i q0 lock p) : SetStays i q0 lock (immediateStop e j p) := by
  by_cases hj : j = i
  · subst hj
    rw [h.unstopped hset]
    exact h
  · refine h.of ?_ (immediateStop_wrote (e := e) .refl).units
    simp only [immediateStop]
    split
    · split
      · exact h.stays.halt hj
      · exact h.stays.halt hj
      · exact h.stays.unqueue hj
      all_goals exact h.stays
    · exact h.stays

theorem SetStays.notDue (h : SetStays i q0 lock p) {u : SumpId} : standingStopDue e p u i = false := by
  refine Bool.eq_false_iff.mpr fun hdue => ?_
  have hrun := (standingStopDue_running hdue).1
  rw [standingStopDue_eq, h.stays.record] at hdue
  rw [h.stays.record] at hrun
  obtain ⟨hhand, hon, -⟩ := hset.held (live_iff.mpr (.inr hrun))
  simp [hhand, hon] at hdue

theorem SetStays.standing {u : SumpId} (n : Nat) : ∀ {p : Plant}, SetStays i q0 lock p → SetStays i q0 lock (standingStops e u n p) := by
  induction n with
  | zero => exact fun h => h
  | succ n ih =>
    intro p h
    by_cases hsome : ∃ k ∈ e.ring u, standingStopDue e p u k = true
    · obtain ⟨k, hk, hdue⟩ := hsome
      rw [standingStops_round hk hdue]
      exact ih (h.of (h.stays.halts _ fun hi => Bool.eq_false_iff.mp (h.notDue hset) (mem_dueStops.mp hi).2) halts_frame.2)
    · rw [standingStops_none fun k hk => Bool.eq_false_iff.mpr fun hdue => hsome ⟨k, hk, hdue⟩]
      exact h

theorem SetStays.unwanted (h : SetStays i q0 lock p) {wanted : List PumpId} : queueOrLeave e wanted i p = p := by
  have hrun : (p.pumps.get i).run ≠ .queued := by rw [h.stays.record]; exact hset.unqueued
  refine queueOrLeave_stays (Bool.eq_false_iff.mpr fun hjoin => ?_) (by simp [leavesQueue, hrun])
  simp only [joinsQueue, Bool.and_eq_true, beq_iff_eq] at hjoin
  obtain ⟨hstopped, hwants⟩ := hjoin
  rw [h.stays.record] at hstopped
  simp only [wantsStart, h.stays.record] at hwants
  split at hwants
  · exact hset.service ‹_›
  · rename_i hhand
    obtain hout | hoff := hset.off hstopped
    · rw [hhand] at hout
      cases hout
    · simp [hoff] at hwants
  · cases hwants

theorem SetStays.duty (h : SetStays i q0 lock p) {u : SumpId} : SetStays i q0 lock (dutySump e u p) := by
  simp only [dutySump]
  refine foldl_keeps (P := SetStays i q0 lock) (fun q j hq => ?_) _ (h.standing hset 5)
  by_cases hj : j = i
  · subst hj
    rw [hq.unwanted hset]
    exact hq
  · refine hq.of ?_ queueOrLeave_units
    simp only [queueOrLeave]
    split
    · exact (hq.stays.put hj).join fun he => hj (UnitId.pump.inj he)
    · exact hq.stays.unqueue hj
    · exact hq.stays

theorem SetStays.owners (h : SetStays i q0 lock p) : SetStays i q0 lock (ownersAct e p) := by
  have hduty : SetStays i q0 lock (dutyAll e p) := foldl_keeps (P := SetStays i q0 lock) (fun q u hq => hq.duty hset) _ h
  have hpe := portalDemands_wrote (i := .pe) (e := e) (p := dutyAll e p) .refl
  have hpw := portalDemands_wrote (i := .pw) (e := e) (p := portalDemands e .pe (dutyAll e p)) .refl
  have hsequencers : SetStays i q0 lock (sequencers e (dutyAll e p)) :=
    hduty.of ((hduty.stays.portals hpe).portals hpw) (hpw.units.trans hpe.units)
  exact hsequencers.of (hsequencers.stays.zones (lampPass_wrote .refl)) lampPass_units

omit hset in
theorem SetStays.outfallDead (hdead : q0.live = false) (n : Nat) : ∀ {p : Plant}, SetStays i q0 lock p →
    SetStays i q0 lock (outfallStops e n p) := by
  induction n with
  | zero => exact fun h => h
  | succ n ih =>
    intro p h
    simp only [outfallStops]
    split
    · rename_i k hk
      split
      · refine ih (h.of (h.stays.halt ?_) haltPump_fields.2.2.1)
        rintro rfl
        have hlive := latestLivePump_live hk
        rw [h.stays.record, hdead] at hlive
        cases hlive
      · exact h
    · exact h

theorem SetStays.stops (h : SetStays i q0 lock p) (hlimit : q0.live = true → ∀ m, limitInForce e p = some m → liveCount p ≤ m) :
    SetStays i q0 lock (outfallStops e 8 (immediateStops e p)) := by
  have himmediate : SetStays i q0 lock (immediateStops e p) := foldl_keeps (P := SetStays i q0 lock) (fun q j hq => hq.immediate hset) _ h
  cases hl : q0.live with
  | false => exact himmediate.outfallDead hl 8
  | true =>
    rw [outfallStops_within fun m hm => ?_]
    · exact himmediate
    · have hungranted : Ungranted p (immediateStops e p) := foldl_keeps (P := Ungranted p) (fun _ _ hq => hq.immediate) _ .refl
      have hfewer : liveCount (immediateStops e p) ≤ liveCount p := List.countP_mono_left fun j _ hj => (hungranted j).live hj
      rw [limitInForce_congr (immediateStops_wrote (e := e) .refl).units] at hm
      exact hfewer.trans (hlimit hl m hm)

/-- A pump so set keeps its record while the blocks act, where no more pumps are live than the outfall limit allows. -/
theorem SetStays.settle (h : SetStays i q0 lock p) (hlimit : q0.live = true → ∀ m, limitInForce e p = some m → liveCount p ≤ m) :
    (settlePlant e p).pumps.get i = q0 := by
  have hblocks : SetStays i q0 lock (blocksAct e p) :=
    grantPass_induct (P := SetStays i q0 lock) (fun q r hq hr hf =>
      (hq.of (hq.stays.granted hr hf) (grantRequest_wrote (e := e) .refl).units).owners hset) 40 ((h.stops hset hlimit).owners hset)
  exact hblocks.stays.record

end PumpSet

/-! ### The entry actions (R35, R36, R37) -/

section Pumps
variable {e : Env} {i : PumpId} {p : Plant} {s : State} {u : UnitId} {v : Service} {lock : Bool}

theorem unqueuePump_record : (unqueuePump e i p).pumps.get i = { p.pumps.get i with run := .stopped, starved := false } := by
  rw [unqueuePump, putPump_pumps, PerPump.get_set]

theorem putPump_queued {q : Pump} {x : UnitId} : (putPump e i q p).queued x = p.queued x := by simp only [Plant.queued, putPump_arb]

theorem unqueuePump_unqueued : (unqueuePump e i p).queued (.pump i) = false := by
  rw [unqueuePump, putPump_queued]
  exact Bool.eq_false_iff.mpr fun h => (dropRequest_queued.mp h).1 rfl

/-- A pump that enters OUT_OF_SERVICE (R35). -/
theorem pumpOut_record : ((pumpOut e i p).pumps.get i).run = (if (p.pumps.get i).run = .faulted then .faulted else .stopped) ∧
    ((pumpOut e i p).pumps.get i).hand = false ∧ ((pumpOut e i p).pumps.get i).starts = (p.pumps.get i).starts := by
  simp only [pumpOut, putPump_pumps, PerPump.get_set]
  cases hrun : (p.pumps.get i).run with
  | starting => exact ⟨congrArg Pump.run haltPump_pump, trivial, (congrArg Pump.starts haltPump_pump).trans (afterStop_starts ..)⟩
  | running => exact ⟨congrArg Pump.run haltPump_pump, trivial, (congrArg Pump.starts haltPump_pump).trans (afterStop_starts ..)⟩
  | queued => exact ⟨congrArg Pump.run unqueuePump_record, trivial, (congrArg Pump.starts (unqueuePump_record (e := e) (i := i) (p := p)) :)⟩
  | resting => simp
  | stopped => exact ⟨hrun, trivial, rfl⟩
  | faulted => exact ⟨hrun, trivial, rfl⟩

theorem pumpOut_unqueued (hq : (p.pumps.get i).run = .queued ↔ p.queued (.pump i) = true) : (pumpOut e i p).queued (.pump i) = false := by
  have hfree (h : (p.pumps.get i).run ≠ .queued) : p.queued (.pump i) = false := Bool.eq_false_iff.mpr fun hw => h (hq.mpr hw)
  have hhalt : (haltPump e i .off p).queued (.pump i) = p.queued (.pump i) := by simp only [Plant.queued, haltPump_fields.2.2.2]
  simp only [pumpOut, putPump_queued]
  cases hrun : (p.pumps.get i).run with
  | starting => exact hhalt.trans (hfree (by rw [hrun]; nofun))
  | running => exact hhalt.trans (hfree (by rw [hrun]; nofun))
  | queued => exact unqueuePump_unqueued
  | resting => exact putPump_queued.trans (hfree (by rw [hrun]; nofun))
  | stopped => exact hfree (by rw [hrun]; nofun)
  | faulted => exact hfree (by rw [hrun]; nofun)

theorem pumpOut_set {e' : Env} (hs : e'.cfg.pumpService.get i = .outOfService) : PumpSet e' i ((pumpOut e i p).pumps.get i) lock := by
  obtain ⟨hrun, -, -⟩ := pumpOut_record (e := e) (i := i) (p := p)
  refine ⟨by rw [hs]; nofun, ?_, fun hl => ?_, fun _ => .inl hs⟩
  · rw [hrun]
    split <;> nofun
  · rw [live_iff, hrun] at hl
    split at hl <;> simp at hl

/-- A pump that enters IN_HAND is ON exactly while it is live (R36). -/
theorem pumpInHand_record : ((pumpInHand e i p).pumps.get i).hand = (p.pumps.get i).live ∧
    ((pumpInHand e i p).pumps.get i).live = (p.pumps.get i).live ∧ ((pumpInHand e i p).pumps.get i).run ≠ .queued ∧
    ∀ j, j ≠ i → (pumpInHand e i p).pumps.get j = p.pumps.get j := by
  by_cases hrun : (p.pumps.get i).run = .queued
  · have hdead : (p.pumps.get i).live = false := by simp [Pump.live, hrun]
    have hlive : Pump.live { p.pumps.get i with run := .stopped, starved := false } = false := rfl
    simp only [pumpInHand, if_pos hrun, putPump_pumps, PerPump.get_set, unqueuePump_record, hdead, hlive]
    refine ⟨trivial, hlive, nofun, fun j hj => ?_⟩
    rw [PerPump.get_set_ne _ _ hj, unqueuePump, putPump_pumps, PerPump.get_set_ne _ _ hj]
    rfl
  · simp only [pumpInHand, if_neg hrun, putPump_pumps, PerPump.get_set]
    exact ⟨trivial, rfl, hrun, fun j hj => PerPump.get_set_ne _ _ hj⟩

theorem pumpInHand_unqueued (hq : (p.pumps.get i).run = .queued ↔ p.queued (.pump i) = true) : (pumpInHand e i p).queued (.pump i) = false := by
  simp only [pumpInHand, putPump_queued]
  split
  · exact unqueuePump_unqueued
  · exact Bool.eq_false_iff.mpr fun hw => ‹¬_› (hq.mpr hw)

theorem pumpInHand_set {e' : Env} (hs : e'.cfg.pumpService.get i = .inHand) (hlock : (p.pumps.get i).live = true → lock = false) :
    PumpSet e' i ((pumpInHand e i p).pumps.get i) lock := by
  obtain ⟨hhand, hlive, hrun, -⟩ := pumpInHand_record (e := e) (i := i) (p := p)
  refine ⟨by rw [hs]; nofun, hrun, fun hl => ⟨hs, ?_, hlock (hlive.symm.trans hl)⟩, fun hstop => .inr ?_⟩
  · rw [hhand, ← hlive]
    exact hl
  · rw [hhand, ← hlive]
    simp [Pump.live, hstop]

theorem pumpInHand_count : liveCount (pumpInHand e i p) = liveCount p := by
  obtain ⟨-, hlive, -, hother⟩ := pumpInHand_record (e := e) (i := i) (p := p)
  refine List.countP_congr fun j _ => ?_
  by_cases hj : j = i
  · rw [hj, hlive]
  · rw [hother j hj]

/-- The resolution of a table keeps each order's argument under its number. -/
theorem resolveTable_arg {c : WorkConfig} {us : List UnitId} {table : List Order} {n : Nat} :
    ((resolveTable c us table).find? (fun o => o.number == n)).bind Order.arg = (table.find? (fun o => o.number == n)).bind Order.arg := by
  have hnumber : ((fun o : Order => o.number == n) ∘ fun o => if us.contains o.unit then { o with governance := governanceOf c table o } else o) =
      fun o => o.number == n := funext fun o => by
    rw [Function.comp]
    split <;> rfl
  rw [resolveTable, List.find?_map, hnumber]
  cases table.find? (fun o => o.number == n) with
  | none => rfl
  | some o =>
    rw [Option.map_some, Option.bind_some, Option.bind_some]
    split <;> rfl

theorem recordService_limit (hu : u ≠ .outfall) :
    limitInForce (recordService u v s).env (recordService u v s).plant = limitInForce s.env s.plant := by
  rw [limitInForce_eq, limitInForce_eq, governingOrder, governingOrder, recordService_other (Ne.symm hu)]
  cases (s.plant.units.get .outfall).governing with
  | none => rfl
  | some n => exact resolveTable_arg

/-- A pump set by its entry action stays so while the blocks act. -/
theorem enteredPump_settles (hg : GovernanceOk s)
    (hset : PumpSet (recordService (.pump i) v s).env i
      ((entered (.pump i) v s).pumps.get i) (s.plant.locked (.pump i)))
    (hwaits : (entered (.pump i) v s).queued (.pump i) = false)
    (hlimit : ((entered (.pump i) v s).pumps.get i).live = true →
      ∀ m, limitInForce s.env s.plant = some m →
        liveCount (entered (.pump i) v s) ≤ m) :
    (changeService (.pump i) v s).plant.pumps.get i =
      (entered (.pump i) v s).pumps.get i := by
  have hdrives := recordService_drives (u := .pump i) (v := v) hg
  have hlock : (recordService (.pump i) v s).plant.locked (.pump i) = s.plant.locked (.pump i) := by
    rw [Plant.locked, recordService_unit, unitRecOf_locked, recordService_env, resolveTable_flag, Plant.locked, hg.2]
    rfl
  have hstays : SetStays i ((entered (.pump i) v s).pumps.get i)
      (s.plant.locked (.pump i)) (recordService (.pump i) v s).plant :=
    ⟨⟨by rw [hdrives.pumps], by rw [Plant.queued, hdrives.arb]; exact hwaits⟩, hlock⟩
  rw [changeService_drives (u := .pump i) nofun]
  refine hstays.settle hset fun hl m hm => ?_
  rw [recordService_limit (u := .pump i) nofun] at hm
  rw [liveCount, hdrives.pumps]
  exact hlimit hl m hm

end Pumps

section Portals
variable {e : Env} {i j : PortalId} {p b : Plant} {q0 : Portal} {s : State} {v : Service}

theorem enteredPortal_settles (hg : GovernanceOk s) :
    (changeService (.portal i) v s).plant = settlePlant (recordService (.portal i) v s).env (recordService (.portal i) v s).plant ∧
      SameDrives (entered (.portal i) v s) (recordService (.portal i) v s).plant :=
  ⟨by rw [changeService_drives (u := .portal i) nofun]; rfl, recordService_drives hg⟩

/-- A portal that enters OUT_OF_SERVICE (R35, R115). -/
theorem portalOut_record : (portalOut e i p).portals.get i =
    { Portal.enter .out ((stopHand e i p).portals.get i).released with resume := none, jam := none, retries := 0, motion := .none } := by
  simp only [portalOut, putPortal_get, enterIdle_portal]

theorem portalOut_unqueued : (portalOut e i p).queued (.portal i) = false :=
  (putPortal_queued (p := enterIdle e i .out (stopHand e i p))).trans enterIdle_unqueued

/-- The portal is in hand with the motion, the result and the jam of a record. -/
structure HandKept (i : PortalId) (q0 : Portal) (p : Plant) : Prop where
  seq : (p.portals.get i).seq = .hand
  motion : (p.portals.get i).motion = q0.motion
  result : (p.portals.get i).result = q0.result
  jam : (p.portals.get i).jam = q0.jam

theorem HandKept.same (h : HandKept i q0 p) (hp : b.portals.get i = p.portals.get i) : HandKept i q0 b :=
  ⟨by rw [hp]; exact h.seq, by rw [hp]; exact h.motion, by rw [hp]; exact h.result, by rw [hp]; exact h.jam⟩

/-- A permit that a portal in hand takes leaves its motion, where the guard of R42 holds. -/
theorem HandKept.permit (h : HandKept i q0 p) (hguard : q0.motion = .gateClosing → (e.portalPins i).barrierLowered = true) :
    HandKept i q0 (grantPortal e i p) := by
  have htrimmed : HandKept i q0 (lampPass e (permitted e i p)) := by
    refine ⟨?_, ?_, ?_, ?_⟩ <;> rw [trimmed_portal]
    · exact h.seq
    · exact h.motion
    · exact h.result
    · exact h.jam
  rw [grantPortal_eq]
  generalize lampPass e (permitted e i p) = b at htrimmed
  simp only [onPermit, htrimmed.seq]
  rw [if_neg fun hlost => ?_]
  · split
    · refine ⟨?_, ?_, ?_, ?_⟩ <;> rw [letGo_portal]
      · exact htrimmed.seq
      · exact htrimmed.motion
      · exact htrimmed.result
      · exact htrimmed.jam
    · refine ⟨?_, ?_, ?_, ?_⟩ <;> rw [driveOrQueue_portal] <;> split
      · exact htrimmed.seq
      · exact htrimmed.seq
      · exact htrimmed.motion
      · exact htrimmed.motion
      · exact htrimmed.result
      · exact htrimmed.result
      · exact htrimmed.jam
      · exact htrimmed.jam
  · obtain ⟨hclosing, hlowered⟩ := hlost
    rw [hguard (htrimmed.motion.symm.trans hclosing)] at hlowered
    cases hlowered

theorem HandKept.demands (h : HandKept i q0 p) (hs : e.cfg.portalService.get i = .inHand) : HandKept i q0 (portalDemands e j p) := by
  by_cases hj : j = i
  · subst hj
    have hsame : applyDemand e j p = p := applyDemand_elsewhere (by rw [hs]; nofun)
    rw [portalDemands, hsame, hsame, hsame, hsame, hsame]
    exact h
  · exact h.same ((portalDemands_wrote (e := e) .refl).otherPortal (Ne.symm hj))

theorem HandKept.owners (h : HandKept i q0 p) (hs : e.cfg.portalService.get i = .inHand) : HandKept i q0 (ownersAct e p) := by
  have hduty : HandKept i q0 (dutyAll e p) := h.same (congrArg (PerPortal.get · i) (dutyAll_wrote (e := e) .refl).pumpPortals)
  have hsequencers : HandKept i q0 (sequencers e (dutyAll e p)) := (hduty.demands hs).demands hs
  exact hsequencers.same (congrArg (PerPortal.get · i) lampPass_portals)

theorem HandKept.granted (h : HandKept i q0 p) (hguard : q0.motion = .gateClosing → (e.portalPins i).barrierLowered = true)
    {r : Request} (hr : r ∈ p.arb.queue) (hf : fits e p r = true) : HandKept i q0 (grantRequest e r p) := by
  obtain ⟨j, he, -⟩ | ⟨k, he, -⟩ := fits_cases hr hf
  · rw [he]
    exact h.same (congrArg (PerPortal.get · i) grantPump_portals.1)
  · rw [he]
    by_cases hk : k = i
    · subst hk
      exact h.permit hguard
    · refine h.same ?_
      rw [grantPortal_eq, (onPermit_wrote (e := e) .refl).otherPortal (Ne.symm hk), lampPass_portals, permitted_other (Ne.symm hk)]

/-- A portal in hand keeps its motion, its result and its jam while the blocks act. -/
theorem HandKept.settle (h : HandKept i q0 p) (hs : e.cfg.portalService.get i = .inHand)
    (hguard : q0.motion = .gateClosing → (e.portalPins i).barrierLowered = true) : HandKept i q0 (settlePlant e p) := by
  have hstops : HandKept i q0 (outfallStops e 8 (immediateStops e p)) :=
    h.same (congrArg (PerPortal.get · i) (stops_wrote (e := e)).pumpPortals)
  have hblocks : HandKept i q0 (blocksAct e p) :=
    grantPass_induct (P := HandKept i q0) (fun q r hq hr hf => (hq.granted hguard hr hf).owners hs) 40 (hstops.owners hs)
  exact hblocks.same rfl

/-- A portal that enters IN_HAND (R36). -/
theorem portalInHand_drives : HandKept i { p.portals.get i with motion := motionOf (p.portals.get i).motor, result := none }
    (portalInHand e i p) := by
  have hjam : ((if motionOf (p.portals.get i).motor = .none then letGo e i p else p).portals.get i).jam = (p.portals.get i).jam := by
    split
    · rw [letGo_portal]
      rfl
    · rfl
  simp only [portalInHand]
  exact ⟨by rw [putPortal_get], by rw [putPortal_get], by rw [putPortal_get], by rw [putPortal_get]; exact hjam⟩

theorem motionOf_closing {m : Option Motor} (h : motionOf m = .gateClosing) : m = some .gateClose := by
  cases m with
  | none => cases h
  | some x => cases x <;> first | rfl | cases h

end Portals

section Zones
variable {e : Env} {z : ZoneId} {p : Plant} {s : State} {v : Service} {n : Nat}

/-- The blocks' last act on the zones is an allocation, under the unit records as they stand. -/
theorem settle_lastPass : ∃ a : Plant, a.units = s.plant.units ∧ (settle s).plant.zones = (lampPass s.env a).zones := by
  obtain ⟨a, ha⟩ := blocksAct_lampPass (e := s.env) (p := s.plant)
  refine ⟨a, ?_, by rw [settle_plant, settlePlant_eq, refreshConditions_zones, ha]⟩
  rw [← lampPass_units (e := s.env) (p := a), ← ha]
  exact (blocksAct_wrote (e := s.env) .refl).units

theorem settle_hand : ((settle s).plant.zones.get z).hand = (s.plant.zones.get z).hand := (blocksAct_zone z).2.2

theorem settle_zoneOff (h : s.env.cfg.zoneService.get z = .outOfService) :
    ((settle s).plant.zones.get z).output = 0 ∧ ((settle s).plant.zones.get z).ramp = .none := by
  obtain ⟨a, -, hzones⟩ := settle_lastPass (s := s)
  rw [hzones]
  refine ⟨lampPass_output.trans (zoneOutput_off (.inr h)), lampPass_ramp.trans (if_neg ?_)⟩
  rw [ramps_off (.inr h)]
  nofun

theorem settle_zoneHeld (h : s.env.cfg.zoneService.get z = .inHand) : ((settle s).plant.zones.get z).ramp = .none := by
  obtain ⟨a, -, hzones⟩ := settle_lastPass (s := s)
  rw [hzones]
  refine lampPass_ramp.trans (if_neg fun hr => ?_)
  rw [(ramps_iff.mp hr).2.1] at h
  cases h

theorem settle_zoneRamps (hz : z ≠ .z6) (hs : s.env.cfg.zoneService.get z = .inService) (hl : (settle s).plant.locked (.zone z) = false) :
    let q := (settle s).plant.zones.get z
    q.ramp = rampToward (min q.comp q.allowance) q.output := by
  obtain ⟨a, hunits, hzones⟩ := settle_lastPass (s := s)
  rw [hzones]
  refine lampPass_ramp.trans (if_pos (ramps_iff.mpr ⟨hz, hs, ?_⟩))
  rw [Plant.locked, settle_units, ← hunits] at hl
  exact hl

theorem withdrawPermits_zones {l : List PortalId} : (withdrawPermits e l p).zones = p.zones :=
  foldl_keeps (P := fun q => q.zones = p.zones) (f := fun a i => withdrawPermit e i a)
    (fun q i h => (withdrawPermit_wrote (e := e) (i := i) (p := q) .refl).portalZones.trans h) l rfl

theorem makeRoom_zones : (makeRoom e n p).zones = p.zones := by
  induction n generalizing p with
  | zero => rfl
  | succ n ih =>
    by_cases hover : overfull e p = true
    · cases hlatest : latestLivePump p with
      | some i => rw [makeRoom_pump hover hlatest, ih, haltPump_duty.1]
      | none => rw [makeRoom_permits hover hlatest, withdrawPermits_zones]
    · rw [makeRoom_done hover]

/-- What room was made for, the zones and the environment are as the change recorded them. -/
theorem changeService_zone (hg : GovernanceOk s) : ∃ r : State, changeService (.zone z) v s = settle r ∧
    r.env = (recordService (.zone z) v s).env ∧
    r.plant.zones = (entered (.zone z) v s).zones := by
  have hdrives := recordService_drives (u := .zone z) (v := v) hg
  refine ⟨_, rfl, ?_, ?_⟩
  · split <;> rfl
  · split
    · exact makeRoom_zones.trans hdrives.zones
    · exact hdrives.zones

end Zones

/-! ### The lock flag and a unit's drives -/

section Locks
variable {e : Env} {p : Plant}

theorem lockFlag_iff {table : List Order} {u : UnitId} : lockFlag table u = true ↔ ∃ o ∈ table, o.unit = u ∧ o.rank = .lockout := by
  simp [lockFlag]

theorem onLock_pump {i : PumpId} : (onLock e (.pump i) p).pumps.get i =
    if e.cfg.pumpService.get i = .inHand then { p.pumps.get i with hand := false } else p.pumps.get i := by
  simp only [onLock]
  split
  · rw [putPump_pumps, PerPump.get_set]
  · rfl

theorem onLock_zone {z : ZoneId} : ((onLock e (.zone z) p).zones.get z).hand =
    if e.cfg.zoneService.get z = .inHand then 0 else (p.zones.get z).hand := by
  simp only [onLock]
  split
  · rw [putZone_zones, PerZone.get_set]
  · rfl

theorem onLock_portalInHand {i : PortalId} (h : e.cfg.portalService.get i = .inHand) :
    let q := p.portals.get i
    let p' := onLock e (.portal i) p
    let q' := p'.portals.get i
    q'.seq = q.seq ∧ q'.signal = .red ∧ q'.motion = .none ∧ (q.motion ≠ .none →
      q'.permit = false ∧ q'.result = some .stop ∧ q'.travel = .stopped ∧ p'.queued (.portal i) = false) := by
  intro q p' q'
  have hp' : p' = putPortal e i { (stopHand e i p).portals.get i with signal := .red } (stopHand e i p) := by
    simp only [p', onLock, h]
  have hq' : q' = { (stopHand e i p).portals.get i with signal := .red } := by rw [show q' = p'.portals.get i from rfl, hp', putPortal_get]
  have hstop := stopHand_portal (e := e) (i := i) (p := p)
  by_cases hmotion : (p.portals.get i).motion = .none
  · rw [if_pos hmotion] at hstop
    rw [hq', hstop]
    exact ⟨rfl, rfl, hmotion, fun h => absurd hmotion h⟩
  · rw [if_neg hmotion] at hstop
    rw [hq', hstop]
    refine ⟨rfl, rfl, rfl, fun _ => ⟨rfl, rfl, rfl, ?_⟩⟩
    rw [hp', putPortal_queued]
    exact stopHand_released hmotion

/-- The states in which a locked portal goes on standing (R133). -/
def Seq.restsLocked (st : Seq) : Prop := st = .sealed ∨ st = .open ∨ st = .jammed ∨ st = .held

/-- Those that it leaves for HELD (R132). -/
def Seq.heldByLock (st : Seq) : Prop := st.motionStep = true ∨ st = .warning ∨ st = .clearing ∨ st = .unsettled

theorem onLock_portalRests {i : PortalId} (h : e.cfg.portalService.get i = .inService) (hseq : (p.portals.get i).seq.restsLocked) :
    onLock e (.portal i) p = p := by
  obtain hs | hs | hs | hs := hseq <;> simp only [onLock, h, hs]

theorem onLock_portalHeld {i : PortalId} (h : e.cfg.portalService.get i = .inService) (hseq : (p.portals.get i).seq.heldByLock) :
    onLock e (.portal i) p = toHeld e i p := by
  obtain hs | hs | hs | hs := hseq
  · obtain hs | hs | hs | hs := motionStep_iff.mp hs <;> simp only [onLock, h, hs]
  all_goals simp only [onLock, h, hs]

end Locks

/-! ### What the blocks leave of the entry actions -/

section Entered
variable {s : State} {i : PumpId} {k : PortalId} {z : ZoneId}

theorem recorded_service {u : UnitId} {v : Service} (h : u ≠ .outfall) : serviceOf (recordService u v s).env.cfg u = v := serviceOf_set h

theorem pump_entersOut (hg : GovernanceOk s) (hpumps : PumpsOk s) : let q := (changeService (.pump i) .outOfService s).plant.pumps.get i
    q.run = (if (s.plant.pumps.get i).run = .faulted then .faulted else .stopped) ∧ q.hand = false ∧
      q.starts = (s.plant.pumps.get i).starts := by
  intro q
  obtain ⟨-, -, hwaits, -⟩ := hpumps i
  have hentered : entered (.pump i) .outOfService s = pumpOut (s.withCfg (s.env.cfg.setService (.pump i) .outOfService)).env i s.plant := rfl
  have hq : q = (entered (.pump i) .outOfService s).pumps.get i := by
    refine enteredPump_settles hg ?_ ?_ fun hl => ?_
    · rw [hentered]
      exact pumpOut_set (recorded_service (u := .pump i) nofun)
    · rw [hentered]
      exact pumpOut_unqueued hwaits
    · rw [hentered, live_iff, pumpOut_record.1] at hl
      split at hl <;> simp at hl
  rw [hq, hentered]
  exact pumpOut_record

theorem pump_entersHand (hg : GovernanceOk s) (hpumps : PumpsOk s) (hlimit : LimitOk s) (hlocked : LockedStill s) :
    ((changeService (.pump i) .inHand s).plant.pumps.get i).hand = (s.plant.pumps.get i).live := by
  obtain ⟨-, -, hwaits, -⟩ := hpumps i
  have hentered : entered (.pump i) .inHand s = pumpInHand (s.withCfg (s.env.cfg.setService (.pump i) .inHand)).env i s.plant := rfl
  have hq : (changeService (.pump i) .inHand s).plant.pumps.get i = (entered (.pump i) .inHand s).pumps.get i := by
    refine enteredPump_settles hg ?_ ?_ fun _ m hm => ?_
    · rw [hentered]
      refine pumpInHand_set (recorded_service (u := .pump i) nofun) fun hl => Bool.eq_false_iff.mpr fun hlock => ?_
      rw [hlocked.1 i hlock] at hl
      cases hl
    · rw [hentered]
      exact pumpInHand_unqueued hwaits
    · rw [hentered, pumpInHand_count]
      exact hlimit m hm
  rw [hq, hentered]
  exact pumpInHand_record.1

/-- A portal out of service (R115). -/
structure PortalOut (q : Portal) : Prop where
  seq : q.seq = .out
  signal : q.signal = .red
  permit : q.permit = false
  motion : q.motion = .none
  resume : q.resume = none
  jam : q.jam = none
  retries : q.retries = 0
  warn : q.warn = .stopped
  travel : q.travel = .stopped
  confirm : q.confirm = .stopped
  limit : q.limit = .stopped
  retry : q.retry = .stopped

theorem portal_entersOut (hg : GovernanceOk s) : PortalOut ((changeService (.portal k) .outOfService s).plant.portals.get k) := by
  obtain ⟨hsettle, hdrives⟩ := enteredPortal_settles (i := k) (v := .outOfService) hg
  have hentered : entered (.portal k) .outOfService s = portalOut (s.withCfg (s.env.cfg.setService (.portal k) .outOfService)).env k s.plant := rfl
  have hservice : (recordService (.portal k) .outOfService s).env.cfg.portalService.get k = .outOfService :=
    recorded_service (u := .portal k) nofun
  have hstays : PortalStays k ((entered (.portal k) .outOfService s).portals.get k) (recordService (.portal k) .outOfService s).plant := by
    refine ⟨by rw [hdrives.portals], ?_⟩
    rw [Plant.queued, hdrives.arb, hentered]
    exact portalOut_unqueued
  have hkeeps := hstays.settle fun q _ => applyDemand_elsewhere (by rw [hservice]; nofun)
  rw [hsettle, hkeeps.record, hentered, portalOut_record]
  exact ⟨rfl, rfl, rfl, rfl, rfl, rfl, rfl, rfl, rfl, rfl, rfl, rfl⟩

theorem portal_entersHand (hg : GovernanceOk s) (hportals : PortalsOk s) : HandKept k
    { s.plant.portals.get k with motion := motionOf (s.plant.portals.get k).motor, result := none }
      (changeService (.portal k) .inHand s).plant := by
  obtain ⟨hsettle, hdrives⟩ := enteredPortal_settles (i := k) (v := .inHand) hg
  have hentered : entered (.portal k) .inHand s = portalInHand (s.withCfg (s.env.cfg.setService (.portal k) .inHand)).env k s.plant := rfl
  have hkept : HandKept k { s.plant.portals.get k with motion := motionOf (s.plant.portals.get k).motor, result := none }
      (entered (.portal k) .inHand s) := by
    rw [hentered]
    exact portalInHand_drives
  rw [hsettle]
  refine (hkept.same (by rw [hdrives.portals])).settle (recorded_service (u := .portal k) nofun) fun hclosing => ?_
  obtain ⟨-, -, -, -, -, hguard, -⟩ := (hportals k).1
  exact hguard (motionOf_closing hclosing)

theorem zone_entersOut (hg : GovernanceOk s) : let q := (changeService (.zone z) .outOfService s).plant.zones.get z
    q.output = 0 ∧ q.hand = 0 ∧ q.ramp = .none := by
  obtain ⟨r, hr, henv, hzones⟩ := changeService_zone (z := z) (v := .outOfService) hg
  obtain ⟨houtput, hramp⟩ := settle_zoneOff (s := r) (z := z) (by rw [henv]; exact recorded_service (u := .zone z) nofun)
  rw [hr]
  refine ⟨houtput, ?_, hramp⟩
  rw [settle_hand, hzones, show entered (.zone z) .outOfService s = zoneOut _ z s.plant from rfl, zoneOut, putZone_zones, PerZone.get_set]

theorem zone_entersHand (hg : GovernanceOk s) : let q := (changeService (.zone z) .inHand s).plant.zones.get z
    q.hand = (s.plant.zones.get z).output ∧ q.ramp = .none := by
  obtain ⟨r, hr, henv, hzones⟩ := changeService_zone (z := z) (v := .inHand) hg
  have hramp := settle_zoneHeld (s := r) (z := z) (by rw [henv]; exact recorded_service (u := .zone z) nofun)
  rw [hr]
  refine ⟨?_, hramp⟩
  rw [settle_hand, hzones, show entered (.zone z) .inHand s = zoneInHand _ z s.plant from rfl, zoneInHand, putZone_zones, PerZone.get_set]

theorem zone_entersService (hg : GovernanceOk s) (hz : z ≠ .z6)
    (hl : (changeService (.zone z) .inService s).plant.locked (.zone z) = false) :
    let q := (changeService (.zone z) .inService s).plant.zones.get z
    q.ramp = rampToward (min q.comp q.allowance) q.output := by
  obtain ⟨r, hr, henv, -⟩ := changeService_zone (z := z) (v := .inService) hg
  rw [hr] at hl ⊢
  exact settle_zoneRamps hz (by rw [henv]; exact recorded_service (u := .zone z) nofun) hl

/-- Room is made for a budgeted zone that comes from OUT_OF_SERVICE (R104). -/
theorem needsRoom_zone {old : Service} : needsRoom (.zone z) old .inService = true ↔ z ≠ .z6 ∧ old = .outOfService := by
  simp [needsRoom]

end Entered

/-- Settles O24: the entry actions by the record that each writes, which the blocks then leave; a lock flag by what `onLock` and `onUnlock`
do. -/
theorem serviceEntryActions : Obligations.ServiceEntryActions := by
  refine ⟨fun tag ub vb u v s t hg hpumps hqueue hportals hlimit hlocked hslot hsaving hu hv hnew ht => ?_, fun e u p => ?_⟩
  · by_cases hout : u = .outfall
    · subst hout
      exact ⟨nofun, nofun, nofun, nofun, nofun, nofun, fun _ => ⟨nofun, nofun, nofun⟩⟩
    have hexec : exec (.setService .panel tag [ub, vb]) s = .next (replied .panel 0x11 tag .done [] (changeService u v s)) :=
      exec_answered rfl hslot ((handleSetService_passes hsaving hu hout hv).trans (if_neg hnew))
    have ht : t = replied .panel 0x11 tag .done [] (changeService u v s) := Host.Outcome.next.inj (ht.symm.trans hexec)
    have hplant : t.plant = (changeService u v s).plant := by rw [ht, replied_plant]
    refine ⟨?_, ?_, ?_, ?_, ?_, ?_, ?_⟩
    · rintro i rfl rfl
      rw [hplant]
      exact pump_entersOut hg hpumps
    · rintro i rfl rfl
      rw [hplant]
      obtain ⟨h1, h2, h3, h4, h5, h6, h7, h8, h9, h10, h11, h12⟩ := portal_entersOut (k := i) hg
      exact ⟨h1, h2, h3, h4, h5, h6, h7, h8, h9, h10, h11, h12⟩
    · rintro z rfl rfl
      rw [hplant]
      exact zone_entersOut hg
    · rintro i rfl rfl
      rw [hplant]
      exact pump_entersHand hg hpumps hlimit hlocked
    · rintro i rfl rfl
      rw [hplant]
      obtain ⟨hseq, hmotion, hresult, hjam⟩ := portal_entersHand (k := i) hg hportals
      exact ⟨hseq, hmotion, hresult, hjam⟩
    · rintro z rfl rfl
      rw [hplant]
      exact zone_entersHand hg
    · intro hin taken
      subst hin
      refine ⟨?_, ?_, ?_⟩
      · intro i hi c
        subst hi
        refine ⟨?_, fun e p => ⟨congrArg Pump.run unqueuePump_record, unqueuePump_unqueued⟩⟩
        rw [ht, changeService_drives (u := .pump i) nofun]
        rfl
      · intro i hi c
        subst hi
        refine ⟨?_, fun e p => ⟨by rw [letGo_portal]; rfl, letGo_unqueued⟩⟩
        rw [ht, changeService_drives (u := .portal i) nofun]
        rfl
      · intro z hz c s1
        subst hz
        refine ⟨?_, fun hz6 hl => ?_⟩
        · rw [ht, changeService]
          simp only [needsRoom_zone]
          rfl
        · rw [hplant] at hl ⊢
          exact zone_entersService hg hz6 hl
  · intro p' lockout
    refine ⟨syncUnit_record, fun hold hnew => ⟨?_, ?_, ?_⟩, fun hold hnew i hi hs => ?_⟩
    · rintro i rfl
      rw [show p' = _ from syncUnit_locks hold (lockFlag_iff.mpr hnew)]
      exact onLock_pump
    · rintro i rfl q q'
      have hp' : p' = onLock e (.portal i) (recorded e (.portal i) p) := syncUnit_locks hold (lockFlag_iff.mpr hnew)
      refine ⟨fun hs => ?_, fun hs => ⟨fun hseq => ?_, fun hseq => ?_⟩⟩
      · have hhand := onLock_portalInHand (p := recorded e (.portal i) p) hs
        rw [← hp'] at hhand
        exact hhand
      · have hrests := hp'.trans (onLock_portalRests (p := recorded e (.portal i) p) hs hseq)
        rw [show q' = p'.portals.get i from rfl, hrests]
        rfl
      · have hheld := hp'.trans (onLock_portalHeld hs hseq)
        rw [show q' = p'.portals.get i from rfl, hheld, toHeld_portal]
        exact ⟨rfl, rfl, rfl, rfl, rfl, putPortal_queued.trans letGo_unqueued⟩
    · rintro z rfl
      rw [show p' = _ from syncUnit_locks hold (lockFlag_iff.mpr hnew)]
      exact onLock_zone
    · subst hi
      refine (syncUnit_unlocks hold (Bool.eq_false_iff.mpr (lockFlag_iff.not.mpr hnew))).trans ?_
      exact if_pos hs

end Sys2Proof.Machine
